-- ==== Sys2Proof/Word.lean ====
section
/-!
DEFINITION. The words of the part: bytes and 32-bit words of frames and table entries (file 11).
Engineering figures are exact integers; only what the spec sends or holds as bits is a bit vector.
-/

namespace Sys2Proof

/-- One byte of a frame. -/
abbrev Byte := BitVec 8

/-- One 32-bit word of a TABLE entry or of the configuration image (R171), and a wrapping count. -/
abbrev Word := BitVec 32

/-- A 16-bit sequence number (section 9.1). -/
abbrev SeqNo := BitVec 16

end Sys2Proof
end

