-- ==== Sys2Proof/Syntax.lean ====
section
/-!
DEFINITION. The commands: one constructor of `Instr` for each row of spec/opcode_table.json.
A frame command carries the frame's header fields and its body bytes as file 11 lays them out. A row
whose definition fixes a header field leaves it out; the meaning fills it in (log 7).
-/

namespace Sys2Proof

/-- A checked frame: the header of section 11.1 and the body. The body length and the CRC follow from these. -/
structure Frame where
  dest  : Byte
  src   : Byte
  kind  : Byte
  flags : Byte
  seq   : SeqNo
  body  : List Byte
deriving DecidableEq, Repr

/-- The header fields left open of a frame that passes the part: its destination is another node. -/
structure Passing where
  dest  : Byte
  src   : Byte
  flags : Byte
  seq   : SeqNo
deriving DecidableEq, Repr

/-- The header fields left open of a frame addressed to the part. -/
structure Sender where
  src   : Byte
  flags : Byte
  seq   : SeqNo
deriving DecidableEq, Repr

/-- A TABLE frame of one table, or the going-on with one already received: R167 lets events of other
blocks fall between two entries of one frame, and `now` is how many entries are taken in this event.
A frame of n entries taken without a break has `now` at n or above (log 21). -/
inductive TableArrival where
  /-- The frame is received: first index, count, the bytes of its entries. -/
  | frame (snd : Sender) (first count : Byte) (entries : List Byte) (now : Nat)
  /-- Entries left over from the frame received before are taken. -/
  | more (now : Nat)
deriving DecidableEq, Repr

/-- The commands the part takes, one constructor for each row of spec/opcode_table.json. -/
inductive Instr where
  /-- POWER_ON_RESET, with the level of the eight strap pins. -/
  | powerOnReset (straps : Byte)
  /-- PIN_RESET: the reset pin is asserted, with the level of the strap pins. -/
  | pinReset (straps : Byte)
  /-- FRAME_DROPPED: the bytes received, which fail a check of R155. -/
  | frameDropped (bytes : List Byte)
  /-- STRIP: the source is the part's own node. -/
  | strip (dest kind flags : Byte) (seq : SeqNo) (body : List Byte)
  /-- SOURCE_DROP: the source is 0, or 255 where `all` is set. -/
  | sourceDrop (all : Bool) (dest kind flags : Byte) (seq : SeqNo) (body : List Byte)
  /-- FORWARD_FRAME, and every frame that no other row describes. -/
  | forwardFrame (f : Frame)
  /-- UNKNOWN_KIND: addressed to the part, of a kind code it does not know. -/
  | unknownKind (snd : Sender) (kind : Byte) (body : List Byte)
  /-- SAMPLE -/
  | sample (h : Passing) (body : List Byte)
  /-- STATUS -/
  | status (h : Passing) (body : List Byte)
  /-- START; `tail` is the body after the order code. -/
  | start (h : Passing) (tail : List Byte)
  /-- ABORT -/
  | abort (h : Passing) (tail : List Byte)
  /-- LOAD -/
  | load (h : Passing) (tail : List Byte)
  /-- UNLOAD -/
  | unload (h : Passing) (tail : List Byte)
  /-- STOP -/
  | stop (h : Passing) (tail : List Byte)
  /-- SETPOINT -/
  | setpoint (h : Passing) (tail : List Byte)
  /-- TRIP -/
  | trip (h : Passing) (tail : List Byte)
  /-- ENABLE -/
  | enable (h : Passing) (tail : List Byte)
  /-- DISABLE -/
  | disable (h : Passing) (tail : List Byte)
  /-- TRIP_RESET -/
  | tripReset (h : Passing) (tail : List Byte)
  /-- VALVE_OPEN -/
  | valveOpen (h : Passing) (tail : List Byte)
  /-- VALVE_CLOSE -/
  | valveClose (h : Passing) (tail : List Byte)
  /-- MISMATCHED_ORDER, and an ORDER frame whose code is unknown or missing (R182, R183). -/
  | mismatchedOrder (h : Passing) (body : List Byte)
  /-- BROADCAST_ORDER: the destination is 255. -/
  | broadcastOrder (snd : Sender) (body : List Byte)
  /-- PLANT_TABLE_WRITE -/
  | plantTableWrite (a : TableArrival)
  /-- DISPATCH_WRITE -/
  | dispatchWrite (a : TableArrival)
  /-- CHANNEL_WRITE -/
  | channelWrite (a : TableArrival)
  /-- CAVERN_WRITE -/
  | cavernWrite (a : TableArrival)
  /-- STORE_WRITE -/
  | storeWrite (a : TableArrival)
  /-- TRAIN_WRITE -/
  | trainWrite (a : TableArrival)
  /-- CHECK_WRITE -/
  | checkWrite (a : TableArrival)
  /-- SCHEDULE; the whole body. -/
  | schedule (snd : Sender) (body : List Byte)
  /-- TIME; addressed to the part, or to all nodes where `all` is set. -/
  | time (all : Bool) (snd : Sender) (body : List Byte)
  /-- MODE; `arg` is the body after the directive code. -/
  | mode (snd : Sender) (arg : List Byte)
  /-- TRIM -/
  | trim (snd : Sender) (arg : List Byte)
  /-- SWAP -/
  | swap (snd : Sender) (arg : List Byte)
  /-- CLEAR_LATCH -/
  | clearLatch (snd : Sender) (arg : List Byte)
  /-- TRAIN_AVAIL -/
  | trainAvail (snd : Sender) (arg : List Byte)
  /-- RESET -/
  | reset (snd : Sender) (arg : List Byte)
  /-- QUERY_CHANNEL; `index` is the body after the record kind. -/
  | queryChannel (snd : Sender) (index : List Byte)
  /-- QUERY_CAVERN -/
  | queryCavern (snd : Sender) (index : List Byte)
  /-- QUERY_MANIFOLD -/
  | queryManifold (snd : Sender) (index : List Byte)
  /-- QUERY_STORE -/
  | queryStore (snd : Sender) (index : List Byte)
  /-- QUERY_TRAIN -/
  | queryTrain (snd : Sender) (index : List Byte)
  /-- QUERY_CONVERTER -/
  | queryConverter (snd : Sender) (index : List Byte)
  /-- QUERY_SCHEDULE -/
  | querySchedule (snd : Sender) (index : List Byte)
  /-- QUERY_COMPUTATION -/
  | queryComputation (snd : Sender) (index : List Byte)
  /-- QUERY_RING -/
  | queryRing (snd : Sender) (index : List Byte)
  /-- TRIP_CAPTURE -/
  | tripCapture (snd : Sender) (index : List Byte)
  /-- QUERY_PLANT -/
  | queryPlant (snd : Sender) (index : List Byte)
  /-- QUERY_DISPATCH_SET -/
  | queryDispatchSet (snd : Sender) (index : List Byte)
  /-- FRESHNESS_EXPIRY -/
  | freshnessExpiry (c : Fin 96)
  /-- FALLBACK_EXPIRY -/
  | fallbackExpiry
  /-- TRAVEL_TIMER_EXPIRY -/
  | travelTimerExpiry (c : Fin 4)
  /-- DEADBAND_EXPIRY -/
  | deadbandExpiry
  /-- SEQUENCE_TIMER_EXPIRY -/
  | sequenceTimerExpiry (i : Fin 8)
  /-- COOLDOWN_EXPIRY -/
  | cooldownExpiry
  /-- SERVICE_RETRY_EXPIRY -/
  | serviceRetryExpiry
  /-- MARK_TIMER_EXPIRY -/
  | markTimerExpiry
  /-- BOUNDARY_EVENT -/
  | boundaryEvent
  /-- END_OF_RAMP -/
  | endOfRamp
  /-- PLANT_TIME_LIMIT -/
  | plantTimeLimit
  /-- RETURN_WATCH_EXPIRY -/
  | returnWatchExpiry
  /-- PERIOD_TIMER_EXPIRY -/
  | periodTimerExpiry
  /-- EDIT_QUIET_EXPIRY -/
  | editQuietExpiry
  /-- SENDING_END -/
  | sendingEnd
  /-- CONSUMED_WITHOUT_ANSWER: an ORDER frame to the part, or a REPORT frame where `report` is set. -/
  | consumedWithoutAnswer (report : Bool) (snd : Sender) (body : List Byte)
  /-- RESET_PIN_RELEASE -/
  | resetPinRelease
deriving DecidableEq, Repr

end Sys2Proof
end

