-- ==== Sys2Proof/Decode.lean ====
section
/-!
DEFINITION. The commands the opcode table spells in bits: spec/opcode_table.json gives no row any bits, so no word
spells a command. The bytes of frames are read in Machine/Formats.lean and Machine/Operands.lean.
-/

namespace Sys2Proof

/-- The command a word spells by the table's bits: none, as no row has bits. -/
def decodeTableWord (_nbits _w : Nat) : Option Instr := none

end Sys2Proof
end

