-- ==== Sys2Proof/Config.lean ====
section
/-!
DEFINITION. What the part's construction fixes (capacities the spec numbers) and the free values: the
byte codes the spec uses in a report and never states (log 16).
-/

namespace Sys2Proof.Config

/-- Forward queue capacity (R159). -/
def forwardCap : Nat := 24

/-- Order queue capacity (section 9.3). -/
def orderCap : Nat := 16

/-- Report queue capacity (R177). -/
def reportCap : Nat := 48

/-- How many of the reports may be NOTICE or DISPATCH_RECORD (R177). -/
def noticeCap : Nat := 44

/-- Return list capacity (section 9.4). -/
def returnCap : Nat := 64

/-- Schedule table capacity (R104). -/
def scheduleCap : Nat := 192

/-- Rate list capacity (R30). -/
def rateCap : Nat := 16

/-- The arbiter's run limit (R160). -/
def runLimit : Nat := 8

/-- The last second of plant time (R98). -/
def lastSecond : Nat := 4294967295

/-- The last millisecond of plant time (R98), in milliseconds. -/
def lastPlantMs : Nat := 4294967295999

/-- The code byte of a report field whose code the spec does not state; the index names the field.
A free value: it has no body, so nothing can be proved of it (log 16, DESIGN CHOICE). -/
opaque unstatedCode : Nat → Byte

end Sys2Proof.Config
end

