-- ==== Sys2Proof/Machine/State.lean ====
section
/-!
DEFINITION. The state of the part as plain data, block by block (section 1.4 of file 00), and the state
right after a POWER_ON reset. Durations of table fields are in the unit the field states; instants and
deadlines are milliseconds of the part's time base (R4). A stopped timer has no deadline.
-/

namespace Sys2Proof.Machine

/-! ## Codes and small types -/

/-- Answer codes (section 1.6.7), in the order that gives their code. -/
inductive Code where
  | done | busy | state | range | full | tooLate | staleRevision | duplicate | noTime | timeBack
  | unknownKind | source | unsettled | heatLow | direction | waitDeadband | limit | active
deriving DecidableEq, Repr, Inhabited

/-- Order codes, counted from 1 in this order (section 11.3). -/
inductive Order where
  | start | abort | load | unload | stop | setpoint | trip | enable | disable | tripReset | valveOpen | valveClose
deriving DecidableEq, Repr, Inhabited

/-- The quantity a channel measures (section 1.1). -/
inductive ChanKind where
  | pressure | temperature | frequency | power | generic
deriving DecidableEq, Repr, Inhabited

/-- Channel qualities (section 1.5); SUBSTITUTED is presented only. -/
inductive Quality where
  | none | settling | good | outOfRange | stale | substituted
deriving DecidableEq, Repr, Inhabited

/-- Valve states (section 2.1). -/
inductive ValveState where
  | unknown | closed | opening | opened | closing | fault
deriving DecidableEq, Repr, Inhabited

/-- Positions a valve controller reports (section 2.2). -/
inductive ValvePos where
  | opened | closed | travelling | fault
deriving DecidableEq, Repr, Inhabited

/-- Isolation marks (section 2.5). -/
inductive Mark where
  | none | low | high
deriving DecidableEq, Repr, Inhabited

/-- The two flow directions of the manifold (section 2.6). -/
inductive Direction where
  | charge | discharge
deriving DecidableEq, Repr, Inhabited

/-- Manifold states (section 2.6). -/
inductive ManifoldState where
  | idle | charge | discharge | changeover
deriving DecidableEq, Repr, Inhabited

/-- Store qualities (R51). -/
inductive StoreQuality where
  | good | degraded | unavailable
deriving DecidableEq, Repr, Inhabited

/-- What a train slot holds (section 4.1). -/
inductive TrainKind where
  | compressor | expander | absent
deriving DecidableEq, Repr, Inhabited

/-- Train states (section 4.2). -/
inductive TrainState where
  | unknown | offline | standby | startWait | starting | idleRun | loading | loaded | unloading | stopping | tripped
deriving DecidableEq, Repr, Inhabited

/-- Events a unit controller reports (section 4.4). -/
inductive TrainEvent where
  | atSpeed | loadedAck | unloaded | stopped | tripped | tripClear
deriving DecidableEq, Repr, Inhabited

/-- A report of a unit controller: a state report or an event (section 4.4). -/
inductive TrainReport where
  | state (s : TrainState)
  | event (e : TrainEvent)
deriving DecidableEq, Repr, Inhabited

/-- The cause a TRAIN_STATE notice carries (R61); `write` is the TABLE write of R60, whose code the spec
does not state (log 16). -/
inductive Cause where
  | order | report | adoption | timeout | reset | write
deriving DecidableEq, Repr, Inhabited

/-- Converter states (section 5.1). -/
inductive ConvState where
  | free | busy (slot : Fin 8) | cooldown | fault
deriving DecidableEq, Repr, Inhabited

/-- Clock states (section 6.1). -/
inductive ClockState where
  | invalid | valid | unsynced
deriving DecidableEq, Repr, Inhabited

/-- Source tags of a schedule entry (section 6.3); FALLBACK is the tag of R103. -/
inductive SourceTag where
  | dayAhead | intraday | balancing | fallback
deriving DecidableEq, Repr, Inhabited

/-- Dispatch modes (R138). -/
inductive Mode where
  | off | manual | auto | hold
deriving DecidableEq, Repr, Inhabited

/-- What drove a computation (section 7.1). -/
inductive TriggerKind where
  | reading | fallback
deriving DecidableEq, Repr, Inhabited

/-- Ring continuity states (section 9.4). -/
inductive Continuity where
  | undetermined | ringClosed | ringOpen
deriving DecidableEq, Repr, Inhabited

/-- Check states (section 10.3). -/
inductive CheckState where
  | unchecked | isMatch | mismatch
deriving DecidableEq, Repr, Inhabited

/-- Reset kinds (section 1.6.6). -/
inductive ResetKind where
  | powerOn | pin | cold | warm
deriving DecidableEq, Repr, Inhabited

/-- The tables a TABLE frame may name (section 10.1). -/
inductive TableId where
  | plant | dispatch | channel | cavern | store | train | check
deriving DecidableEq, Repr, Inhabited

/-- The record kinds of a QUERY (R180), in the order of their codes. -/
inductive RecordKind where
  | channel | cavern | manifold | store | train | converter | schedule | computation | ring | tripCapture | plant
  | dispatchSet
deriving DecidableEq, Repr, Inhabited

/-! ## Reports and frames of the part -/

/-- Notice classes (section 11.3). -/
inductive NoticeClass where
  | safety | config | limit | schedule | ring | sequence | guard
deriving DecidableEq, Repr, Inhabited

/-- Notice names, in the order section 11.3 lists them class by class. -/
inductive NoticeName where
  | valveFault | valveTimeout | cavernIsolated | trainTripped | startFailed | loadTimeout | unloadTimeout | stopTimeout
  | converterFault
  | started | configMatch | configMismatch | dispatchSetAdopted
  | gridMeterStale | gridMeterRestored | gridDeviation | gridDeviationEnd | rateHold | rateHoldEnd | cavernReopened
  | heatStoreQuality | limitStarved | reserveShort | reserveShortEnd
  | scheduleAirShort | scheduleAirFull | scheduleHeatShort | scheduleHeatFull | scheduleGap | scheduleCleared
  | clockSet | clockSynced | clockUnsynced
  | ringOpen | ringClosed
  | trainState | stateMismatch | queueFull | valveMismatch | valveRecovered | manifoldChange | heatLow | startQueued
  | converterAvailable | modeChange
  | guardRefused | guardDropped | guardClamped
deriving DecidableEq, Repr, Inhabited

/-- The source record a notice names, if any (R176, R179). -/
inductive SourceRecord where
  | none | cavern (c : Fin 4) | store (m : Fin 3) | train (i : Fin 8)
deriving DecidableEq, Repr, Inhabited

/-- One item of a report: a code or flag (one byte), a figure (four bytes), a code the spec does not state
(log 16), or a field that is none (log 14). -/
inductive Item where
  | code (n : Nat)
  | fig (v : Int)
  | unstated (which : Nat)
  | none
deriving DecidableEq, Repr, Inhabited

/-- A notice as it was built (R176): its own fields are `items`, and `lost` is the count of R177. -/
structure Notice where
  name    : NoticeName
  cls     : NoticeClass
  source  : SourceRecord
  seconds : Nat
  millis  : Nat
  lost    : Nat
  items   : List Item
deriving DecidableEq, Repr, Inhabited

/-- The four kinds of report (section 10.5). The last part of an answer is what the answer to MODE adds. -/
inductive ReportBody where
  | answer (kind : Byte) (seq : SeqNo) (codes : List Code) (modeItems : List Item)
  | notice (n : Notice)
  | record (items : List Item)
  | reply (seq : SeqNo) (kind : RecordKind) (items : List Item)
deriving DecidableEq, Repr

/-- A report of the part with its addressee (R176). -/
structure Report where
  dest : Byte
  body : ReportBody
deriving DecidableEq, Repr

/-- An ORDER frame of the part as it waits in the order queue. -/
structure OwnOrder where
  dest  : Byte
  order : Order
  value : Int
deriving DecidableEq, Repr

/-- What is on the downstream port: a frame of another source, or an own frame with its sequence number. -/
inductive Sent where
  | forwarded (f : Frame)
  | order (seq : SeqNo) (o : OwnOrder)
  | report (seq : SeqNo) (r : Report)
deriving DecidableEq, Repr

/-- An entry of the return list (section 9.4); `kind` is the frame's kind code. -/
structure Return where
  seq     : SeqNo
  kind    : Byte
  instant : Nat
deriving DecidableEq, Repr

/-- The Ring Interface (chapter 9). -/
structure Ring where
  forward    : List Frame
  orders     : List OwnOrder
  sending    : Option Sent
  run        : Nat
  seqNo      : SeqNo
  returns    : List Return
  watch      : Option Nat
  continuity : Continuity
  received   : Word
  forwarded  : Word
  consumed   : Word
  stripped   : Word
  dropped    : Word
  withheld   : Word
deriving DecidableEq, Repr

/-- The report queue with its counts and the suppression of DISPATCH_RECORDs (R177, R178). -/
structure Reports where
  queue      : List Report
  lostNotice : Nat
  lostAnswer : Word
  declined   : Word
  suppressed : Bool
deriving DecidableEq, Repr

/-! ## Channels -/

/-- Parameter fields of a channel entry (section 1.1). -/
structure ChanParams where
  source     : Nat
  slot       : Nat
  kind       : ChanKind
  offset     : Int
  gain       : Int
  scale      : Int
  zero       : Int
  rangeLow   : Int
  rangeHigh  : Int
  freshness  : Nat
  length     : Nat
  substitute : Int
  substFlag  : Bool
deriving DecidableEq, Repr, Inhabited

/-- A channel entry with its runtime state (section 1.1). -/
structure Channel where
  p        : ChanParams
  window   : List Int
  inst     : Int
  avg      : Int
  quality  : Quality
  timer    : Option Nat
  last     : Option Nat
  accepted : Word
  invalid  : Word
deriving DecidableEq, Repr, Inhabited

/-- What a consumer sees of its channel (R12). -/
structure View where
  quality : Quality
  inst    : Int
  avg     : Int
deriving DecidableEq, Repr, Inhabited

/-- The grid meter supervision and the deviation flags (section 1.7). -/
structure Grid where
  tracking : Bool
  timer    : Option Nat
  lastComp : Option Nat
  dev      : Bool
  seen     : Bool
deriving DecidableEq, Repr, Inhabited

/-! ## Caverns, manifold, stores -/

/-- Parameter fields of a cavern record (section 2.1). -/
structure CavernParams where
  present   : Bool
  channel   : Option Nat
  node      : Nat
  pMin      : Int
  pMax      : Int
  taper     : Int
  rateLimit : Int
  stiffness : Int
  travel    : Nat
  notify    : Bool
deriving DecidableEq, Repr, Inhabited

/-- A cavern record with its runtime state (section 2.1). -/
structure Cavern where
  p         : CavernParams
  valve     : ValveState
  timer     : Option Nat
  mark      : Mark
  rates     : List (Int × Nat)
  rate      : Int
  rateValid : Bool
  hold      : Bool
  gen       : Int
  absorb    : Int
deriving DecidableEq, Repr, Inhabited

/-- The manifold record (section 2.6). -/
structure Manifold where
  state      : ManifoldState
  remembered : Option Direction
  timer      : Option Nat
deriving DecidableEq, Repr, Inhabited

/-- One layer of a heat store (section 3.1). -/
structure Layer where
  channel  : Nat
  capacity : Int
deriving DecidableEq, Repr, Inhabited

/-- Parameter fields of a store record (section 3.1); the layer count is the length of the layer list. -/
structure StoreParams where
  present  : Bool
  layers   : List Layer
  tRef     : Int
  eFloor   : Int
  eCeiling : Int
  band     : Int
  notify   : Bool
deriving DecidableEq, Repr, Inhabited

/-- A layer view: the quality and average its channel last gave (R49). -/
structure LayerView where
  quality : Quality
  avg     : Int
deriving DecidableEq, Repr, Inhabited

/-- A store record with its runtime state (section 3.1). -/
structure Store where
  p       : StoreParams
  views   : List LayerView
  energy  : Int
  quality : StoreQuality
  gen     : Int
  absorb  : Int
deriving DecidableEq, Repr, Inhabited

/-! ## Trains and converter -/

/-- Parameter fields of a train slot (section 4.1). -/
structure TrainParams where
  kind      : TrainKind
  node      : Nat
  pMax      : Int
  pMin      : Int
  ramp      : Int
  tStart    : Nat
  tLoad     : Nat
  tUnload   : Nat
  tStop     : Nat
  store     : Nat
  position  : Nat
  notify    : Bool
deriving DecidableEq, Repr, Inhabited

/-- The last report taken from a controller (section 4.1). -/
structure LastReport where
  kind  : Byte
  code  : Byte
  power : Int
deriving DecidableEq, Repr, Inhabited

/-- A trip capture record (R73). -/
structure Capture where
  plantMs  : Nat
  clock    : ClockState
  state    : TrainState
  setpoint : Int
  cause    : Nat
  manifold : ManifoldState
  factor   : Int
deriving DecidableEq, Repr, Inhabited

/-- A train slot with its runtime state (section 4.1). An absent slot holds no state: its runtime fields
stand at the blank values of `Train.blankRun` (log 31). -/
structure Train where
  p           : TrainParams
  state       : TrainState
  entry       : Nat
  timer       : Option Nat
  setpoint    : Int
  starved     : Bool
  available   : Bool
  tripClear   : Bool
  preState    : Option TrainState
  preSetpoint : Int
  lastReport  : Option LastReport
  stack       : List Capture
  overrun     : Bool
deriving DecidableEq, Repr, Inhabited

/-- The converter record and the start queue (section 5.1). -/
structure Converter where
  state    : ConvState
  queue    : List (Fin 8)
  cooldown : Option Nat
  retry    : Option Nat
  starts   : Word
  faults   : Word
deriving DecidableEq, Repr, Inhabited

/-! ## Clock and schedule -/

/-- The clock record (section 6.1). `plantMs` is the plant time in milliseconds, 0 while there is none. -/
structure Clock where
  state   : ClockState
  plantMs : Nat
  mark    : Option Nat
deriving DecidableEq, Repr, Inhabited

/-- A schedule entry (section 6.3). -/
structure Entry where
  interval : Nat
  net      : Int
  reserve  : Int
  revision : Nat
  ramp     : Bool
  tag      : SourceTag
deriving DecidableEq, Repr, Inhabited

/-- An entry of a SCHEDULE frame as its 15 bytes stand, before any check (section 11.2). -/
structure RawEntry where
  interval : Nat
  net      : Int
  reserve  : Nat
  revision : Nat
  ramp     : Bool
  withdraw : Bool
  tag      : Nat
deriving DecidableEq, Repr, Inhabited

/-- The schedule table, the active entry, the ending entry with its end of ramp in plant milliseconds, and
the trim (sections 6.3, 6.5). While the clock is INVALID the active entry has no interval number (log 28). -/
structure Schedule where
  table  : List Entry
  active : Entry
  ending : Option (Entry × Nat)
  trim   : Int
deriving DecidableEq, Repr, Inhabited

/-! ## Dispatch -/

/-- The dispatch parameter set (section 7.2). -/
structure DispatchSet where
  deadband     : Int
  fFull        : Int
  quantum      : Int
  startPm      : Int
  stopPm       : Int
  stopDelay    : Nat
  idleLimit    : Nat
  startLead    : Nat
  dirThreshold : Int
deriving DecidableEq, Repr, Inhabited

/-- What the computation record holds of one present slot (R133). -/
structure SlotRecord where
  kind     : TrainKind
  state    : TrainState
  setpoint : Int
  avail    : Option Int
  starved  : Bool
  part     : Bool
  track    : Option Int
deriving DecidableEq, Repr, Inhabited

/-- The last computation record (R133). -/
structure CompRecord where
  count      : Word
  plantMs    : Nat
  clock      : ClockState
  trigger    : TriggerKind
  fDev       : Int
  mode       : Mode
  manifold   : ManifoldState
  interval   : Nat
  isFallback : Bool
  reserve    : Int
  sched      : Int
  fcr        : Int
  trim       : Int
  req        : Int
  envMax     : Int
  envMin     : Int
  target     : Int
  shortfall  : Int
  noIncrease : Bool
  resShort   : Bool
  gen        : Int
  absorb     : Int
  deficit    : Option Int
  unplaced   : Option Nat
  slots      : List (Option SlotRecord)
deriving DecidableEq, Repr, Inhabited

/-- The Dispatch Engine (chapter 7). `fresh` stands for R130's "Δt is 0 at the first performed computation
after ..." (log 30). -/
structure Dispatch where
  active      : DispatchSet
  next        : DispatchSet
  swap        : Bool
  last        : Option CompRecord
  target      : Int
  count       : Word
  period      : Nat
  resShort    : Bool
  tracks      : Vector Int 8
  fresh       : Bool
deriving DecidableEq, Repr

/-- The dispatch mode and the hold-cause set (section 8.1). -/
structure ModeRecord where
  mode     : Mode
  config   : Bool
  ringOpen : Bool
  unsynced : Bool
deriving DecidableEq, Repr, Inhabited

/-- The figures of the demand step (R144). -/
structure Demand where
  ahead   : Int
  commit  : Int
  demand  : Int
  desired : Option Direction
  c       : Int
  cFlow   : Int
deriving DecidableEq, Repr, Inhabited

/-- The commitment state (section 8.2): the stop candidate with its start instant, and the last figures. -/
structure Commitment where
  stop    : Option (Fin 8 × Nat)
  figures : Option Demand
deriving DecidableEq, Repr, Inhabited

/-! ## Table Manager -/

/-- The plant table (section 10.1.1). -/
structure PlantTable where
  master         : Nat
  gridNode       : Nat
  gridChannel    : Option Nat
  fNom           : Int
  interval       : Nat
  rampHalf       : Nat
  gateLead       : Nat
  markTimeout    : Nat
  fallbackNet    : Int
  fallbackRes    : Int
  deadband       : Nat
  rateSpacing    : Nat
  genRatio       : Int
  compRatio      : Int
  convNode       : Nat
  cooldown       : Nat
  spacing        : Nat
  fallbackPeriod : Nat
  alarm          : Int
  recordPeriod   : Nat
  returnTimeout  : Nat
  almostFull     : Nat
  almostEmpty    : Nat
  enLimit        : Bool
  enSchedule     : Bool
  enRing         : Bool
  enSequence     : Bool
  enGuard        : Bool
deriving DecidableEq, Repr, Inhabited

/-- A TABLE frame whose later entries have not been taken yet (R167, log 21): the sender, the table, the next
index, the entries left as words, and the codes of the entries taken. -/
structure TableWork where
  snd   : Sender
  table : TableId
  index : Nat
  left  : List (List Word)
  codes : List Code
deriving DecidableEq, Repr

/-- The reset-kind record (section 10.4): the kind, and for a directive its source and sequence number. -/
structure ResetRecord where
  kind : ResetKind
  by'  : Option (Byte × SeqNo)
deriving DecidableEq, Repr

/-- The Table Manager's own state (sections 10.3, 10.4). -/
structure Manager where
  checkWord  : Word
  check      : CheckState
  lastSum    : Option Word
  periodTimer : Option Nat
  quiet      : Option Nat
  resetBy    : ResetRecord
  work       : Option TableWork
deriving DecidableEq, Repr

/-! ## The whole part -/

/-- The state of the part, with the queue of waiting commands. -/
structure State where
  pending  : List Instr
  held     : Bool
  node     : Byte
  now      : Nat
  ring     : Ring
  rep      : Reports
  chans    : Vector Channel 96
  grid     : Grid
  caverns  : Vector Cavern 4
  manifold : Manifold
  stores   : Vector Store 3
  trains   : Vector Train 8
  conv     : Converter
  clock    : Clock
  sched    : Schedule
  disp     : Dispatch
  mode     : ModeRecord
  commit   : Commitment
  plant    : PlantTable
  mgr      : Manager
deriving DecidableEq, Repr

/-- No fault: the spec describes no event at which the part stops (INVENTORY.md, Faults). -/
inductive Fault where
deriving DecidableEq, Repr

/-- The refusals of a step. -/
inductive Refusal where
  /-- A command without a meaning in this model; no arm of `exec` uses it. Safe. -/
  | notModelled (mnemonic : String)
deriving DecidableEq, Repr

/-! ## Reset values -/

/-- An absent channel entry after a cold reset: every field 0 (R21). -/
def Channel.zeroed : Channel where
  p := { source := 0, slot := 0, kind := .pressure, offset := 0, gain := 0, scale := 0, zero := 0, rangeLow := 0
         rangeHigh := 0, freshness := 0, length := 0, substitute := 0, substFlag := false }
  window := []
  inst := 0
  avg := 0
  quality := .none
  timer := none
  last := none
  accepted := 0
  invalid := 0

/-- An absent cavern record after a cold reset (R44). Its channel field holds 0. -/
def Cavern.zeroed : Cavern where
  p := { present := false, channel := some 0, node := 0, pMin := 0, pMax := 0, taper := 0, rateLimit := 0, stiffness := 0
         travel := 0, notify := false }
  valve := .unknown
  timer := none
  mark := .none
  rates := []
  rate := 0
  rateValid := false
  hold := false
  gen := 0
  absorb := 0

/-- An absent store record after a cold reset (R56). -/
def Store.zeroed : Store where
  p := { present := false, layers := [], tRef := 0, eFloor := 0, eCeiling := 0, band := 0, notify := false }
  views := []
  energy := 0
  quality := .unavailable
  gen := 0
  absorb := 0

/-- A train slot after a cold reset (R85): ABSENT, every field 0, with an empty trip capture stack. -/
def Train.zeroed : Train where
  p := { kind := .absent, node := 0, pMax := 0, pMin := 0, ramp := 0, tStart := 0, tLoad := 0, tUnload := 0, tStop := 0
         store := 0, position := 0, notify := false }
  state := .offline
  entry := 0
  timer := none
  setpoint := 0
  starved := false
  available := true
  tripClear := false
  preState := none
  preSetpoint := 0
  lastReport := none
  stack := []
  overrun := false

/-- The default dispatch parameter set (section 7.2). -/
def DispatchSet.default' : DispatchSet where
  deadband := 10
  fFull := 200
  quantum := 100
  startPm := 900
  stopPm := 700
  stopDelay := 300
  idleLimit := 600
  startLead := 600
  dirThreshold := 5000

/-- The default plant table (section 10.1.1). -/
def PlantTable.default' : PlantTable where
  master := 0
  gridNode := 0
  gridChannel := none
  fNom := 50000
  interval := 900
  rampHalf := 300
  gateLead := 900
  markTimeout := 300
  fallbackNet := 0
  fallbackRes := 0
  deadband := 120
  rateSpacing := 10
  genRatio := 0
  compRatio := 0
  convNode := 0
  cooldown := 60
  spacing := 100
  fallbackPeriod := 500
  alarm := 200
  recordPeriod := 4
  returnTimeout := 100
  almostFull := 8
  almostEmpty := 8
  enLimit := true
  enSchedule := true
  enRing := true
  enSequence := true
  enGuard := true

/-- The state every POWER_ON, PIN or COLD reset gives the blocks, before the STARTED notice and with the
fields that the kinds of reset treat differently at their POWER_ON values: the tables of sections 1.9, 2.9,
3.8, 4.11, 5.9, 6.9, 7.13, 9.7 and 10.4. -/
def State.unconfigured (node : Byte) (kind : ResetKind) (by' : Option (Byte × SeqNo)) : State where
  pending := []
  held := false
  node := node
  now := 0
  ring := { forward := [], orders := [], sending := none, run := 0, seqNo := 0, returns := [], watch := none
            continuity := .undetermined, received := 0, forwarded := 0, consumed := 0, stripped := 0, dropped := 0, withheld := 0 }
  rep := { queue := [], lostNotice := 0, lostAnswer := 0, declined := 0, suppressed := false }
  chans := Vector.replicate 96 Channel.zeroed
  grid := { tracking := false, timer := some 500, lastComp := none, dev := false, seen := false }
  caverns := Vector.replicate 4 Cavern.zeroed
  manifold := { state := .idle, remembered := none, timer := none }
  stores := Vector.replicate 3 Store.zeroed
  trains := Vector.replicate 8 Train.zeroed
  conv := { state := .free, queue := [], cooldown := none, retry := none, starts := 0, faults := 0 }
  clock := { state := .invalid, plantMs := 0, mark := none }
  sched := { table := [], active := { interval := 0, net := 0, reserve := 0, revision := 0, ramp := false, tag := .fallback }
             ending := none, trim := 0 }
  disp := { active := DispatchSet.default', next := DispatchSet.default', swap := false, last := none, target := 0, count := 0
            period := 0, resShort := false, tracks := Vector.replicate 8 0, fresh := true }
  mode := { mode := .off, config := false, ringOpen := false, unsynced := false }
  commit := { stop := none, figures := none }
  plant := PlantTable.default'
  mgr := { checkWord := 0, check := .unchecked, lastSum := none, periodTimer := some 2000, quiet := none
           resetBy := { kind := kind, by' := by' }, work := none }

/-- The STARTED notice of State.reset (R175): to node 255, as the master node is 0; it carries the reset kind
POWER_ON with no source and sequence number, node 1, mode OFF, no hold cause, clock INVALID, check UNCHECKED. -/
def startedAtReset : Report where
  dest := 255
  body := .notice { name := .started, cls := .config, source := .none, seconds := 0, millis := 0, lost := 0
                    items := [.code 0, .none, .none, .fig 1, .code 0, .code 0, .code 0, .code 0] }

/-- The machine right after a POWER_ON reset with the straps at 1 (log 4): every block unconfigured, and the
STARTED notice leaving on the downstream port with sequence number 0, its return awaited within 100 ms. -/
def State.reset : State :=
  let s := State.unconfigured 1 .powerOn none
  { s with ring := { s.ring with sending := some (.report 0 startedAtReset), seqNo := 1
                                 returns := [{ seq := 0, kind := 9, instant := 0 }], watch := some 100 } }

end Sys2Proof.Machine
end

