-- ==== Sys2Proof/Machine/Arith.lean ====
section
/-!
DEFINITION. The arithmetic of section 1.6.3, the byte order of chapter 11 and the CRC of section 11.1.
Intermediates are exact integers: no formula of the spec leaves 64 bits on fields in range (log 10).
-/

namespace Sys2Proof.Machine

/-- Clamping into an interval (section 1.6.3). -/
def clampTo (lo hi x : Int) : Int := if x < lo then lo else if hi < x then hi else x

/-- Saturation to the 24-bit range (section 1.3). -/
def sat24 (x : Int) : Int := clampTo (-8388608) 8388607 x

/-- Saturation to the 32-bit range (section 1.6.3). -/
def sat32 (x : Int) : Int := clampTo (-2147483648) 2147483647 x

/-- The per-mille factors of R29 and R52: a margin times 1000, divided by a band, clamped into 0 to 1000. -/
def perMille (margin band : Int) : Int := clampTo 0 1000 ((margin * 1000).tdiv band)

/-- The sum of a list of figures. -/
def sumOf (xs : List Int) : Int := xs.foldr (· + ·) 0

/-- The least of a list of factors, 0 for an empty list (R33). -/
def leastOf : List Int → Int
  | [] => 0
  | [x] => x
  | x :: y :: rest => min x (leastOf (y :: rest))

/-- A magnitude. -/
def magnitude (x : Int) : Int := if x < 0 then -x else x

/-- Replace the element of a list at a position; no change beyond its end. -/
def setAt {α : Type} : List α → Nat → α → List α
  | [], _, _ => []
  | _ :: t, 0, a => a :: t
  | h :: t, k + 1, a => h :: setAt t k a

/-! ## Bytes, most significant first (chapter 11) -/

/-- Two bytes of a 16-bit figure. -/
def bytes16 (w : BitVec 16) : List Byte := [w.extractLsb' 8 8, w.extractLsb' 0 8]

/-- Four bytes of a 32-bit figure. -/
def bytes32 (w : Word) : List Byte := [w.extractLsb' 24 8, w.extractLsb' 16 8, w.extractLsb' 8 8, w.extractLsb' 0 8]

/-- A 16-bit figure from its two bytes. -/
def word16 (a b : Byte) : BitVec 16 := a ++ b

/-- A signed 24-bit figure from its three bytes. -/
def int24 (a b c : Byte) : Int := (a ++ b ++ c : BitVec 24).toInt

/-- A 32-bit figure from its four bytes. -/
def word32 (a b c d : Byte) : Word := (a ++ b ++ c ++ d : BitVec 32)

/-- The 32-bit words of a byte list; a last piece shorter than a word is left out. -/
def wordsOf : List Byte → List Word
  | a :: b :: c :: d :: rest => word32 a b c d :: wordsOf rest
  | _ => []

/-- Take the first pieces of `size` bytes, `n` of them. -/
def pieces (size : Nat) : Nat → List Byte → List (List Byte)
  | 0, _ => []
  | n + 1, bs => bs.take size :: pieces size n (bs.drop size)

/-! ## CRC-32 (section 11.1) -/

/-- One bit of the CRC: the generator 04C11DB7 with the least significant bit first is EDB88320. -/
def crcBit (r : Word) : Word := if r.getLsbD 0 then (r >>> 1) ^^^ 0xEDB88320#32 else r >>> 1

/-- One byte of the CRC, least significant bit first. -/
def crcByte (r : Word) (b : Byte) : Word :=
  crcBit (crcBit (crcBit (crcBit (crcBit (crcBit (crcBit (crcBit (r ^^^ b.setWidth 32))))))))

/-- The CRC over a byte list: register preset to all ones, result inverted. -/
def crc32 (bs : List Byte) : Word := ~~~ (bs.foldl crcByte 0xFFFFFFFF#32)

end Sys2Proof.Machine
end

