-- ==== Sys2Proof/Machine/Codes.lean ====
section
/-!
DEFINITION. The codes of section 11.3: each enumeration counts from 0 in the order its owning table gives
it; kind codes, order codes and table ids count from 1. Enumerations that section 11.3's own table does not
list follow its general rule (log 15); codes the spec states nowhere are free values (log 16).
-/

namespace Sys2Proof.Machine

def kSample : Byte := 1
def kStatus : Byte := 2
def kOrder : Byte := 3
def kDirective : Byte := 4
def kTable : Byte := 5
def kSchedule : Byte := 6
def kTime : Byte := 7
def kQuery : Byte := 8
def kReport : Byte := 9

/-- The answer codes of section 1.6.7, DONE 0 to ACTIVE 17. -/
def Code.num : Code → Nat
  | .done => 0 | .busy => 1 | .state => 2 | .range => 3 | .full => 4 | .tooLate => 5 | .staleRevision => 6
  | .duplicate => 7 | .noTime => 8 | .timeBack => 9 | .unknownKind => 10 | .source => 11 | .unsettled => 12
  | .heatLow => 13 | .direction => 14 | .waitDeadband => 15 | .limit => 16 | .active => 17

/-- Order codes from 1 (section 11.3). -/
def Order.num : Order → Nat
  | .start => 1 | .abort => 2 | .load => 3 | .unload => 4 | .stop => 5 | .setpoint => 6 | .trip => 7 | .enable => 8
  | .disable => 9 | .tripReset => 10 | .valveOpen => 11 | .valveClose => 12

/-- The order a code byte names, if any. -/
def orderOf (b : Byte) : Option Order :=
  match b.toNat with
  | 1 => some .start | 2 => some .abort | 3 => some .load | 4 => some .unload | 5 => some .stop | 6 => some .setpoint
  | 7 => some .trip | 8 => some .enable | 9 => some .disable | 10 => some .tripReset | 11 => some .valveOpen
  | 12 => some .valveClose | _ => none

/-- Whether an order is one of the two valve orders (R151). -/
def Order.isValve : Order → Bool
  | .valveOpen => true
  | .valveClose => true
  | _ => false

def ChanKind.num : ChanKind → Nat
  | .pressure => 0 | .temperature => 1 | .frequency => 2 | .power => 3 | .generic => 4

/-- Channel qualities in the order of section 1.5's table. -/
def Quality.num : Quality → Nat
  | .none => 0 | .settling => 1 | .good => 2 | .outOfRange => 3 | .stale => 4 | .substituted => 5

/-- A usable quality (section 1.5). -/
def Quality.usable : Quality → Bool
  | .none => false
  | .stale => false
  | _ => true

def ValveState.num : ValveState → Nat
  | .unknown => 0 | .closed => 1 | .opening => 2 | .opened => 3 | .closing => 4 | .fault => 5

/-- A reported valve position, by its status code (section 11.3). -/
def ValvePos.num : ValvePos → Nat
  | .opened => 32 | .closed => 33 | .travelling => 34 | .fault => 35

def Mark.num : Mark → Nat
  | .none => 0 | .low => 1 | .high => 2

def ManifoldState.num : ManifoldState → Nat
  | .idle => 0 | .charge => 1 | .discharge => 2 | .changeover => 3

/-- The flow direction of a manifold state (R41): none in IDLE and CHANGEOVER. -/
def ManifoldState.flow : ManifoldState → Option Direction
  | .charge => some .charge
  | .discharge => some .discharge
  | _ => none

/-- The manifold state that flows in a direction. -/
def Direction.state : Direction → ManifoldState
  | .charge => .charge
  | .discharge => .discharge

/-- The kind of train that belongs to a direction (R37). -/
def Direction.kind : Direction → TrainKind
  | .charge => .compressor
  | .discharge => .expander

def StoreQuality.num : StoreQuality → Nat
  | .good => 0 | .degraded => 1 | .unavailable => 2

def TrainKind.num : TrainKind → Nat
  | .compressor => 0 | .expander => 1 | .absent => 2

/-- The direction a train kind belongs to (R37). -/
def TrainKind.dir : TrainKind → Option Direction
  | .compressor => some .charge
  | .expander => some .discharge
  | .absent => none

def TrainState.num : TrainState → Nat
  | .unknown => 0 | .offline => 1 | .standby => 2 | .startWait => 3 | .starting => 4 | .idleRun => 5 | .loading => 6
  | .loaded => 7 | .unloading => 8 | .stopping => 9 | .tripped => 10

/-- A train flows in LOADING, LOADED and UNLOADING (R37). -/
def TrainState.flows : TrainState → Bool
  | .loading => true
  | .loaded => true
  | .unloading => true
  | _ => false

/-- The four intermediate states (section 4.2). -/
def TrainState.intermediate : TrainState → Bool
  | .starting => true
  | .loading => true
  | .unloading => true
  | .stopping => true
  | _ => false

/-- The cause codes of R61; the cause of a TABLE write has no stated code. -/
def Cause.item : Cause → Item
  | .order => .code 0 | .report => .code 1 | .adoption => .code 2 | .timeout => .code 3 | .reset => .code 4
  | .write => .unstated 0

/-- Converter states in the order of section 5.1's table, then the slot served, if any. -/
def ConvState.num : ConvState → Nat
  | .free => 0 | .busy _ => 1 | .cooldown => 2 | .fault => 3

/-- The slot the converter serves, if any. -/
def ConvState.slot : ConvState → Option (Fin 8)
  | .busy i => some i
  | _ => none

def ClockState.num : ClockState → Nat
  | .invalid => 0 | .valid => 1 | .unsynced => 2

def SourceTag.item : SourceTag → Item
  | .dayAhead => .code 0 | .intraday => .code 1 | .balancing => .code 2 | .fallback => .unstated 1

/-- The source tag a code names (section 6.3). -/
def tagOf : Nat → Option SourceTag
  | 0 => some .dayAhead
  | 1 => some .intraday
  | 2 => some .balancing
  | _ => none

def Mode.num : Mode → Nat
  | .off => 0 | .manual => 1 | .auto => 2 | .hold => 3

def TriggerKind.num : TriggerKind → Nat
  | .reading => 0 | .fallback => 1

def Continuity.num : Continuity → Nat
  | .undetermined => 0 | .ringClosed => 1 | .ringOpen => 2

def CheckState.num : CheckState → Nat
  | .unchecked => 0 | .isMatch => 1 | .mismatch => 2

def ResetKind.num : ResetKind → Nat
  | .powerOn => 0 | .pin => 1 | .cold => 2 | .warm => 3

/-- Table ids from 1 (section 11.2). -/
def TableId.num : TableId → Nat
  | .plant => 1 | .dispatch => 2 | .channel => 3 | .cavern => 4 | .store => 5 | .train => 6 | .check => 7

/-- The table a table id names, if any. -/
def tableOf (b : Byte) : Option TableId :=
  match b.toNat with
  | 1 => some .plant | 2 => some .dispatch | 3 => some .channel | 4 => some .cavern | 5 => some .store | 6 => some .train
  | 7 => some .check | _ => none

/-- Entry sizes in words (section 11.2). -/
def TableId.words : TableId → Nat
  | .plant => 24 | .dispatch => 9 | .channel => 13 | .cavern => 10 | .store => 23 | .train => 12 | .check => 1

/-- Record kinds from 0 in the order of R180. -/
def RecordKind.num : RecordKind → Nat
  | .channel => 0 | .cavern => 1 | .manifold => 2 | .store => 3 | .train => 4 | .converter => 5 | .schedule => 6
  | .computation => 7 | .ring => 8 | .tripCapture => 9 | .plant => 10 | .dispatchSet => 11

/-- The record kind a code names, if any. -/
def recordOf (b : Byte) : Option RecordKind :=
  match b.toNat with
  | 0 => some .channel | 1 => some .cavern | 2 => some .manifold | 3 => some .store | 4 => some .train
  | 5 => some .converter | 6 => some .schedule | 7 => some .computation | 8 => some .ring | 9 => some .tripCapture
  | 10 => some .plant | 11 => some .dispatchSet | _ => none

def NoticeClass.num : NoticeClass → Nat
  | .safety => 0 | .config => 1 | .limit => 2 | .schedule => 3 | .ring => 4 | .sequence => 5 | .guard => 6

/-- Notice codes of section 11.3. -/
def NoticeName.num : NoticeName → Nat
  | .valveFault => 1 | .valveTimeout => 2 | .cavernIsolated => 3 | .trainTripped => 4 | .startFailed => 5 | .loadTimeout => 6
  | .unloadTimeout => 7 | .stopTimeout => 8 | .converterFault => 9
  | .started => 32 | .configMatch => 33 | .configMismatch => 34 | .dispatchSetAdopted => 35
  | .gridMeterStale => 64 | .gridMeterRestored => 65 | .gridDeviation => 66 | .gridDeviationEnd => 67 | .rateHold => 68
  | .rateHoldEnd => 69 | .cavernReopened => 70 | .heatStoreQuality => 71 | .limitStarved => 72 | .reserveShort => 73
  | .reserveShortEnd => 74
  | .scheduleAirShort => 96 | .scheduleAirFull => 97 | .scheduleHeatShort => 98 | .scheduleHeatFull => 99 | .scheduleGap => 100
  | .scheduleCleared => 101 | .clockSet => 102 | .clockSynced => 103 | .clockUnsynced => 104
  | .ringOpen => 128 | .ringClosed => 129
  | .trainState => 160 | .stateMismatch => 161 | .queueFull => 162 | .valveMismatch => 163 | .valveRecovered => 164
  | .manifoldChange => 165 | .heatLow => 166 | .startQueued => 167 | .converterAvailable => 168 | .modeChange => 169
  | .guardRefused => 192 | .guardDropped => 193 | .guardClamped => 194

/-- The class in which a notice is raised (section 11.3); HEAT_STORE_QUALITY may be raised as SAFETY (R51). -/
def NoticeName.cls : NoticeName → NoticeClass
  | .valveFault => .safety | .valveTimeout => .safety | .cavernIsolated => .safety | .trainTripped => .safety
  | .startFailed => .safety | .loadTimeout => .safety | .unloadTimeout => .safety | .stopTimeout => .safety
  | .converterFault => .safety
  | .started => .config | .configMatch => .config | .configMismatch => .config | .dispatchSetAdopted => .config
  | .gridMeterStale => .limit | .gridMeterRestored => .limit | .gridDeviation => .limit | .gridDeviationEnd => .limit
  | .rateHold => .limit | .rateHoldEnd => .limit | .cavernReopened => .limit | .heatStoreQuality => .limit
  | .limitStarved => .limit | .reserveShort => .limit | .reserveShortEnd => .limit
  | .scheduleAirShort => .schedule | .scheduleAirFull => .schedule | .scheduleHeatShort => .schedule
  | .scheduleHeatFull => .schedule | .scheduleGap => .schedule | .scheduleCleared => .schedule | .clockSet => .schedule
  | .clockSynced => .schedule | .clockUnsynced => .schedule
  | .ringOpen => .ring | .ringClosed => .ring
  | .trainState => .sequence | .stateMismatch => .sequence | .queueFull => .sequence | .valveMismatch => .sequence
  | .valveRecovered => .sequence | .manifoldChange => .sequence | .heatLow => .sequence | .startQueued => .sequence
  | .converterAvailable => .sequence | .modeChange => .sequence
  | .guardRefused => .guard | .guardDropped => .guard | .guardClamped => .guard

/-- The train state a STATE report code names (codes 1 to 9). -/
def trainStateOf (b : Byte) : Option TrainState :=
  match b.toNat with
  | 1 => some .offline | 2 => some .standby | 3 => some .starting | 4 => some .idleRun | 5 => some .loading
  | 6 => some .loaded | 7 => some .unloading | 8 => some .stopping | 9 => some .tripped | _ => none

/-- The event an EVENT report code names (codes 16 to 21). -/
def trainEventOf (b : Byte) : Option TrainEvent :=
  match b.toNat with
  | 16 => some .atSpeed | 17 => some .loadedAck | 18 => some .unloaded | 19 => some .stopped | 20 => some .tripped
  | 21 => some .tripClear | _ => none

/-- The report a unit controller's STATUS body carries: report kind STATE 1 or EVENT 2 with its own codes (R183). -/
def trainReportOf (kind code : Byte) : Option TrainReport :=
  if kind = 1 then (trainStateOf code).map .state
  else if kind = 2 then (trainEventOf code).map .event
  else none

/-- The position a valve controller's STATUS body carries (R183). -/
def valvePosOf (kind code : Byte) : Option ValvePos :=
  if kind = 1 then
    match code.toNat with
    | 32 => some .opened | 33 => some .closed | 34 => some .travelling | 35 => some .fault | _ => none
  else none

/-- A converter report: true for FAULT, false for AVAILABLE (R87, R183). -/
def convReportOf (kind code : Byte) : Option Bool :=
  if kind = 1 then
    match code.toNat with
    | 48 => some true | 49 => some false | _ => none
  else none

/-- A flag as an item. -/
def flagItem (b : Bool) : Item := .code (if b then 1 else 0)

/-- An optional figure as an item. -/
def figItem : Option Int → Item
  | some v => .fig v
  | none => .none

/-- The hold causes as the three bits of section 11.2: CONFIG, RING_OPEN, CLOCK_UNSYNCED. -/
def ModeRecord.causes (m : ModeRecord) : Nat :=
  (if m.config then 1 else 0) + (if m.ringOpen then 2 else 0) + (if m.unsynced then 4 else 0)

/-- The hold-cause set is empty (R139). -/
def ModeRecord.clear (m : ModeRecord) : Bool := !m.config && !m.ringOpen && !m.unsynced

/-- The mode and the hold causes, the causes as one byte: so section 11.2 has them in the answer to MODE, and so the model
sends them in the STARTED notice, the MODE_CHANGE notice and the PLANT reply too (log 49). -/
def ModeRecord.items (m : ModeRecord) : List Item := [.code m.mode.num, .code m.causes]

end Sys2Proof.Machine
end

