-- ==== Sys2Proof/Machine/Formats.lean ====
section
/-!
DEFINITION. Frames as bytes (chapter 11): the checks of a received frame (R155), and the bytes of every frame
the part sends.
-/

namespace Sys2Proof.Machine

/-- The header and body bytes, which the CRC covers (section 11.1). -/
def coveredBytes (f : Frame) : List Byte :=
  [f.dest, f.src, f.kind, f.flags] ++ bytes16 f.seq ++ bytes16 (BitVec.ofNat 16 f.body.length) ++ f.body

/-- The whole frame on the ring, its CRC last. -/
def frameBytes (f : Frame) : List Byte := coveredBytes f ++ bytes32 (crc32 (coveredBytes f))

/-- The checks of R155 on the bytes received: total length 12 to 256, the body length field, the CRC.
Answers the frame, or none where a check fails. -/
def checkedFrame : List Byte → Option Frame
  | d :: s :: k :: fl :: q1 :: q0 :: l1 :: l0 :: rest =>
    let f : Frame := { dest := d, src := s, kind := k, flags := fl, seq := word16 q1 q0, body := rest.take (rest.length - 4) }
    if rest.length < 4 ∨ 248 < rest.length then none
    else if (word16 l1 l0).toNat ≠ rest.length - 4 then none
    else if rest.drop (rest.length - 4) ≠ bytes32 (crc32 (coveredBytes f)) then none
    else some f
  | _ => none

/-- The bytes of a report item: a code or flag takes one byte, a figure four (section 11.2); a field that is
none is left out (log 14). -/
def itemBytes : Item → List Byte
  | .code n => [BitVec.ofNat 8 n]
  | .fig v => bytes32 (BitVec.ofInt 32 v)
  | .unstated k => [Config.unstatedCode k]
  | .none => []

/-- The source record kind and index of a notice; the kind codes are not stated (log 16). -/
def sourceBytes : SourceRecord → List Byte
  | .none => [Config.unstatedCode 2, Config.unstatedCode 3]
  | .cavern c => [Config.unstatedCode 4, BitVec.ofNat 8 c.val]
  | .store m => [Config.unstatedCode 5, BitVec.ofNat 8 m.val]
  | .train i => [Config.unstatedCode 6, BitVec.ofNat 8 i.val]

/-- The bytes of a notice part (section 11.2). -/
def noticeBytes (n : Notice) : List Byte :=
  bytes16 (BitVec.ofNat 16 n.name.num) ++ [BitVec.ofNat 8 n.cls.num] ++ sourceBytes n.source
    ++ bytes32 (BitVec.ofNat 32 n.seconds) ++ bytes16 (BitVec.ofNat 16 n.millis) ++ bytes16 (BitVec.ofNat 16 n.lost)
    ++ n.items.flatMap itemBytes

/-- The body of a REPORT frame (section 11.2). -/
def reportBytes : ReportBody → List Byte
  | .answer kind seq codes extra =>
    [1, kind] ++ bytes16 seq ++ [BitVec.ofNat 8 codes.length] ++ codes.map (fun c => BitVec.ofNat 8 c.num)
      ++ extra.flatMap itemBytes
  | .notice n => 2 :: noticeBytes n
  | .record items => 3 :: items.flatMap itemBytes
  | .reply seq kind items => [4] ++ bytes16 seq ++ [BitVec.ofNat 8 kind.num] ++ items.flatMap itemBytes

/-- The body of an ORDER frame: the order code and the signed value (section 11.2). -/
def orderBytes (o : Order) (value : Int) : List Byte := BitVec.ofNat 8 o.num :: bytes32 (BitVec.ofInt 32 value)

/-- The frame on the downstream port. Own frames carry the part's node as source, every flag clear (R158, 11.1). -/
def sentFrame (node : Byte) : Sent → Frame
  | .forwarded f => f
  | .order seq o => { dest := o.dest, src := node, kind := kOrder, flags := 0, seq := seq, body := orderBytes o.order o.value }
  | .report seq r => { dest := r.dest, src := node, kind := kReport, flags := 0, seq := seq, body := reportBytes r.body }

/-- An admitted order as the guard forwards it: the GUARDED flag set, the value replaced where it was clamped
(R151). The bytes beyond the layout pass on with it (R182). -/
def guarded (f : Frame) (value : Option Int) : Frame :=
  match value with
  | none => { f with flags := f.flags ||| 1 }
  | some v => { f with flags := f.flags ||| 1, body := f.body.take 1 ++ bytes32 (BitVec.ofInt 32 v) ++ f.body.drop 5 }

end Sys2Proof.Machine
end

