-- ==== Sys2Proof/Machine/Ops.lean ====
section
/-!
DEFINITION. The named operations every meaning is built from: the records by number, the report queue
(R176 to R179), the order queue (R26, R62), the forward queue (R159), the downstream arbiter (R158, R160),
the return list (R161) and the ring counts (R164).
-/

namespace Sys2Proof.Machine

/-! ## Records by number -/

/-- The four cavern numbers, ascending. -/
def cavernNumbers : List (Fin 4) := [0, 1, 2, 3]

/-- The three store numbers, ascending. -/
def storeNumbers : List (Fin 3) := [0, 1, 2]

/-- The eight slot numbers, ascending. -/
def slotNumbers : List (Fin 8) := [0, 1, 2, 3, 4, 5, 6, 7]

def State.chan (s : State) (c : Fin 96) : Channel := s.chans.get c
def State.cavern (s : State) (c : Fin 4) : Cavern := s.caverns.get c
def State.store (s : State) (m : Fin 3) : Store := s.stores.get m
def State.train (s : State) (i : Fin 8) : Train := s.trains.get i

def State.setChan (s : State) (c : Fin 96) (x : Channel) : State := { s with chans := s.chans.set c.val x c.isLt }
def State.setCavern (s : State) (c : Fin 4) (x : Cavern) : State := { s with caverns := s.caverns.set c.val x c.isLt }
def State.setStore (s : State) (m : Fin 3) (x : Store) : State := { s with stores := s.stores.set m.val x m.isLt }
def State.setTrain (s : State) (i : Fin 8) (x : Train) : State := { s with trains := s.trains.set i.val x i.isLt }

/-- A channel entry whose source node lies from 1 to 254 is present (R1). -/
def Channel.present (c : Channel) : Bool := c.p.source != 0

/-- A slot of kind COMPRESSOR or EXPANDER is present (R58). -/
def Train.present (t : Train) : Bool := t.p.kind != .absent

/-- A present train stands in a state. -/
def Train.isIn (t : Train) (st : TrainState) : Bool := t.present && t.state == st

/-- A present train flows (R37). -/
def Train.flowing (t : Train) : Bool := t.present && t.state.flows

/-- A part whose straps read 0 or 255 is PASSIVE (R165). -/
def State.passive (s : State) : Bool := s.node == 0 || s.node == 255

/-- Whole seconds of plant time, 0 while there is none. -/
def State.plantSec (s : State) : Nat := if s.clock.state = .invalid then 0 else s.clock.plantMs / 1000

/-- Milliseconds of plant time, 0 while there is none. -/
def State.plantMilli (s : State) : Nat := if s.clock.state = .invalid then 0 else s.clock.plantMs % 1000

/-- The clock runs: VALID or UNSYNCED (R98). -/
def State.clockRuns (s : State) : Bool := s.clock.state != .invalid

/-- The current interval number (section 6.1). -/
def State.interval (s : State) : Nat := s.clock.plantMs / 1000 / s.plant.interval

/-- NOTICEs and DISPATCH_RECORDs go to the master node, or to 255 while it is 0 (R176). -/
def State.noticeDest (s : State) : Byte := if s.plant.master = 0 then 255 else BitVec.ofNat 8 s.plant.master

/-! ## Return list (R161) -/

/-- The watch set from the oldest entry of a return list, stopped for an empty list. -/
def watchFor (timeout : Nat) (l : List Return) : Option Nat := l.head?.map (·.instant + timeout)

/-- An own frame begins to leave: it takes the own sequence number, and an entry for it joins the return list
(R158, R161). -/
def Ring.remember (r : Ring) (now timeout : Nat) (kind : Byte) : Ring :=
  let e : Return := { seq := r.seqNo, kind := kind, instant := now }
  if Config.returnCap ≤ r.returns.length then
    let l := r.returns.tail ++ [e]
    { r with seqNo := r.seqNo + 1, returns := l, watch := watchFor timeout l }
  else
    { r with seqNo := r.seqNo + 1, returns := r.returns ++ [e]
             watch := if r.returns.isEmpty then some (now + timeout) else r.watch }

/-! ## Downstream arbiter (R160) -/

/-- A report has left the queue: suppression is cleared once the number held has fallen to the empty mark (R178). -/
def Reports.left (r : Reports) (almostEmpty : Nat) (rest : List Report) : Reports :=
  { r with queue := rest, suppressed := r.suppressed && !(decide (rest.length ≤ almostEmpty)) }

/-- The head of the forward queue is sent: counted as forwarded, and the run count rises (R159, R160). -/
def State.sendForward (s : State) : State :=
  match s.ring.forward with
  | [] => s
  | f :: rest =>
    { s with ring := { s.ring with forward := rest, sending := some (.forwarded f), run := min (s.ring.run + 1) Config.runLimit
                                   forwarded := s.ring.forwarded + 1 } }

/-- The head of the order queue is sent, and the run count becomes 0 (R160). -/
def State.sendOrder (s : State) : State :=
  match s.ring.orders with
  | [] => s
  | o :: rest =>
    { s with ring := { s.ring.remember s.now s.plant.returnTimeout kOrder with
                         orders := rest, sending := some (.order s.ring.seqNo o), run := 0 } }

/-- The head of the report queue is sent, and the run count becomes 0 (R160). -/
def State.sendReport (s : State) : State :=
  match s.rep.queue with
  | [] => s
  | r :: rest =>
    { s with ring := { s.ring.remember s.now s.plant.returnTimeout kReport with
                         sending := some (.report s.ring.seqNo r), run := 0 }
             rep := s.rep.left s.plant.almostEmpty rest }

/-- The choice of R160 on a free port; with every queue empty nothing is sent. -/
def State.chooseNext (s : State) : State :=
  if s.ring.forward ≠ [] ∧ (s.ring.run < Config.runLimit ∨ (s.ring.orders = [] ∧ s.rep.queue = [])) then s.sendForward
  else if s.ring.orders ≠ [] then s.sendOrder
  else s.sendReport

/-- A frame that joins a queue of an idle port is sent at once (R160). -/
def State.pump (s : State) : State :=
  match s.ring.sending with
  | some _ => s
  | none => s.chooseNext

/-! ## Ring counts and forward queue (R159, R164) -/

def State.countReceived (s : State) : State := { s with ring := { s.ring with received := s.ring.received + 1 } }
def State.countDropped (s : State) : State := { s with ring := { s.ring with dropped := s.ring.dropped + 1 } }
def State.countConsumed (s : State) : State := { s with ring := { s.ring with consumed := s.ring.consumed + 1 } }
def State.countStripped (s : State) : State := { s with ring := { s.ring with stripped := s.ring.stripped + 1 } }
def State.countWithheld (s : State) : State := { s with ring := { s.ring with withheld := s.ring.withheld + 1 } }

/-- The forward queue has room for one more frame (R159). -/
def State.forwardRoom (s : State) : Bool := decide (s.ring.forward.length < Config.forwardCap)

/-- A frame joins the forward queue. -/
def State.enqueue (s : State) (f : Frame) : State :=
  State.pump { s with ring := { s.ring with forward := s.ring.forward ++ [f] } }

/-- The forward disposition (R159): the frame joins the queue, or is dropped at a full one. -/
def State.forwardOrDrop (s : State) (f : Frame) : State :=
  if s.forwardRoom then s.enqueue f else s.countDropped

/-! ## Report queue (R176 to R179) -/

/-- Whether a report is a NOTICE or a DISPATCH_RECORD. -/
def Report.isNoticeOrRecord (r : Report) : Bool :=
  match r.body with
  | .notice _ => true
  | .record _ => true
  | _ => false

/-- How many NOTICE and DISPATCH_RECORD the queue holds (R177). -/
def Reports.noticeCount (r : Reports) : Nat := (r.queue.filter Report.isNoticeOrRecord).length

/-- The full mark of R178. -/
def PlantTable.fullMark (p : PlantTable) : Nat := Config.reportCap - p.almostFull

/-- A report joins the queue: suppression is set once the number held reaches the full mark (R178). -/
def State.joinReports (s : State) (r : Report) : State :=
  State.pump { s with rep := { s.rep with
    queue := s.rep.queue ++ [r]
    suppressed := s.rep.suppressed || decide (s.plant.fullMark ≤ s.rep.queue.length + 1) } }

/-- Room for an ANSWER or QUERY_REPLY (R177). -/
def State.replyRoom (s : State) : Bool := decide (s.rep.queue.length < Config.reportCap)

/-- Room for a NOTICE or DISPATCH_RECORD (R177). -/
def State.noticeRoom (s : State) : Bool := s.replyRoom && decide (s.rep.noticeCount < Config.noticeCap)

/-- An ANSWER or QUERY_REPLY is offered: taken, or lost and counted (R177). -/
def State.offerReply (s : State) (r : Report) : State :=
  if s.replyRoom then s.joinReports r else { s with rep := { s.rep with lostAnswer := s.rep.lostAnswer + 1 } }

/-- A NOTICE is offered: taken with the lost count, which becomes 0, or lost and counted (R177). -/
def State.offerNotice (s : State) (n : Notice) : State :=
  if s.noticeRoom then
    State.joinReports { s with rep := { s.rep with lostNotice := 0 } }
      { dest := s.noticeDest, body := .notice { n with lost := s.rep.lostNotice } }
  else { s with rep := { s.rep with lostNotice := min 65535 (s.rep.lostNotice + 1) } }

/-- A DISPATCH_RECORD is offered: taken, or declined and counted (R178). -/
def State.offerRecord (s : State) (items : List Item) : State :=
  if s.rep.suppressed = false ∧ s.noticeRoom then s.joinReports { dest := s.noticeDest, body := .record items }
  else { s with rep := { s.rep with declined := s.rep.declined + 1 } }

/-- The class enable of the plant table; SAFETY and CONFIG have none and are admitted always (R179). -/
def PlantTable.enables (p : PlantTable) : NoticeClass → Bool
  | .safety => true
  | .config => true
  | .limit => p.enLimit
  | .schedule => p.enSchedule
  | .ring => p.enRing
  | .sequence => p.enSequence
  | .guard => p.enGuard

/-- The notify flag of the source record a notice names, if it names one (R179). That of a cavern counts whether or not its
channel field names a channel (log 47). -/
def State.notifyFlag (s : State) : SourceRecord → Bool
  | .none => true
  | .cavern c => (s.cavern c).p.notify
  | .store m => (s.store m).p.notify
  | .train i => (s.train i).p.notify

/-- R179: whether a notice is admitted to the report queue. -/
def State.admitsNotice (s : State) (cls : NoticeClass) (src : SourceRecord) : Bool :=
  match cls with
  | .safety => true
  | .config => true
  | c => s.plant.enables c && s.notifyFlag src

/-- A notice is raised: built from the state as it stands, admitted by R179, offered by R177. A PASSIVE part
originates no frame (R165). -/
def State.notifyAs (s : State) (cls : NoticeClass) (name : NoticeName) (src : SourceRecord) (items : List Item) : State :=
  if s.passive = false ∧ s.admitsNotice cls src then
    s.offerNotice { name := name, cls := cls, source := src, seconds := s.plantSec, millis := s.plantMilli, lost := 0
                    items := items }
  else s

/-- A notice raised in the class section 11.3 lists it under. -/
def State.notify (s : State) (name : NoticeName) (src : SourceRecord) (items : List Item) : State :=
  s.notifyAs name.cls name src items

/-- The one REPORT that answers a consumed frame (R157, R176). -/
def State.answer (s : State) (f : Frame) (codes : List Code) (extra : List Item) : State :=
  s.offerReply { dest := f.src, body := .answer f.kind f.seq codes extra }

/-- The one QUERY_REPLY to an accepted QUERY (R157, R180). -/
def State.reply (s : State) (f : Frame) (kind : RecordKind) (items : List Item) : State :=
  s.offerReply { dest := f.src, body := .reply f.seq kind items }

/-! ## Order queue (R26, R62) -/

/-- The order queue has room (section 9.3). -/
def State.orderRoom (s : State) : Bool := decide (s.ring.orders.length < Config.orderCap)

/-- An own order is placed in the order queue. -/
def State.place (s : State) (node : Nat) (o : Order) (value : Int) : State :=
  State.pump { s with ring := { s.ring with orders := s.ring.orders ++ [{ dest := BitVec.ofNat 8 node, order := o, value := value }] } }

/-- QUEUE_FULL naming the slot and the order (R62). -/
def State.trainQueueFull (s : State) (i : Fin 8) (o : Order) : State :=
  s.notify .queueFull (.train i) [.fig i.val, .code o.num]

/-- QUEUE_FULL naming the cavern and the order (R26). -/
def State.cavernQueueFull (s : State) (c : Fin 4) (o : Order) : State :=
  s.notify .queueFull (.cavern c) [.fig c.val, .code o.num]

/-- An own train order whose record moves in any case: placed, or QUEUE_FULL (R79, R80, R94). -/
def State.placeOrFull (s : State) (i : Fin 8) (o : Order) : State :=
  if s.orderRoom then s.place (s.train i).p.node o 0 else s.trainQueueFull i o

/-- A deadline `ms` from now. -/
def State.after (s : State) (ms : Nat) : Option Nat := some (s.now + ms)

/-- What is left of a running timer, 0 for a stopped one. -/
def State.remaining (s : State) : Option Nat → Nat
  | none => 0
  | some d => d - s.now

end Sys2Proof.Machine
end

