-- ==== Sys2Proof/Machine/Operands.lean ====
section
/-!
DEFINITION. The operands of the commands: what the bytes of each frame body hold (section 11.2), and what the
words of each TABLE entry hold, with the ranges of the field tables. A body shorter than its layout is
malformed and gives none (R182); bytes beyond the layout are ignored.
-/

namespace Sys2Proof.Machine

/-! ## Frame bodies -/

/-- One reading of a SAMPLE frame: the slot and the signed raw value. -/
structure Reading where
  slot : Nat
  raw  : Int
deriving DecidableEq, Repr

/-- The readings of a byte list, `n` of them, or none where it is too short. -/
def readingsOf : Nat → List Byte → Option (List Reading)
  | 0, _ => some []
  | n + 1, s :: a :: b :: c :: rest => (readingsOf n rest).map (⟨s.toNat, int24 a b c⟩ :: ·)
  | _ + 1, _ => none

/-- A SAMPLE body: the count, then the readings. A count above 60 cannot fit a body of 244 bytes. -/
def sampleBody : List Byte → Option (List Reading)
  | n :: rest => readingsOf n.toNat rest
  | [] => none

/-- What a STATUS body carries. -/
structure StatusBody where
  kind  : Byte
  code  : Byte
  power : Int
  cause : Nat
deriving DecidableEq, Repr

/-- A STATUS body: report kind, status code, reported power (unsigned), trip cause. -/
def statusBody : List Byte → Option StatusBody
  | k :: c :: p3 :: p2 :: p1 :: p0 :: t1 :: t0 :: _ => some ⟨k, c, (word32 p3 p2 p1 p0).toNat, (word16 t1 t0).toNat⟩
  | _ => none

/-- An ORDER body: the order code byte and the signed value. -/
def orderBody : List Byte → Option (Byte × Int)
  | c :: v3 :: v2 :: v1 :: v0 :: _ => some (c, (word32 v3 v2 v1 v0).toInt)
  | _ => none

/-- A DIRECTIVE body: the directive code and the four bytes of the argument. -/
def directiveBody : List Byte → Option (Byte × Byte × Byte × Byte × Byte)
  | c :: a3 :: a2 :: a1 :: a0 :: _ => some (c, a3, a2, a1, a0)
  | _ => none

/-- A TIME body: seconds and milliseconds. -/
def timeBody : List Byte → Option (Nat × Nat)
  | a :: b :: c :: d :: m1 :: m0 :: _ => some ((word32 a b c d).toNat, (word16 m1 m0).toNat)
  | _ => none

/-- A QUERY body: the record kind code and the index. -/
def queryBody : List Byte → Option (Byte × Nat)
  | k :: a :: b :: c :: d :: _ => some (k, (word32 a b c d).toNat)
  | _ => none

/-- One entry of a SCHEDULE frame, 15 bytes; entry flag bits other than ramp and withdraw are ignored (R183). -/
def scheduleEntry : List Byte → Option RawEntry
  | [i3, i2, i1, i0, n3, n2, n1, n0, r3, r2, r1, r0, rev, fl, tag] =>
    some { interval := (word32 i3 i2 i1 i0).toNat, net := (word32 n3 n2 n1 n0).toInt, reserve := (word32 r3 r2 r1 r0).toNat
           revision := rev.toNat, ramp := fl.getLsbD 0, withdraw := fl.getLsbD 1, tag := tag.toNat }
  | _ => none

/-- A SCHEDULE body: none where the count is 0 or above 16 or the body is too short (R105). -/
def scheduleBody : List Byte → Option (List RawEntry)
  | n :: rest =>
    if n.toNat = 0 ∨ 16 < n.toNat ∨ rest.length < 15 * n.toNat then none
    else some ((pieces 15 n.toNat rest).filterMap scheduleEntry)
  | [] => none

/-- A TABLE body: table, first index and the words of each entry; none where R167 refuses the whole frame. -/
def tableBody : List Byte → Option (TableId × Nat × List (List Word))
  | t :: first :: n :: rest =>
    match tableOf t with
    | none => none
    | some table =>
      if n.toNat = 0 ∨ 16 < n.toNat ∨ rest.length < 4 * table.words * n.toNat then none
      else some (table, first.toNat, (pieces (4 * table.words) n.toNat rest).map wordsOf)
  | _ => none

/-! ## Fields of table entries, with their ranges -/

/-- An unsigned field in a range. -/
def natIn (lo hi : Nat) (w : Word) : Option Nat := if lo ≤ w.toNat ∧ w.toNat ≤ hi then some w.toNat else none

/-- An unsigned figure in a range. -/
def figIn (lo hi : Nat) (w : Word) : Option Int := (natIn lo hi w).map Int.ofNat

/-- A signed field in a range. -/
def intIn (lo hi : Int) (w : Word) : Option Int := if lo ≤ w.toInt ∧ w.toInt ≤ hi then some w.toInt else none

/-- A flag: clear 0, set 1. -/
def flagOf (w : Word) : Option Bool := if w = 0 then some false else if w = 1 then some true else none

/-- A channel number, or the all-ones word for none (section 11.2). -/
def channelOrNone (w : Word) : Option (Option Nat) :=
  if w = 0xFFFFFFFF#32 then some none else (natIn 0 95 w).map some

def chanKindOf (w : Word) : Option ChanKind :=
  match w.toNat with
  | 0 => some .pressure | 1 => some .temperature | 2 => some .frequency | 3 => some .power | 4 => some .generic | _ => none

def trainKindOf (w : Word) : Option TrainKind :=
  match w.toNat with
  | 0 => some .compressor | 1 => some .expander | 2 => some .absent | _ => none

/-- A channel entry (section 1.1): every field in range and range low not above range high. -/
def chanParams : List Word → Option ChanParams
  | [w0, w1, w2, w3, w4, w5, w6, w7, w8, w9, w10, w11, w12] => do
    let source ← natIn 0 254 w0
    let slot ← natIn 0 15 w1
    let kind ← chanKindOf w2
    let offset ← intIn (-8388608) 8388607 w3
    let freshness ← natIn 10 60000 w9
    let length ← natIn 1 64 w10
    let substFlag ← flagOf w12
    if w8.toInt < w7.toInt then none
    else some { source, slot, kind, offset, gain := w4.toInt, scale := w5.toInt, zero := w6.toInt, rangeLow := w7.toInt
                rangeHigh := w8.toInt, freshness, length, substitute := w11.toInt, substFlag }
  | _ => none

/-- A cavern entry (section 2.1): every field in range and p_min below p_max. -/
def cavernParams : List Word → Option CavernParams
  | [w0, w1, w2, w3, w4, w5, w6, w7, w8, w9] => do
    let present ← flagOf w0
    let channel ← channelOrNone w1
    let node ← natIn 1 254 w2
    let pMin ← figIn 0 1000000 w3
    let pMax ← figIn 1 1000000 w4
    let taper ← figIn 1 50000 w5
    let rateLimit ← figIn 1 100000 w6
    let stiffness ← figIn 1 100000 w7
    let travel ← natIn 5 600 w8
    let notify ← flagOf w9
    if pMin < pMax then some { present, channel, node, pMin, pMax, taper, rateLimit, stiffness, travel, notify } else none
  | _ => none

/-- The layer positions of a store entry: `n` layers in range, then zero words only (R47). -/
def layersOf : Nat → List Word → Option (List Layer)
  | n + 1, c :: k :: rest => do
    let channel ← natIn 0 95 c
    let capacity ← figIn 1 50000000 k
    let others ← layersOf n rest
    some ({ channel, capacity } :: others)
  | _ + 1, _ => none
  | 0, rest => if rest.all (· = 0) then some [] else none

/-- A store entry (section 3.1, R47): 23 words, eight layer positions of two words after the layer count. -/
def storeParams : List Word → Option StoreParams
  | w0 :: w1 :: rest => do
    let present ← flagOf w0
    let n ← natIn (if present then 1 else 0) 8 w1
    let layers ← layersOf n (rest.take 16)
    match rest.drop 16 with
    | [t, f, c, b, fl] => do
      let tRef ← intIn (-5000) 100000 t
      let eFloor ← figIn 0 2000000000 f
      let eCeiling ← figIn 1 2147483647 c
      let band ← figIn 1 1000000000 b
      let notify ← flagOf fl
      if eFloor < eCeiling then some { present, layers, tRef, eFloor, eCeiling, band, notify } else none
    | _ => none
  | _ => none

/-- A train entry (section 4.1): every field in range and P_min not above P_max. -/
def trainParams : List Word → Option TrainParams
  | [w0, w1, w2, w3, w4, w5, w6, w7, w8, w9, w10, w11] => do
    let kind ← trainKindOf w0
    let node ← natIn 1 254 w1
    let pMax ← figIn 1 500000 w2
    let pMin ← figIn 0 500000 w3
    let ramp ← figIn 1 50000 w4
    let tStart ← natIn 30 1800 w5
    let tLoad ← natIn 10 900 w6
    let tUnload ← natIn 10 900 w7
    let tStop ← natIn 10 1800 w8
    let store ← natIn 0 2 w9
    let position ← natIn 1 8 w10
    let notify ← flagOf w11
    if pMin ≤ pMax then
      some { kind, node, pMax, pMin, ramp, tStart, tLoad, tUnload, tStop, store, position, notify }
    else none
  | _ => none

/-- A dispatch set entry (section 7.2): every field in range and f_full above db. -/
def dispatchParams : List Word → Option DispatchSet
  | [w0, w1, w2, w3, w4, w5, w6, w7, w8] => do
    let deadband ← figIn 0 200 w0
    let fFull ← figIn 0 1000 w1
    let quantum ← figIn 0 5000 w2
    let startPm ← figIn 0 1000 w3
    let stopPm ← figIn 0 1000 w4
    let stopDelay ← natIn 0 3600 w5
    let idleLimit ← natIn 0 3600 w6
    let startLead ← natIn 0 1800 w7
    let dirThreshold ← figIn 0 500000 w8
    if deadband < fFull then
      some { deadband, fFull, quantum, startPm, stopPm, stopDelay, idleLimit, startLead, dirThreshold }
    else none
  | _ => none

/-- f_nom is 50,000 or 60,000 mHz. -/
def fNomOf (w : Word) : Option Int := if w = 50000 then some 50000 else if w = 60000 then some 60000 else none

/-- L is 300, 900, 1800 or 3600 s. -/
def intervalOf (w : Word) : Option Nat := if w.toNat ∈ [300, 900, 1800, 3600] then some w.toNat else none

/-- A plant table entry (section 10.1.1, R168): every field in range, H not above L/2, and the almost-empty
threshold below 48 minus the almost-full threshold. The five class enables share the last word. -/
def plantParams : List Word → Option PlantTable
  | [w0, w1, w2, w3, w4, w5, w6, w7, w8, w9, w10, w11, w12, w13, w14, w15, w16, w17, w18, w19, w20, w21, w22, w23] => do
    let master ← natIn 0 254 w0
    let gridNode ← natIn 0 254 w1
    let gridChannel ← channelOrNone w2
    let fNom ← fNomOf w3
    let interval ← intervalOf w4
    let rampHalf ← natIn 0 (interval / 2) w5
    let gateLead ← natIn 0 7200 w6
    let markTimeout ← natIn 10 3600 w7
    let fallbackNet ← intIn (-2000000) 2000000 w8
    let fallbackRes ← figIn 0 500000 w9
    let deadband ← natIn 0 900 w10
    let rateSpacing ← natIn 1 60 w11
    let genRatio ← figIn 0 100000 w12
    let compRatio ← figIn 0 100000 w13
    let convNode ← natIn 0 254 w14
    let cooldown ← natIn 0 900 w15
    let spacing ← natIn 20 1000 w16
    let fallbackPeriod ← natIn 100 2000 w17
    let alarm ← figIn 0 2000 w18
    let recordPeriod ← natIn 1 255 w19
    let returnTimeout ← natIn 10 1000 w20
    let almostFull ← natIn 1 44 w21
    let almostEmpty ← natIn 0 40 w22
    let enables ← natIn 0 31 w23
    if almostEmpty < 48 - almostFull then
      some { master, gridNode, gridChannel, fNom, interval, rampHalf, gateLead, markTimeout, fallbackNet, fallbackRes, deadband
             rateSpacing, genRatio, compRatio, convNode, cooldown, spacing, fallbackPeriod, alarm, recordPeriod, returnTimeout
             almostFull, almostEmpty
             enLimit := enables.testBit 0, enSchedule := enables.testBit 1, enRing := enables.testBit 2
             enSequence := enables.testBit 3, enGuard := enables.testBit 4 }
    else none
  | _ => none

/-! ## The words of each entry, as a TABLE frame and the configuration image hold them (R171) -/

def wordOf (v : Int) : Word := BitVec.ofInt 32 v
def wordOfNat (n : Nat) : Word := BitVec.ofNat 32 n
def wordOfFlag (b : Bool) : Word := if b then 1 else 0
def wordOfChannel : Option Nat → Word
  | none => 0xFFFFFFFF#32
  | some n => wordOfNat n

def ChanParams.toWords (p : ChanParams) : List Word :=
  [wordOfNat p.source, wordOfNat p.slot, wordOfNat p.kind.num, wordOf p.offset, wordOf p.gain, wordOf p.scale, wordOf p.zero,
   wordOf p.rangeLow, wordOf p.rangeHigh, wordOfNat p.freshness, wordOfNat p.length, wordOf p.substitute, wordOfFlag p.substFlag]

def CavernParams.toWords (p : CavernParams) : List Word :=
  [wordOfFlag p.present, wordOfChannel p.channel, wordOfNat p.node, wordOf p.pMin, wordOf p.pMax, wordOf p.taper,
   wordOf p.rateLimit, wordOf p.stiffness, wordOfNat p.travel, wordOfFlag p.notify]

/-- The layer words, eight positions of two words, those beyond the layer count zero. -/
def layerWords (layers : List Layer) : List Word :=
  let ws := layers.flatMap fun l => [wordOfNat l.channel, wordOf l.capacity]
  ws ++ List.replicate (16 - ws.length) 0

def StoreParams.toWords (p : StoreParams) : List Word :=
  [wordOfFlag p.present, wordOfNat p.layers.length] ++ layerWords p.layers
    ++ [wordOf p.tRef, wordOf p.eFloor, wordOf p.eCeiling, wordOf p.band, wordOfFlag p.notify]

def TrainParams.toWords (p : TrainParams) : List Word :=
  [wordOfNat p.kind.num, wordOfNat p.node, wordOf p.pMax, wordOf p.pMin, wordOf p.ramp, wordOfNat p.tStart, wordOfNat p.tLoad,
   wordOfNat p.tUnload, wordOfNat p.tStop, wordOfNat p.store, wordOfNat p.position, wordOfFlag p.notify]

def DispatchSet.toWords (p : DispatchSet) : List Word :=
  [wordOf p.deadband, wordOf p.fFull, wordOf p.quantum, wordOf p.startPm, wordOf p.stopPm, wordOfNat p.stopDelay,
   wordOfNat p.idleLimit, wordOfNat p.startLead, wordOf p.dirThreshold]

/-- The word of the class enables: LIMIT, SCHEDULE, RING, SEQUENCE, GUARD from the lowest bit. -/
def PlantTable.enableBits (p : PlantTable) : Nat :=
  (if p.enLimit then 1 else 0) + (if p.enSchedule then 2 else 0) + (if p.enRing then 4 else 0)
    + (if p.enSequence then 8 else 0) + (if p.enGuard then 16 else 0)

def PlantTable.toWords (p : PlantTable) : List Word :=
  [wordOfNat p.master, wordOfNat p.gridNode, wordOfChannel p.gridChannel, wordOf p.fNom, wordOfNat p.interval,
   wordOfNat p.rampHalf, wordOfNat p.gateLead, wordOfNat p.markTimeout, wordOf p.fallbackNet, wordOf p.fallbackRes,
   wordOfNat p.deadband, wordOfNat p.rateSpacing, wordOf p.genRatio, wordOf p.compRatio, wordOfNat p.convNode,
   wordOfNat p.cooldown, wordOfNat p.spacing, wordOfNat p.fallbackPeriod, wordOf p.alarm, wordOfNat p.recordPeriod,
   wordOfNat p.returnTimeout, wordOfNat p.almostFull, wordOfNat p.almostEmpty, wordOfNat p.enableBits]

/-- The configuration image (R171): an absent channel, cavern, store or slot contributes zero words. -/
def State.image (s : State) : List Word :=
  s.plant.toWords ++ s.disp.active.toWords
    ++ s.chans.toList.flatMap (fun c => if c.present then c.p.toWords else List.replicate 13 0)
    ++ s.caverns.toList.flatMap (fun c => if c.p.present then c.p.toWords else List.replicate 10 0)
    ++ s.stores.toList.flatMap (fun m => if m.p.present then m.p.toWords else List.replicate 23 0)
    ++ s.trains.toList.flatMap (fun t => if t.present then t.p.toWords else List.replicate 12 0)
    ++ [s.mgr.checkWord]

/-- The 32-bit wrapping sum of the image (R172). -/
def State.imageSum (s : State) : Word := s.image.foldr (· + ·) 0

end Sys2Proof.Machine
end

