-- ==== Sys2Proof/Machine/Flags.lean ====
section
/-!
DEFINITION. The computed conditions of the part, each a function of plain figures: the conditioning stages and
qualities of a channel (chapter 1), the bound views (R12), factors, rate and RATE_HOLD of a cavern (chapter 2),
energy, quality and factors of a store (chapter 3), GRID_DEV (R18), the train admission table (R63), and the
implied, completing and lagging states of a report (R69 to R72).
-/

namespace Sys2Proof.Machine

/-! ## Conditioning (R6 to R9) -/

/-- Stage 1 (R6). -/
def stage1 (p : ChanParams) (raw : Int) : Int := sat24 (raw + p.offset)

/-- Stage 2 (R6). -/
def stage2 (p : ChanParams) (r1 : Int) : Int := sat24 (r1 + (r1 * p.gain).tdiv 2147483648)

/-- Stage 3 (R7). -/
def stage3 (p : ChanParams) (r2 : Int) : Int := sat32 ((r2 * p.scale).tdiv 65536 + p.zero)

/-- The engineering value before stage 4. -/
def engineering (p : ChanParams) (raw : Int) : Int := stage3 p (stage2 p (stage1 p raw))

/-- Stage 4 (R7): the value clamped into the channel's range. -/
def conditioned (p : ChanParams) (raw : Int) : Int := clampTo p.rangeLow p.rangeHigh (engineering p raw)

/-- Stage 4's mark: the value lay outside the range (R7). -/
def outOfRange (p : ChanParams) (raw : Int) : Bool :=
  decide (engineering p raw < p.rangeLow) || decide (p.rangeHigh < engineering p raw)

/-- The average window after a value (R8): never more than N values, the oldest leaving first. -/
def pushWindow (length : Nat) (window : List Int) (v : Int) : List Int :=
  if length ≤ window.length then window.tail ++ [v] else window ++ [v]

/-- The mean of the values present, truncated toward zero (R8). -/
def meanOf (window : List Int) : Int := (sumOf window).tdiv window.length

/-- The underlying quality an accepted reading leaves (R9). -/
def qualityAfter (p : ChanParams) (raw : Int) (windowLength : Nat) : Quality :=
  if outOfRange p raw then .outOfRange else if windowLength < p.length then .settling else .good

/-- An accepted reading taken by a channel at an instant (R5 to R10). -/
def Channel.accept (c : Channel) (raw : Int) (instant : Nat) : Channel :=
  let v := conditioned c.p raw
  let w := pushWindow c.p.length c.window v
  { c with window := w, inst := v, avg := meanOf w, quality := qualityAfter c.p raw w.length
           timer := some (instant + c.p.freshness), last := some instant, accepted := c.accepted + 1 }

/-- The value a cleared channel holds: 0 clamped into its range (R3). -/
def ChanParams.clearedValue (p : ChanParams) : Int := clampTo p.rangeLow p.rangeHigh 0

/-- A channel cleared with given parameters (R3), its freshness timer started afresh. -/
def clearedChannel (p : ChanParams) (now : Nat) : Channel where
  p := p
  window := []
  inst := p.clearedValue
  avg := p.clearedValue
  quality := .none
  timer := some (now + p.freshness)
  last := none
  accepted := 0
  invalid := 0

/-! ## Presented values and bound views (R11, R12) -/

/-- The presented quality and values (R1, R11). -/
def Channel.presented (c : Channel) : View :=
  if c.present && c.p.substFlag then { quality := .substituted, inst := c.p.substitute, avg := c.p.substitute }
  else { quality := c.quality, inst := c.inst, avg := c.avg }

/-- The view of an unbound consumer (R12). -/
def unbound : View := { quality := .none, inst := 0, avg := 0 }

/-- The channel of a number, if the number names one. -/
def State.chanAt (s : State) (n : Nat) : Option Channel := if h : n < 96 then some (s.chan ⟨n, h⟩) else none

/-- Whether a consumer that names channel `n` and needs a kind is bound (R12). -/
def State.boundTo (s : State) (n : Nat) (kind : ChanKind) : Bool :=
  match s.chanAt n with
  | none => false
  | some c => c.present && c.p.kind == kind

/-- The bound view of a consumer that names channel `n` and needs a kind (R12). -/
def State.viewOf (s : State) (n : Nat) (kind : ChanKind) : View :=
  match s.chanAt n with
  | none => unbound
  | some c => if c.present && c.p.kind == kind then c.presented else unbound

/-- A cavern's pressure: the bound view of its pressure channel (section 2.1). -/
def State.pressure (s : State) (c : Fin 4) : View :=
  match (s.cavern c).p.channel with
  | none => unbound
  | some n => s.viewOf n .pressure

/-- Grid frequency is bound: the grid channel is present, of kind FREQUENCY, and fed by the grid-meter node,
which is not 0 (R12). Answers its channel number. -/
def State.gridBound (s : State) : Option Nat :=
  match s.plant.gridChannel with
  | none => none
  | some n =>
    match s.chanAt n with
    | none => none
    | some c =>
      if c.present && c.p.kind == .frequency && c.p.source == s.plant.gridNode && s.plant.gridNode != 0 then some n else none

/-- The bound view of grid frequency (R12). -/
def State.gridView (s : State) : View :=
  match s.gridBound with
  | none => unbound
  | some n => s.viewOf n .frequency

/-- Measured frequency minus nominal (section 1.7). -/
def State.deviation (s : State) (v : View) : Int := sat32 (v.inst - s.plant.fNom)

/-- The f_dev of R18: 0 unless the bound view is usable. -/
def State.evalDeviation (s : State) : Int := if s.gridView.quality.usable then s.deviation s.gridView else 0

/-- The f_dev a fallback expiry carries (R16): of any usable view, otherwise 0. -/
def State.fallbackDeviation (s : State) : Int := s.evalDeviation

/-! ## Caverns (R29 to R33) -/

/-- Generation factor (R29). -/
def CavernParams.genFactor (p : CavernParams) (pressure : Int) : Int := perMille (pressure - p.pMin) p.taper

/-- Absorption factor (R29). -/
def CavernParams.absorbFactor (p : CavernParams) (pressure : Int) : Int := perMille (p.pMax - pressure) p.taper

/-- The factors and the rate list as a quality decides them (R29): usable computes, STALE keeps, NONE empties. -/
def Cavern.withView (c : Cavern) (v : View) : Cavern :=
  if v.quality = .none then { c with gen := 0, absorb := 0, rates := [], rate := 0, rateValid := false }
  else if v.quality = .stale then c
  else { c with gen := c.p.genFactor v.avg, absorb := c.p.absorbFactor v.avg }

/-- The pressure rate of a rate list (R31): value and validity. -/
def rateOf (l : List (Int × Nat)) : Int × Bool :=
  match l.head?, l.getLast? with
  | some old, some new =>
    if 2 ≤ l.length ∧ 60000 ≤ new.2 - old.2 then (sat32 (((new.1 - old.1) * 3600000).tdiv (new.2 - old.2 : Nat)), true)
    else (0, false)
  | _, _ => (0, false)

/-- The rate list after a value event (R30): an entry at least the spacing after the newest, at most 16. -/
def pushRate (spacingMs : Nat) (l : List (Int × Nat)) (avg : Int) (instant : Nat) : List (Int × Nat) :=
  match l.getLast? with
  | none => [(avg, instant)]
  | some new =>
    if instant < new.2 + spacingMs then l
    else if Config.rateCap ≤ l.length then l.tail ++ [(avg, instant)] else l ++ [(avg, instant)]

/-- A value event's effect on the rate list and the rate (R30, R31). -/
def Cavern.withRate (c : Cavern) (spacingMs : Nat) (avg : Int) (instant : Nat) : Cavern :=
  let l := pushRate spacingMs c.rates avg instant
  { c with rates := l, rate := (rateOf l).1, rateValid := (rateOf l).2 }

/-- RATE_HOLD as R32 decides it, first case that applies. -/
def Cavern.holdAfter (c : Cavern) (q : Quality) (m : ManifoldState) : Bool :=
  if q.usable = false then true
  else if m.flow = none ∨ c.rateValid = false then false
  else if (m = .discharge ∧ c.rate < -c.p.rateLimit) ∨ (m = .charge ∧ c.p.rateLimit < c.rate) then true
  else if magnitude c.rate < (c.p.rateLimit * 9).tdiv 10 then false
  else c.hold

/-- A present cavern whose valve is OPEN (R33). -/
def Cavern.isOpen (c : Cavern) : Bool := c.p.present && c.valve == .opened

/-- The factor of a cavern for a direction. -/
def Cavern.factor (c : Cavern) : Direction → Int
  | .charge => c.absorb
  | .discharge => c.gen

/-- The present caverns whose valve is OPEN, ascending. -/
def State.openCaverns (s : State) : List (Fin 4) := cavernNumbers.filter fun c => (s.cavern c).isOpen

/-- The plant cavern factor for a direction (R33): the least over the open caverns, 0 with none. -/
def State.plantFactor (s : State) (d : Direction) : Int := leastOf (s.openCaverns.map fun c => (s.cavern c).factor d)

/-- The mark that belongs to a direction (R35). -/
def Direction.mark : Direction → Mark
  | .charge => .high
  | .discharge => .low

/-- The direction a mark belongs to (R35). -/
def Mark.dir : Mark → Option Direction
  | .none => Option.none
  | .low => some .discharge
  | .high => some .charge

/-- The present direction of R35: the remembered one in CHANGEOVER. -/
def Manifold.present (m : Manifold) : Option Direction :=
  match m.state with
  | .idle => none
  | .charge => some .charge
  | .discharge => some .discharge
  | .changeover => m.remembered

/-- The isolation condition of R34 under a pressure quality. -/
def Cavern.meetsIsolation (c : Cavern) (q : Quality) (m : ManifoldState) : Bool :=
  match m.flow with
  | none => false
  | some d => c.p.present && c.factor d == 0 && q != .none && (c.valve == .opened || c.valve == .opening) && c.mark == .none

/-- The reopening condition of R36, the mode apart: marked, the manifold flowing the other way, CLOSED or UNKNOWN. -/
def Cavern.meetsReopening (c : Cavern) (m : ManifoldState) : Bool :=
  match m.flow, c.mark.dir with
  | some d, some own => c.p.present && d != own && (c.valve == .closed || c.valve == .unknown)
  | _, _ => false

/-! ## Heat stores (R50 to R52) -/

/-- What one layer contributes (R50): nothing from NONE or from below T_ref. -/
def layerHeat (tRef : Int) (l : Layer) (v : LayerView) : Int :=
  if v.quality = .none then 0 else max 0 (l.capacity * (v.avg - tRef))

/-- The energy of a present store (R50). -/
def Store.energyOf (m : Store) : Int :=
  min 2147483647 ((sumOf ((m.p.layers.zip m.views).map fun x => layerHeat m.p.tRef x.1 x.2)).tdiv 100000)

/-- The layers whose view is STALE or NONE (R51). -/
def Store.unusable (m : Store) : Nat := (m.views.filter fun v => !v.quality.usable).length

/-- The quality of a present store (R51). -/
def Store.qualityOf (m : Store) : StoreQuality :=
  if m.unusable = 0 then .good else if 2 * m.unusable ≤ m.p.layers.length then .degraded else .unavailable

/-- Energy, quality and factors recomputed from the layer views (R50 to R52). -/
def Store.recomputed (m : Store) : Store :=
  let e := m.energyOf
  let q := m.qualityOf
  { m with energy := e, quality := q
           gen := if q = .unavailable then 0 else perMille (e - m.p.eFloor) m.p.band
           absorb := if q = .unavailable then 0 else perMille (m.p.eCeiling - e) m.p.band }

/-- The factor of a store for a direction (R46). -/
def Store.factor (m : Store) : Direction → Int
  | .charge => if m.p.present then m.absorb else 0
  | .discharge => if m.p.present then m.gen else 0

/-- The factor of the store a train names, 0 for an absent store (R46). -/
def State.storeFactor (s : State) (t : Train) (d : Direction) : Int :=
  if h : t.p.store < 3 then (s.store ⟨t.p.store, h⟩).factor d else 0

/-- A train assigned to a store record (R46). -/
def Train.assignedTo (t : Train) (m : Fin 3) : Bool := t.present && t.p.store == m.val

/-- The slots assigned to a store, and those of them that flow (R47, R55). -/
def State.assigned (s : State) (m : Fin 3) : List (Fin 8) := slotNumbers.filter fun i => (s.train i).assignedTo m
def State.assignedFlowing (s : State) (m : Fin 3) : List (Fin 8) := (s.assigned m).filter fun i => (s.train i).flowing

/-! ## Trains -/

/-- R63: whether an order is admitted in a state; none admits it, a code refuses it. TRIP_RESET's own check is R68's. A
SETPOINT to a STARTING, UNLOADING or STOPPING train is refused STATE, as R66 and R153 say of SETPOINT, and not BUSY, as
the table of R63 says of any other order (log 35). -/
def admission (st : TrainState) (o : Order) : Option Code :=
  match st, o with
  | .unknown, .trip => none
  | .unknown, _ => some .unsettled
  | .offline, .enable => none
  | .offline, _ => some .state
  | .standby, .start => none
  | .standby, .disable => none
  | .standby, .trip => none
  | .standby, _ => some .state
  | .startWait, .abort => none
  | .startWait, .trip => none
  | .startWait, _ => some .state
  | .starting, .abort => none
  | .starting, .trip => none
  | .starting, .setpoint => some .state
  | .starting, _ => some .busy
  | .idleRun, .load => none
  | .idleRun, .stop => none
  | .idleRun, .trip => none
  | .idleRun, _ => some .state
  | .loading, .trip => none
  | .loading, _ => some .busy
  | .loaded, .setpoint => none
  | .loaded, .unload => none
  | .loaded, .trip => none
  | .loaded, _ => some .state
  | .unloading, .trip => none
  | .unloading, .setpoint => some .state
  | .unloading, _ => some .busy
  | .stopping, .trip => none
  | .stopping, .setpoint => some .state
  | .stopping, _ => some .busy
  | .tripped, .trip => none
  | .tripped, .tripReset => none
  | .tripped, _ => some .state

/-- The state a report implies (R69). -/
def TrainReport.implied : TrainReport → TrainState
  | .state st => st
  | .event .atSpeed => .idleRun
  | .event .loadedAck => .loaded
  | .event .unloaded => .idleRun
  | .event .stopped => .standby
  | .event .tripped => .tripped
  | .event .tripClear => .tripped

/-- The completion state of an intermediate state (R71). -/
def TrainState.completion : TrainState → Option TrainState
  | .starting => some .idleRun
  | .loading => some .loaded
  | .unloading => some .idleRun
  | .stopping => some .standby
  | _ => none

/-- The implied states that lag an operation (R72). -/
def TrainState.lags : TrainState → List TrainState
  | .starting => [.standby]
  | .loading => [.idleRun]
  | .unloading => [.loaded, .loading]
  | .stopping => [.idleRun]
  | _ => []

/-- R72: the implied state agrees with the record, START_WAIT counting as STANDBY. -/
def agrees (record implied : TrainState) : Bool :=
  record == implied || (record == .startWait && implied == .standby)

/-- The timeout of an intermediate state, in milliseconds (R75). -/
def TrainParams.timeout (p : TrainParams) : TrainState → Option Nat
  | .starting => some (p.tStart * 1000)
  | .loading => some (p.tLoad * 1000)
  | .unloading => some (p.tUnload * 1000)
  | .stopping => some (p.tStop * 1000)
  | _ => none

/-- The fallback order of R76, the state it gives and its notice. -/
def TrainState.fallback : TrainState → Option (Order × TrainState × NoticeName)
  | .starting => some (.abort, .standby, .startFailed)
  | .loading => some (.unload, .unloading, .loadTimeout)
  | .unloading => some (.trip, .tripped, .unloadTimeout)
  | .stopping => some (.trip, .tripped, .stopTimeout)
  | _ => none

/-- The loading order of a kind (section 4.1): its present trains by ascending loading position. -/
def State.loadingOrder (s : State) (k : TrainKind) : List (Fin 8) :=
  (List.range 8).flatMap fun p => slotNumbers.filter fun i =>
    (s.train i).present && (s.train i).p.kind == k && (s.train i).p.position == p + 1

/-- Some present train is UNKNOWN (R65, R143). -/
def State.someUnknown (s : State) : Bool := slotNumbers.any fun i => (s.train i).isIn .unknown

/-- Some train of a kind flows (R39). -/
def State.kindFlows (s : State) (k : TrainKind) : Bool :=
  slotNumbers.any fun i => (s.train i).flowing && (s.train i).p.kind == k

/-- Some train flows (R39). -/
def State.someFlows (s : State) : Bool := slotNumbers.any fun i => (s.train i).flowing

/-- R38: whether the manifold takes a LOAD of a train's kind; none takes it, a code refuses it. -/
def Manifold.loadCheck (m : Manifold) (k : TrainKind) : Option Code :=
  match m.state with
  | .idle => none
  | .charge => if k.dir = some .charge then none else some .direction
  | .discharge => if k.dir = some .discharge then none else some .direction
  | .changeover => if k.dir = m.remembered then none else some .waitDeadband

end Sys2Proof.Machine
end

