-- ==== Sys2Proof/Machine/Caverns.lean ====
section
/-!
DEFINITION. The Cavern Monitor (chapter 2): valve orders, reports and travel, the events of a cavern's pressure
channel, RATE_HOLD, limit isolation and reopening, the manifold, and the cavern adequacy check.
-/

namespace Sys2Proof.Machine

/-! ## Valves (R25 to R28) -/

/-- R25: whether a valve order is refused in a valve state. -/
def valveRefusal (v : ValveState) (o : Order) : Option Code :=
  match v, o with
  | .closing, .valveOpen => some .busy
  | .fault, .valveOpen => some .state
  | _, _ => none

/-- R25: the state a valve order gives, or none for no change. -/
def valveNext (v : ValveState) (o : Order) : Option ValveState :=
  match v, o with
  | .unknown, .valveOpen => some .opening
  | .closed, .valveOpen => some .opening
  | .opening, .valveOpen => none
  | .opened, .valveOpen => none
  | .closing, .valveOpen => none
  | .fault, .valveOpen => none
  | .closed, _ => none
  | .closing, _ => none
  | _, _ => some .closing

/-- The valve state moves: the travel timer starts afresh on entry to OPENING or CLOSING and stops otherwise (R28). -/
def State.setValve (s : State) (c : Fin 4) (v : ValveState) : State :=
  let x := s.cavern c
  s.setCavern c { x with valve := v, timer := if v = .opening ∨ v = .closing then s.after (x.p.travel * 1000) else none }

/-- The isolation mark of a cavern is set or cleared. -/
def State.setMark (s : State) (c : Fin 4) (m : Mark) : State := s.setCavern c { s.cavern c with mark := m }

/-- Limit isolation of one cavern, where it meets the condition (R34). -/
def State.isolate (s : State) (c : Fin 4) : State :=
  if (s.cavern c).meetsIsolation (s.pressure c).quality s.manifold.state then
    if s.orderRoom then
      match s.manifold.state.flow with
      | none => s
      | some d =>
        let s1 := ((s.place (s.cavern c).p.node .valveClose 0).setValve c .closing).setMark c d.mark
        s1.notify .cavernIsolated (.cavern c) [.fig c.val, .code d.mark.num, .fig (s1.pressure c).avg]
    else s.cavernQueueFull c .valveClose
  else s

/-- Reopening of one isolated cavern in AUTO, where it meets the condition (R36); a cavern that becomes OPENING
is evaluated for isolation (R34). -/
def State.reopen (s : State) (c : Fin 4) : State :=
  if s.mode.mode = .auto ∧ (s.cavern c).meetsReopening s.manifold.state then
    if s.orderRoom then
      let s1 := ((s.place (s.cavern c).p.node .valveOpen 0).setValve c .opening).setMark c .none
      (s1.notify .cavernReopened (.cavern c) []).isolate c
    else s.cavernQueueFull c .valveOpen
  else s

/-- Isolation of every present cavern, ascending (R34, R37). -/
def State.isolateAll (s : State) : State := cavernNumbers.foldl State.isolate s

/-- Reopening of every present cavern, ascending (R36, R37, R141). -/
def State.reopenAll (s : State) : State := cavernNumbers.foldl State.reopen s

/-- A valve whose state has become OPEN or OPENING on a report: an isolated cavern is ordered closed, or loses its
mark where the order finds no room (R27's exception); any other is evaluated for isolation (R34). -/
def State.openedByReport (s : State) (c : Fin 4) : State :=
  if (s.cavern c).mark = .none then s.isolate c
  else if s.orderRoom then (s.place (s.cavern c).p.node .valveClose 0).setValve c .closing
  else (s.setMark c .none).cavernQueueFull c .valveClose

/-- VALVE_MISMATCH with the cavern, the state held and the position reported (R27). -/
def State.valveMismatch (s : State) (c : Fin 4) (held : ValveState) (pos : ValvePos) : State :=
  s.notify .valveMismatch (.cavern c) [.fig c.val, .code held.num, .code pos.num]

/-- A valve report moves the valve state (R27). Its notice comes before the isolation or reopening it leads to (log 44). -/
def State.valveReport (s : State) (c : Fin 4) (pos : ValvePos) : State :=
  let held := (s.cavern c).valve
  match held, pos with
  | .unknown, .opened => (s.setValve c .opened).openedByReport c
  | .unknown, .closed => (s.setValve c .closed).reopen c
  | .unknown, .travelling => s
  | .closed, .opened => ((s.setValve c .opened).valveMismatch c held pos).openedByReport c
  | .closed, .closed => s
  | .closed, .travelling => ((s.setValve c .opening).valveMismatch c held pos).openedByReport c
  | .opening, .opened => (s.setValve c .opened).openedByReport c
  | .opening, .closed => s
  | .opening, .travelling => s
  | .opened, .opened => s
  | .opened, .closed => ((s.setValve c .closed).valveMismatch c held pos).reopen c
  | .opened, .travelling => (s.setValve c .closing).valveMismatch c held pos
  | .closing, .opened => s
  | .closing, .closed => (s.setValve c .closed).reopen c
  | .closing, .travelling => s
  | .fault, .opened => ((s.setValve c .opened).notify .valveRecovered (.cavern c) []).openedByReport c
  | .fault, .closed => ((s.setValve c .closed).notify .valveRecovered (.cavern c) []).reopen c
  | .fault, .travelling => s
  | .fault, .fault => s
  | _, .fault => (s.setValve c .fault).notify .valveFault (.cavern c) [.fig c.val, .code held.num]

/-- Expiry of the travel timer (R28). -/
def State.travelExpired (s : State) (c : Fin 4) : State :=
  let held := (s.cavern c).valve
  if held = .opening ∨ held = .closing then
    (s.setValve c .fault).notify .valveTimeout (.cavern c) [.fig c.val, .code held.num]
  else s.setCavern c { s.cavern c with timer := none }

/-! ## Pressure events (R29 to R32) -/

/-- RATE_HOLD of a present cavern is evaluated (R32). -/
def State.evalHold (s : State) (c : Fin 4) : State :=
  let x := s.cavern c
  let q := (s.pressure c).quality
  let h := x.holdAfter q s.manifold.state
  if x.p.present = false ∨ h = x.hold then s
  else
    let s1 := s.setCavern c { x with hold := h }
    if h then s1.notify .rateHold (.cavern c) [.fig c.val, .fig x.rate, .code q.num]
    else s1.notify .rateHoldEnd (.cavern c) []

/-- RATE_HOLD of every present cavern, ascending. -/
def State.evalHoldAll (s : State) : State := cavernNumbers.foldl State.evalHold s

/-- A value event of a cavern's pressure channel: factors, rate list (R29 to R31), then RATE_HOLD, isolation and reopening
(R32, R34, R36), which the rules order after the factors alone; the order among the three: log 44. -/
def State.cavernValue (s : State) (c : Fin 4) (v : View) (instant : Nat) : State :=
  let x := ((s.cavern c).withView v).withRate (s.plant.rateSpacing * 1000) v.avg instant
  ((State.evalHold (s.setCavern c x) c).isolate c).reopen c

/-- A quality event of a cavern's pressure channel: factors (R29), then RATE_HOLD and isolation (R32, R34) in this order
(log 44). -/
def State.cavernQuality (s : State) (c : Fin 4) (v : View) : State :=
  ((s.setCavern c ((s.cavern c).withView v)).evalHold c).isolate c

/-! ## Manifold (R37 to R41) -/

/-- The manifold changes state: MANIFOLD_CHANGE; entry into a direction evaluates isolation and reopening of every
present cavern; every change evaluates RATE_HOLD of every present cavern (R37). The order of the evaluations: log 13; the
notice comes before them (log 44). -/
def State.manifoldTo (s : State) (m : Manifold) : State :=
  let old := s.manifold.state
  let s1 := State.notify { s with manifold := m } .manifoldChange .none
    [.code old.num, .code m.state.num, match m.remembered with | none => .none | some d => .code d.state.num]
  let s2 := if m.state.flow = none then s1 else s1.isolateAll.reopenAll
  s2.evalHoldAll

/-- The manifold enters a direction and the deadband timer is stopped (R38, R41). A direction remembered in CHANGEOVER is
forgotten then, as R40 says of the expiry alone (log 43). -/
def State.enterDirection (s : State) (d : Direction) : State :=
  s.manifoldTo { state := d.state, remembered := none, timer := none }

/-- The manifold becomes IDLE and forgets the remembered direction (R40). -/
def State.manifoldIdle (s : State) : State := s.manifoldTo { state := .idle, remembered := none, timer := none }

/-- The deadband timer starts, once no train of either kind flows; with a deadband of 0 the manifold is IDLE in the
same event (R39). -/
def State.startDeadband (s : State) : State :=
  if s.plant.deadband = 0 then s.manifoldIdle
  else { s with manifold := { s.manifold with timer := s.after (s.plant.deadband * 1000) } }

/-- The last train of the direction has left flow: CHANGEOVER (R39). -/
def State.enterChangeover (s : State) (d : Direction) : State :=
  let s1 := s.manifoldTo { state := .changeover, remembered := some d, timer := none }
  if s1.someFlows then s1 else s1.startDeadband

/-- The manifold's answer to a train that has begun to flow (R38, R41). -/
def State.flowBegan (s : State) (k : TrainKind) : State :=
  match s.manifold.state.flow, k.dir with
  | none, some d => s.enterDirection d
  | _, _ => s

/-- The manifold's answer to a train that has left flow (R39). -/
def State.flowEnded (s : State) : State :=
  match s.manifold.state with
  | .charge => if s.kindFlows .compressor then s else s.enterChangeover .charge
  | .discharge => if s.kindFlows .expander then s else s.enterChangeover .discharge
  | .changeover => if s.someFlows ∨ s.manifold.timer ≠ none then s else s.startDeadband
  | .idle => s

/-- The manifold's answer to a change of a train's state (R37). -/
def State.manifoldAnswer (s : State) (k : TrainKind) (old new : TrainState) : State :=
  if old.flows = false ∧ new.flows = true then s.flowBegan k
  else if old.flows = true ∧ new.flows = false then s.flowEnded
  else s

/-- Expiry of the deadband timer (R40). -/
def State.deadbandExpired (s : State) : State :=
  if s.manifold.state = .changeover then s.manifoldIdle
  else { s with manifold := { s.manifold with timer := none } }

/-! ## Adequacy (R42) -/

/-- The energy of an interval in MWh (R42, R54). -/
def intervalEnergy (net : Int) (l : Nat) : Int := (magnitude net * l).tdiv 3600000

/-- The predicted pressure of a cavern at the interval's end (R42). -/
def predicted (p : CavernParams) (pressure net energy : Int) (nOpen : Nat) : Int :=
  let share := (energy * p.stiffness).tdiv nOpen
  sat32 (if 0 < net then pressure - share else pressure + share)

/-- The check of one open cavern (R42). -/
def State.airCheckOne (k : Nat) (net energy : Int) (nOpen : Nat) (s : State) (c : Fin 4) : State :=
  let p := (s.cavern c).p
  let v := s.pressure c
  let e := predicted p v.avg net energy nOpen
  if v.quality = .none then s
  else if 0 < net ∧ e < p.pMin then
    s.notify .scheduleAirShort (.cavern c) [.fig k, .fig c.val, .fig energy, .fig e, .fig p.pMin]
  else if net < 0 ∧ p.pMax < e then
    s.notify .scheduleAirFull (.cavern c) [.fig k, .fig c.val, .fig energy, .fig e, .fig p.pMax]
  else s

/-- The cavern adequacy check at a boundary (R42). With no open cavern one notice names no cavern, with
prediction 0 and no limit. The notices of several open caverns come in ascending cavern number (log 50). -/
def State.airCheck (s : State) (k : Nat) (net : Int) : State :=
  let energy := intervalEnergy net s.plant.interval
  let l := s.openCaverns
  if net = 0 then s
  else if l.isEmpty then
    s.notify (if 0 < net then .scheduleAirShort else .scheduleAirFull) .none [.fig k, .none, .fig energy, .fig 0, .none]
  else l.foldl (State.airCheckOne k net energy l.length) s

end Sys2Proof.Machine
end

