-- ==== Sys2Proof/Machine/Modes.lean ====
section
/-!
DEFINITION. The dispatch mode, the hold causes, and the adoption of the pending dispatch parameter set
(R118, R139 to R141, R169).
-/

namespace Sys2Proof.Machine

/-- The edit-quiet timer restarts for 10 s (section 10.3). -/
def State.editQuiet (s : State) : State := { s with mgr := { s.mgr with quiet := s.after 10000 } }

/-- The pending parameter set is adopted: copied into the active one, the swap mark cleared, DISPATCH_SET_ADOPTED
raised with a computation count, and edit-quiet restarted (R118, R169). -/
def State.adoptSet (s : State) (count : Word) : State :=
  let s1 : State := { s with disp := { s.disp with active := s.disp.next, swap := false } }
  s1.editQuiet.notify .dispatchSetAdopted .none [.fig count.toNat]

/-- Every present train's dispatch track is set to its last ordered setpoint, and the next Δt is 0 (R129, R130). -/
def State.tracksAfresh (s : State) : State :=
  { s with disp := { s.disp with tracks := s.trains.map (fun t => if t.present then t.setpoint else 0), fresh := true } }

/-- The commitment state is cleared (R141, R143). -/
def State.clearStop (s : State) : State := { s with commit := { s.commit with stop := none } }

/-- AUTO or HOLD. -/
def Mode.dispatches : Mode → Bool
  | .auto => true
  | .hold => true
  | _ => false

/-- A change of the dispatch mode with its effects (R141); a request for the present mode changes nothing.
`cause` is 0 for a directive and 1 for a hold cause. R141 lists the effects without an order: MODE_CHANGE comes first, then
DISPATCH_SET_ADOPTED or the reopenings (log 46). -/
def State.setMode (s : State) (new : Mode) (cause : Nat) : State :=
  let old := s.mode.mode
  if old = new then s
  else
    let s1 : State := { s with mode := { s.mode with mode := new } }
    let s2 := s1.notify .modeChange .none [.code old.num, .code new.num, .code s1.mode.causes, .code cause]
    let s3 := if new = .off ∧ s2.disp.swap then s2.adoptSet 0 else s2
    let s4 := if old.dispatches = false ∧ new.dispatches = true then s3.tracksAfresh else s3
    let s5 := if old = .auto then s4.clearStop else s4
    if new = .auto then s5.reopenAll else s5

/-- The mode answers a change of the hold-cause set (R140): a cause in AUTO gives HOLD, an empty set in HOLD gives AUTO. -/
def State.answerCauses (s : State) : State :=
  if s.mode.mode = .auto ∧ s.mode.clear = false then s.setMode .hold 1
  else if s.mode.mode = .hold ∧ s.mode.clear = true then s.setMode .auto 1
  else s

/-- The hold cause CONFIG is reported present or ended (R140, R172). -/
def State.causeConfig (s : State) (b : Bool) : State :=
  if s.mode.config = b then s else State.answerCauses { s with mode := { s.mode with config := b } }

/-- The hold cause RING_OPEN is reported present or ended (R140, R162, R163). -/
def State.causeRing (s : State) (b : Bool) : State :=
  if s.mode.ringOpen = b then s else State.answerCauses { s with mode := { s.mode with ringOpen := b } }

/-- The hold cause CLOCK_UNSYNCED is reported present or ended (R140, R101). -/
def State.causeClock (s : State) (b : Bool) : State :=
  if s.mode.unsynced = b then s else State.answerCauses { s with mode := { s.mode with unsynced := b } }

/-- The MODE directive (R139): the code of its answer, and the state after. -/
def State.requestMode (s : State) (code : Nat) : Code × State :=
  match code with
  | 0 => (.done, s.setMode .off 0)
  | 1 => (.done, s.setMode .manual 0)
  | 2 =>
    if s.clock.state = .invalid then (.noTime, s)
    else (.done, s.setMode (if s.mode.clear then .auto else .hold) 0)
  | _ => (.range, s)

/-- The SWAP directive (R118, R169): the mark is set, the set adopted at once in OFF, edit-quiet restarted. -/
def State.swapTaken (s : State) : State :=
  let s1 := State.editQuiet { s with disp := { s.disp with swap := true } }
  if s1.mode.mode = .off then s1.adoptSet 0 else s1

/-- Expiry of the return watch (R163): the ring is open. The watch stays stopped until the oldest entry changes. RING_OPEN
comes before the change of the mode (log 46). -/
def State.returnExpired (s : State) : State :=
  let s1 : State := { s with ring := { s.ring with watch := none } }
  match s1.ring.continuity, s1.ring.returns with
  | .ringOpen, _ => s1
  | _, [] => s1
  | _, e :: rest =>
    let s2 : State := { s1 with ring := { s1.ring with continuity := .ringOpen } }
    (s2.notify .ringOpen .none [.fig e.seq.toNat, .fig (rest.length + 1)]).causeRing true

/-- What a return list keeps when the frame of a sequence number returns: the entries newer than it (R162). -/
def returnedRest (seq : SeqNo) : List Return → Option (List Return)
  | [] => none
  | e :: rest => if e.seq = seq then some rest else returnedRest seq rest

/-- A stripped frame's effect on the return list and the continuity state (R162). RING_CLOSED comes before the change of the
mode (log 46). -/
def State.returned (s : State) (seq : SeqNo) : State :=
  match returnedRest seq s.ring.returns with
  | none => s
  | some rest =>
    let removed := s.ring.returns.length - rest.length
    let old := s.ring.continuity
    let s1 : State := { s with ring := { s.ring with returns := rest, watch := watchFor s.plant.returnTimeout rest
                                                     continuity := .ringClosed } }
    if old = .ringClosed then s1
    else
      let s2 := s1.notify .ringClosed .none [.fig seq.toNat, .fig removed]
      if old = .ringOpen then s2.causeRing false else s2

/-- Edit-quiet runs: it is set and its deadline is still to come. At its deadline it no longer runs, so that the pass 10 s
after the last edit is judged (R172, log 3). -/
def State.quietRuns (s : State) : Bool :=
  match s.mgr.quiet with
  | none => false
  | some d => decide (s.now < d)

/-- The configuration check's pass (R172): skipped while edit-quiet runs; otherwise the image is summed. The notice of the
check comes before the change of the mode that CONFIG may cause (log 46). -/
def State.configPass (s : State) : State :=
  if s.quietRuns then s
  else
    let sum := s.imageSum
    let good := decide (sum = 0xFFFFFFFF#32)
    let old := s.mgr.check
    let new := if good then CheckState.isMatch else CheckState.mismatch
    let s1 : State := { s with mgr := { s.mgr with lastSum := some sum, check := new } }
    if old = new then s1
    else if good then (s1.notify .configMatch .none [.fig sum.toNat]).causeConfig false
    else (s1.notify .configMismatch .none [.fig sum.toNat]).causeConfig true

/-- Expiry of the period timer: it restarts, and a pass is made (R172). -/
def State.periodExpired (s : State) : State :=
  State.configPass { s with mgr := { s.mgr with periodTimer := s.after 2000 } }

end Sys2Proof.Machine
end

