-- ==== Sys2Proof/Machine/Trains.lean ====
section
/-!
DEFINITION. The Train Sequencer and the Converter Allocator (chapters 4 and 5): the common effects of a change of
state (R61), orders (R62 to R68), reports (R69 to R74), timeouts (R75 to R77), adoption (R78 to R80), trip
capture (R73, R81), and the converter (R87 to R95).
-/

namespace Sys2Proof.Machine

/-! ## A change of a train's state (R61) -/

/-- The record of a train after a change of state: entry instant, sequence timer, setpoint, STARVED mark and, into
TRIPPED, the pre-trip fields (R61). -/
def Train.changed (t : Train) (new : TrainState) (setpoint : Int) (now : Nat) : Train :=
  let sp := if new = .loaded then setpoint else 0
  let base : Train := { t with state := new, entry := now, timer := (t.p.timeout new).map (now + ·), setpoint := sp
                               starved := if t.state = .loaded then false else t.starved }
  if new = .tripped then { base with preState := some t.state, preSetpoint := t.setpoint, tripClear := false } else base

/-- The dispatch track of a slot is set (R129). -/
def State.setTrack (s : State) (i : Fin 8) (v : Int) : State :=
  { s with disp := { s.disp with tracks := s.disp.tracks.set i.val v i.isLt } }

/-- The converter's answer to a train leaving START_WAIT or STARTING: the slot leaves the start queue, or the
converter is released into COOLDOWN, or FREE with a cooldown of 0 (R61, R90, R93). A release that finds FAULT
leaves it. -/
def State.convLeft (s : State) (i : Fin 8) (old : TrainState) : State :=
  match old with
  | .startWait =>
    let q := s.conv.queue.erase i
    { s with conv := { s.conv with queue := q, retry := if q.isEmpty then none else s.conv.retry } }
  | .starting =>
    if s.conv.state = .busy i then
      if s.plant.cooldown = 0 then { s with conv := { s.conv with state := .free } }
      else { s with conv := { s.conv with state := .cooldown, cooldown := s.after (s.plant.cooldown * 1000) } }
    else s
  | _ => s

/-- TRAIN_STATE with the slot, the old and new state and the cause (R61). -/
def State.trainNotice (s : State) (i : Fin 8) (old new : Item) (cause : Cause) : State :=
  s.notify .trainState (.train i) [.fig i.val, old, new, cause.item]

/-- A change of a train's state without the service of the start queue that a release may lead to (R61). -/
def State.moveTrain (s : State) (i : Fin 8) (new : TrainState) (setpoint : Int) (cause : Cause) : State :=
  let t := s.train i
  if t.state = new then s
  else
    let t' := t.changed new setpoint s.now
    let s1 := (s.setTrain i t').setTrack i t'.setpoint
    let s2 := s1.convLeft i t.state
    (s2.trainNotice i (.code t.state.num) (.code new.num) cause).manifoldAnswer t.p.kind t.state new

/-- The converter is given to a slot: BUSY, the start count up by one, the retry timer stopped (R88, R92, R79). -/
def State.takeConverter (s : State) (i : Fin 8) : State :=
  { s with conv := { s.conv with state := .busy i, starts := s.conv.starts + 1, retry := none } }

/-- Service of the start queue by a FREE converter (R92). -/
def State.serve (s : State) : State :=
  match s.conv.state, s.conv.queue with
  | .free, i :: _ =>
    if s.orderRoom then ((s.place (s.train i).p.node .start 0).takeConverter i).moveTrain i .starting 0 .order
    else
      let s1 := s.trainQueueFull i .start
      { s1 with conv := { s1.conv with retry := s1.after 1000 } }
  | _, _ => s

/-- A change of a train's state with all its effects (R61): leaving STARTING may free the converter, and the head
of the start queue is then served in the same event (R90). -/
def State.changeTrain (s : State) (i : Fin 8) (new : TrainState) (setpoint : Int) (cause : Cause) : State :=
  let s1 := s.moveTrain i new setpoint cause
  if (s.train i).state = .starting ∧ new ≠ .starting then s1.serve else s1

/-! ## Own orders (R62) -/

/-- The state an admitted train order gives, where it gives one by the table of R63 alone. -/
def Order.gives : Order → Option TrainState
  | .abort => some .standby
  | .load => some .loading
  | .unload => some .unloading
  | .stop => some .stopping
  | .trip => some .tripped
  | .enable => some .standby
  | .disable => some .offline
  | .tripReset => some .standby
  | _ => none

/-- The record moves as an admitted order other than START and SETPOINT states (R63 to R68). A TRIP in UNKNOWN or
TRIPPED leaves the record; a TRIP_RESET clears trip clear seen. -/
def State.takeOrder (s : State) (i : Fin 8) (o : Order) : State :=
  match o.gives with
  | none => s
  | some new =>
    if o = .trip ∧ ((s.train i).state = .unknown ∨ (s.train i).state = .tripped) then s
    else if o = .tripReset then
      (s.setTrain i { s.train i with tripClear := false }).changeTrain i new 0 .order
    else s.changeTrain i new 0 .order

/-- The further checks of R65 and R68 on an order the table admits (R53's heat test apart). -/
def State.furtherRefusal (s : State) (i : Fin 8) (o : Order) : Option Code :=
  match o with
  | .load => if s.someUnknown then some .unsettled else s.manifold.loadCheck (s.train i).p.kind
  | .tripReset => if (s.train i).tripClear then none else some .active
  | _ => none

/-- Whether a train order other than START is refused, and with which code (R63, R65, R68). -/
def State.orderRefusal (s : State) (i : Fin 8) (o : Order) : Option Code :=
  match admission (s.train i).state o with
  | some c => some c
  | none => s.furtherRefusal i o

/-- The part originates an order other than START and SETPOINT: refused, without room (QUEUE_FULL), or placed and
taken in the record (R62). For LOAD the order queue is checked before the manifold, after UNSETTLED (R65). -/
def State.originate (s : State) (i : Fin 8) (o : Order) : State :=
  match admission (s.train i).state o with
  | some _ => s
  | none =>
    if o = .load ∧ s.someUnknown then s
    else if s.orderRoom = false then s.trainQueueFull i o
    else
      match s.furtherRefusal i o with
      | some _ => s
      | none => (s.place (s.train i).p.node o 0).takeOrder i o

/-- A SETPOINT is recorded as the last ordered setpoint (R66). -/
def State.recordSetpoint (s : State) (i : Fin 8) (v : Int) : State := s.setTrain i { s.train i with setpoint := v }

/-! ## Starts (R53, R64, R88) -/

/-- An expander whose store's generation factor is 0 may not start (R53). -/
def State.heatLow (s : State) (i : Fin 8) : Bool :=
  (s.train i).p.kind == .expander && s.storeFactor (s.train i) .discharge == 0

/-- The converter is FREE with an empty start queue (R88). -/
def State.converterReady (s : State) : Bool := s.conv.state == .free && s.conv.queue.isEmpty

/-- A START given the converter: BUSY and STARTING in one event (R88). -/
def State.startNow (s : State) (i : Fin 8) : State := (s.takeConverter i).moveTrain i .starting 0 .order

/-- A START queued: the slot joins the tail, the train is START_WAIT, and START_QUEUED carries the slot, its place,
the converter state and the origin, 0 for the part and 1 for the guard (R88). It comes after TRAIN_STATE (log 45). -/
def State.startQueued (s : State) (i : Fin 8) (origin : Nat) : State :=
  let s1 : State := { s with conv := { s.conv with queue := s.conv.queue ++ [i] } }
  (s1.moveTrain i .startWait 0 .order).notify .startQueued (.train i)
    [.fig i.val, .fig (s.conv.queue.length + 1), .code s.conv.state.num, .code origin]

/-- The part originates a START (R53, R62, R88). The source record of HEAT_LOW, whose notify flag R179 reads, is the train
(log 40). -/
def State.originateStart (s : State) (i : Fin 8) : State :=
  match admission (s.train i).state .start with
  | some _ => s
  | none =>
    if s.heatLow i then s.notify .heatLow (.train i) [.fig i.val, .fig (s.train i).p.store]
    else if s.converterReady then
      if s.orderRoom then (s.place (s.train i).p.node .start 0).startNow i else s.trainQueueFull i .start
    else s.startQueued i 0

/-! ## Trip capture (R73, R81) -/

/-- A trip capture record joins the stack; a third discards the oldest and sets the overrun flag (R81). -/
def Train.capture (t : Train) (r : Capture) : Train :=
  if 2 ≤ t.stack.length then { t with stack := t.stack.tail ++ [r], overrun := true } else { t with stack := t.stack ++ [r] }

/-- The event TRIPPED (R73). TRAIN_TRIPPED comes after all that the change of state leads to (log 45). -/
def State.trippedEvent (s : State) (i : Fin 8) (cause : Nat) : State :=
  let t := s.train i
  let was := t.state == .tripped
  let atState := if was then t.preState.getD .unknown else t.state
  let atSetpoint := if was then t.preSetpoint else t.setpoint
  let s1 := if was then s else s.changeTrain i .tripped 0 .report
  let r : Capture :=
    { plantMs := if s1.clock.state = .invalid then 0 else s1.clock.plantMs, clock := s1.clock.state, state := atState
      setpoint := atSetpoint, cause := cause, manifold := s1.manifold.state
      factor := match t.p.kind.dir with | none => 0 | some d => s1.plantFactor d }
  let t1 := { (s1.train i).capture r with tripClear := false }
  (s1.setTrain i t1).notify .trainTripped (.train i)
    [.fig i.val, .fig cause, .code atState.num, .fig t1.stack.length, flagItem t1.overrun]

/-! ## Adoption (R78 to R80) -/

/-- STATE_MISMATCH with the slot, the state held, the code reported and the state recorded (R78). -/
def State.stateMismatch (s : State) (i : Fin 8) (held : TrainState) (code : Byte) : State :=
  s.notify .stateMismatch (.train i)
    [.fig i.val, .code held.num, .code code.toNat, .code (s.train i).state.num]

/-- A report of STARTING is adopted against the converter (R79); STATE_MISMATCH comes last (log 45). -/
def State.adoptStarting (s : State) (i : Fin 8) (code : Byte) : State :=
  let held := (s.train i).state
  if s.conv.state = .free then
    let s1 := (s.takeConverter i).moveTrain i .starting 0 .adoption
    if held = .unknown ∨ held = .standby ∨ held = .startWait then s1 else s1.stateMismatch i held code
  else
    let s1 := s.placeOrFull i .abort
    let s2 := if held = .startWait then s1 else s1.changeTrain i .standby 0 .adoption
    s2.stateMismatch i held code

/-- The manifold flows against a train's own direction (R80, R41). -/
def State.flowsAgainst (s : State) (k : TrainKind) : Bool :=
  match s.manifold.state.flow with
  | none => false
  | some d => k.dir != some d

/-- A report of LOADING or LOADED is adopted against the manifold (R80). -/
def State.adoptFlow (s : State) (i : Fin 8) (implied : TrainState) (power : Int) : State :=
  let t := s.train i
  if s.flowsAgainst t.p.kind then (s.placeOrFull i .unload).changeTrain i .unloading 0 .adoption
  else s.changeTrain i implied (clampTo t.p.pMin t.p.pMax power) .adoption

/-- Adoption of a report's implied state (R78). STATE_MISMATCH comes after all that the change of state leads to (log 45). -/
def State.adopt (s : State) (i : Fin 8) (implied : TrainState) (code : Byte) (power : Int) : State :=
  let held := (s.train i).state
  match implied with
  | .starting => s.adoptStarting i code
  | .loading => let s1 := s.adoptFlow i .loading power; if held = .unknown then s1 else s1.stateMismatch i held code
  | .loaded => let s1 := s.adoptFlow i .loaded power; if held = .unknown then s1 else s1.stateMismatch i held code
  | st => let s1 := s.changeTrain i st 0 .adoption; if held = .unknown then s1 else s1.stateMismatch i held code

/-- The event TRIP_CLEAR (R74); STATE_MISMATCH comes last (log 45). -/
def State.tripClearEvent (s : State) (i : Fin 8) (code : Byte) : State :=
  let held := (s.train i).state
  let s1 := if held = .tripped then s else s.changeTrain i .tripped 0 .adoption
  let s2 := s1.setTrain i { s1.train i with tripClear := true }
  if held = .tripped ∨ held = .unknown then s2 else s2.stateMismatch i held code

/-! ## Reports (R70 to R72) -/

/-- A report that completes, agrees, lags or is adopted (cases 3 to 7 of R70). `before` is the code of the last
report as it stood before this one. -/
def State.stateReport (s : State) (i : Fin 8) (implied : TrainState) (code : Byte) (power : Int) (before : Option Byte) : State :=
  let t := s.train i
  if t.state = .tripped then
    if implied = .tripped ∨ before = some code then s else s.stateMismatch i .tripped code
  else if t.state = .unknown then s.adopt i implied code power
  else if t.state.completion = some implied then s.changeTrain i implied t.p.pMin .report
  else if agrees t.state implied ∨ implied ∈ t.state.lags then s
  else s.adopt i implied code power

/-- A report of a present train (R70): it first replaces the last report. -/
def State.trainReport (s : State) (i : Fin 8) (b : StatusBody) (r : TrainReport) : State :=
  let before := (s.train i).lastReport.map (·.code)
  let s1 := s.setTrain i { s.train i with lastReport := some { kind := b.kind, code := b.code, power := b.power } }
  match r with
  | .event .tripped => s1.trippedEvent i b.cause
  | .event .tripClear => s1.tripClearEvent i b.code
  | r => s1.stateReport i r.implied b.code b.power before

/-! ## Timeouts (R75 to R77) -/

/-- Expiry of a train's sequence timer (R76, R77). The notice of the expiry comes after all that the change of state leads
to, the service of the start queue included (log 45). -/
def State.sequenceExpired (s : State) (i : Fin 8) : State :=
  let t := s.train i
  match t.state.fallback with
  | none => s.setTrain i { t with timer := none }
  | some (o, new, name) =>
    if s.orderRoom then
      ((s.place t.p.node o 0).changeTrain i new 0 .timeout).notify name (.train i) [.fig i.val, .code t.state.num]
    else (s.setTrain i { t with timer := s.after 1000 }).trainQueueFull i o

/-! ## The converter's reports and timers (R91, R92, R94, R95) -/

/-- A report of FAULT (R94): CONVERTER_FAULT, then the ABORT and the change of state, then START_FAILED (log 45). -/
def State.converterFault (s : State) : State :=
  let old := s.conv.state
  if old = .fault then s
  else
    let s1 : State := { s with conv := { s.conv with state := .fault, cooldown := none, retry := none, faults := s.conv.faults + 1 } }
    let s2 := s1.notify .converterFault .none [.code old.num, match old.slot with | none => .none | some i => .fig i.val]
    match old with
    | .busy i =>
      ((s2.placeOrFull i .abort).changeTrain i .standby 0 .order).notify .startFailed (.train i)
        [.fig i.val, .code TrainState.starting.num]
    | _ => s2

/-- A report of AVAILABLE (R95). -/
def State.converterAvailable (s : State) : State :=
  if s.conv.state = .fault then
    State.serve (State.notify { s with conv := { s.conv with state := .free } } .converterAvailable .none [])
  else s

/-- Expiry of the cooldown timer (R91). -/
def State.cooldownExpired (s : State) : State :=
  if s.conv.state = .cooldown then State.serve { s with conv := { s.conv with state := .free, cooldown := none } }
  else { s with conv := { s.conv with cooldown := none } }

/-- Expiry of the service retry timer (R92). -/
def State.retryExpired (s : State) : State := State.serve { s with conv := { s.conv with retry := none } }

/-! ## STATUS by source node (R27, R58, R87, R182, R183) -/

/-- The present train slot whose controller node it is (R58). -/
def State.trainAt (s : State) (node : Nat) : Option (Fin 8) :=
  slotNumbers.find? fun i => (s.train i).present && (s.train i).p.node == node

/-- The present cavern whose valve node it is (R27). -/
def State.cavernAt (s : State) (node : Nat) : Option (Fin 4) :=
  cavernNumbers.find? fun c => (s.cavern c).p.present && (s.cavern c).p.node == node

/-- The train record's part of a STATUS frame. -/
def State.statusToTrain (s : State) (node : Nat) (b : StatusBody) : State :=
  match s.trainAt node, trainReportOf b.kind b.code with
  | some i, some r => s.trainReport i b r
  | _, _ => s

/-- The cavern record's part of a STATUS frame. -/
def State.statusToCavern (s : State) (node : Nat) (b : StatusBody) : State :=
  match s.cavernAt node, valvePosOf b.kind b.code with
  | some c, some p => s.valveReport c p
  | _, _ => s

/-- The converter record's part of a STATUS frame (R87). -/
def State.statusToConverter (s : State) (node : Nat) (b : StatusBody) : State :=
  if s.plant.convNode ≠ 0 ∧ s.plant.convNode = node then
    match convReportOf b.kind b.code with
    | some true => s.converterFault
    | some false => s.converterAvailable
    | none => s
  else s

/-- A tapped STATUS frame goes, by its source node, to the train, valve and converter records (R156). -/
def State.tapStatus (s : State) (f : Frame) : State :=
  match statusBody f.body with
  | none => s
  | some b => ((s.statusToTrain f.src.toNat b).statusToCavern f.src.toNat b).statusToConverter f.src.toNat b

end Sys2Proof.Machine
end

