-- ==== Sys2Proof/Machine/Stores.lean ====
section
/-!
DEFINITION. The Heat Store Monitor (chapter 3): layer events, the recomputation with its notice, a store
write's effect, and the heat adequacy check.
-/

namespace Sys2Proof.Machine

/-- HEAT_STORE_QUALITY with the store, the old and new quality, the energy and the unusable layers; of class SAFETY
when the new quality is UNAVAILABLE (R51). -/
def State.storeNotice (s : State) (m : Fin 3) (old : StoreQuality) : State :=
  let x := s.store m
  if x.quality = old then s
  else
    s.notifyAs (if x.quality = .unavailable then .safety else .limit) .heatStoreQuality (.store m)
      [.fig m.val, .code old.num, .code x.quality.num, .fig x.energy, .fig x.unusable]

/-- The view of a layer taken afresh from its channel's bound view (R12, R48). -/
def State.layerView (s : State) (l : Layer) : LayerView :=
  { quality := (s.viewOf l.channel .temperature).quality, avg := (s.viewOf l.channel .temperature).avg }

/-- The views of a store after an event of channel `n`: every layer that names the channel takes the event's
quality and average (R49). -/
def Store.withEvent (x : Store) (n : Nat) (v : LayerView) : Store :=
  { x with views := (x.p.layers.zip x.views).map fun lv => if lv.1.channel = n then v else lv.2 }

/-- A value or quality event of channel `n` at one store, taken if the store is present and a layer names the
channel (R46, R49). -/
def State.layerEvent (s : State) (n : Nat) (v : View) (m : Fin 3) : State :=
  let x := s.store m
  if x.p.present && x.p.layers.any (·.channel == n) then
    (s.setStore m ((x.withEvent n { quality := v.quality, avg := v.avg }).recomputed)).storeNotice m x.quality
  else s

/-- A store record that holds no heat: absent, or present after a WARM reset (R46, R57). -/
def Store.emptied (x : Store) : Store :=
  { x with views := x.p.layers.map (fun _ => { quality := .none, avg := 0 }), energy := 0, quality := .unavailable, gen := 0
           absorb := 0 }

/-- The effect of a taken store write (R48). The old quality of a store that was absent is UNAVAILABLE (R46). -/
def State.writeStore (s : State) (m : Fin 3) (p : StoreParams) : State :=
  let x := s.store m
  let x' : Store :=
    if p.present then Store.recomputed { x with p := p, views := p.layers.map s.layerView } else Store.emptied { x with p := p }
  (s.setStore m x').storeNotice m x.quality

/-- What a present store not UNAVAILABLE contributes to the heat available (R54). -/
def Store.heatTerm (x : Store) (net : Int) : Int :=
  if x.p.present && x.quality != .unavailable then
    max 0 (if 0 < net then x.energy - x.p.eFloor else x.p.eCeiling - x.energy)
  else 0

/-- The heat available over the three stores (R54). -/
def State.heatAvailable (s : State) (net : Int) : Int := sumOf (storeNumbers.map fun m => (s.store m).heatTerm net)

/-- The heat needed for an interval (R54). -/
def State.heatNeeded (s : State) (net : Int) : Int :=
  intervalEnergy net s.plant.interval * (if 0 < net then s.plant.genRatio else s.plant.compRatio)

/-- The heat adequacy check at a boundary (R54). -/
def State.heatCheck (s : State) (k : Nat) (net : Int) : State :=
  if net ≠ 0 ∧ s.heatAvailable net < s.heatNeeded net then
    s.notify (if 0 < net then .scheduleHeatShort else .scheduleHeatFull) .none
      [.fig k, .fig (sat32 (intervalEnergy net s.plant.interval)), .fig (sat32 (s.heatAvailable net))
       , .fig (sat32 (s.heatNeeded net))]
  else s

end Sys2Proof.Machine
end

