-- ==== Sys2Proof/Machine/Schedule.lean ====
section
/-!
DEFINITION. The Schedule Unit (chapter 6): the plant clock and its time marks, the fallback entry and the entry
in force, SCHEDULE entries, the boundary event and the ending entry, the trim, and what a plant table write does
to the schedule.
-/

namespace Sys2Proof.Machine

/-- The fallback entry for an interval, formed from the plant table (R103). -/
def State.fallbackEntry (s : State) (j : Nat) : Entry :=
  { interval := j, net := s.plant.fallbackNet, reserve := s.plant.fallbackRes, revision := 0, ramp := false, tag := .fallback }

/-- The stored entry for an interval, if the table holds one (R104). -/
def Schedule.stored (x : Schedule) (j : Nat) : Option Entry := x.table.find? (·.interval == j)

/-- The entry in force for an interval at or after the current one (R103). -/
def State.entryInForce (s : State) (j : Nat) : Entry :=
  if j = s.interval then s.sched.active else (s.sched.stored j).getD (s.fallbackEntry j)

/-- The active entry for interval `j` is set: the stored one, taken out of the table, or the fallback with a
SCHEDULE_GAP notice (R99, R109, R111). -/
def State.activate (s : State) (j : Nat) : State :=
  match s.sched.stored j with
  | some e => { s with sched := { s.sched with active := e, table := s.sched.table.filter (·.interval != j) } }
  | none =>
    State.notify { s with sched := { s.sched with active := s.fallbackEntry j } } .scheduleGap .none
      [.fig j, .fig s.plant.fallbackNet, .fig s.plant.fallbackRes]

/-- A boundary event for interval `k` (R109). The air check comes before the heat check (log 41). -/
def State.takeBoundary (s : State) (k : Nat) : State :=
  let s1 : State := { s with sched := { s.sched with ending := some (s.sched.active, (k * s.plant.interval + s.plant.rampHalf) * 1000) } }
  let s2 := s1.activate k
  let s3 : State := { s2 with sched := { s2.sched with trim := 0 } }
  (s3.airCheck k s3.sched.active.net).heatCheck k s3.sched.active.net

/-- The end of ramp is judged: an ending entry whose end has been reached is discarded (R110). -/
def State.judgeRamp (s : State) : State :=
  match s.sched.ending with
  | none => s
  | some x =>
    if s.clockRuns ∧ x.2 ≤ s.clock.plantMs then { s with sched := { s.sched with ending := none } } else s

/-- The boundaries of `n` intervals from `k` on, in ascending order (R100). -/
def State.takeBoundaries : Nat → Nat → State → State
  | 0, _, s => s
  | n + 1, k, s => State.takeBoundaries n (k + 1) (s.takeBoundary k)

/-- The boundary event of the running plant time, for the interval it has reached; with H of 0 the ending entry is
discarded as the event ends (R109, R110). -/
def State.boundary (s : State) : State := (s.takeBoundary s.interval).judgeRamp

/-! ## Time marks (R99 to R101) -/

/-- A time mark taken while the clock is INVALID (R99): a SCHEDULE_GAP of its step 2 comes before CLOCK_SET (log 48). -/
def State.firstMark (s : State) (ms : Nat) : State :=
  let s1 : State := { s with clock := { state := .valid, plantMs := ms, mark := s.after (s.plant.markTimeout * 1000) } }
  let k := s1.interval
  let s2 := State.activate { s1 with sched := { s1.sched with table := s1.sched.table.filter (fun e => decide (k ≤ e.interval)) } } k
  let s3 : State := { s2 with sched := { s2.sched with ending := none, trim := 0 } }
  s3.notify .clockSet .none [.fig (ms / 1000 : Nat), .fig (ms % 1000 : Nat), .fig k]

/-- A forward or same-interval step of the plant time (R100). -/
def State.stepClock (s : State) (ms : Nat) : State :=
  let old := s.interval
  let s1 : State := { s with clock := { s.clock with plantMs := ms } }
  (State.takeBoundaries (s1.interval - old) (old + 1) s1).judgeRamp

/-- The mark timer restarts, and an UNSYNCED clock becomes VALID (R101): CLOCK_SYNCED, then the end of the cause (log 46). -/
def State.marked (s : State) : State :=
  let s1 : State := { s with clock := { s.clock with mark := s.after (s.plant.markTimeout * 1000) } }
  if s.clock.state = .unsynced then
    (State.notify { s1 with clock := { s1.clock with state := .valid } } .clockSynced .none []).causeClock false
  else s1

/-- A TIME frame taken: the code of its answer and the state after (R99 to R101). -/
def State.timeTaken (s : State) (sec milli : Nat) : Code × State :=
  if 999 < milli then (.range, s)
  else if s.clock.state = .invalid then (.done, s.firstMark (sec * 1000 + milli))
  else if sec * 1000 + milli < s.interval * s.plant.interval * 1000 then (.timeBack, s.marked)
  else (.done, (s.stepClock (sec * 1000 + milli)).marked)

/-- Expiry of the mark timer (R101): the clock becomes UNSYNCED: CLOCK_UNSYNCED, then the hold cause (log 46). -/
def State.markExpired (s : State) : State :=
  let s1 : State := { s with clock := { s.clock with mark := none } }
  if s.clock.state = .valid then
    (State.notify { s1 with clock := { s1.clock with state := .unsynced } } .clockUnsynced .none
      [.fig s1.plantSec, .fig s1.plantMilli]).causeClock true
  else s1

/-! ## SCHEDULE frames (R105 to R108) -/

/-- The largest interval number a stored entry may have: its start is no later than the last second (section 6.3). -/
def State.lastInterval (s : State) : Nat := Config.lastSecond / s.plant.interval

/-- The RANGE check of an entry: for a withdrawal only the interval number and the revision (R105). -/
def State.entryInRange (s : State) (e : RawEntry) : Bool :=
  decide (e.interval ≤ s.lastInterval) && decide (1 ≤ e.revision) &&
    (e.withdraw || (decide (-2000000 ≤ e.net) && decide (e.net ≤ 2000000) && decide (e.reserve ≤ 500000) && (tagOf e.tag).isSome))

/-- The gate of an interval has closed (R106). -/
def State.gateClosed (s : State) (j : Nat) : Bool :=
  decide (j * s.plant.interval * 1000 ≤ s.clock.plantMs + s.plant.gateLead * 1000)

/-- The first failing check of R105, if any. -/
def State.entryRefusal (s : State) (e : RawEntry) : Option Code :=
  if s.clock.state = .invalid then some .noTime
  else if s.entryInRange e = false then some .range
  else if s.gateClosed e.interval then some .tooLate
  else
    match s.sched.stored e.interval with
    | some x => if e.revision ≤ x.revision then some .staleRevision else none
    | none => if e.withdraw = false ∧ Config.scheduleCap ≤ s.sched.table.length then some .full else none

/-- The stored form of an entry that passed its checks (section 6.3). -/
def RawEntry.stored (e : RawEntry) : Entry :=
  { interval := e.interval, net := e.net, reserve := e.reserve, revision := e.revision, ramp := e.ramp
    tag := (tagOf e.tag).getD .dayAhead }

/-- Insertion in ascending interval number, or replacement in place (R104, R107). -/
def insertEntry (e : Entry) : List Entry → List Entry
  | [] => [e]
  | x :: rest =>
    if e.interval < x.interval then e :: x :: rest
    else if e.interval = x.interval then e :: rest
    else x :: insertEntry e rest

/-- One entry of a SCHEDULE frame is taken or refused (R105, R107, R108). -/
def State.takeEntry (s : State) (e : RawEntry) : Code × State :=
  match s.entryRefusal e with
  | some c => (c, s)
  | none =>
    let table := if e.withdraw then s.sched.table.filter (·.interval != e.interval) else insertEntry e.stored s.sched.table
    (.done, { s with sched := { s.sched with table := table } })

/-- The entries of a frame, one after the other, with their answer codes in order (R105). -/
def State.takeEntries : List RawEntry → State → List Code × State
  | [], s => ([], s)
  | e :: rest, s =>
    let r := s.takeEntry e
    let t := State.takeEntries rest r.2
    (r.1 :: t.1, t.2)

/-! ## Trim (R112) -/

/-- The TRIM directive: the code of its answer and the state after. -/
def State.trimTaken (s : State) (v : Int) : Code × State :=
  if s.clock.state = .invalid then (.noTime, s)
  else (.done, { s with sched := { s.sched with trim := clampTo (-100000) 100000 v } })

/-! ## Plant table writes (R102) -/

/-- L has changed: the schedule is cleared and the fallback made active for the current interval (R102). -/
def State.clearSchedule (s : State) : State :=
  let n := s.sched.table.length
  State.notify { s with sched := { table := [], active := s.fallbackEntry s.interval, ending := none, trim := 0 } }
    .scheduleCleared .none [.fig n, .fig s.interval]

/-- The end of ramp of a held ending entry set afresh from the last boundary and judged (R102, R110). -/
def State.rampAfresh (s : State) : State :=
  State.judgeRamp { s with sched := { s.sched with
    ending := s.sched.ending.map fun x => (x.1, (s.interval * s.plant.interval + s.plant.rampHalf) * 1000) } }

/-- A plant table write's effect on the schedule, the new table already in place (R102). -/
def State.scheduleAfterPlant (s : State) (old : PlantTable) : State :=
  if s.clock.state = .invalid then s
  else if old.interval ≠ s.plant.interval then s.clearSchedule
  else s.rampAfresh

end Sys2Proof.Machine
end

