-- ==== Sys2Proof/Machine/Computation.lean ====
section
/-!
DEFINITION. The dispatch computation (chapter 7): scheduled power (S1), reserve response (S2), request (S3),
envelope (S4), target and reserve-short condition (S5), allocation (S6), ramp limiting (S7), issue (S8), the last
computation record and the DISPATCH_RECORD.
-/

namespace Sys2Proof.Machine

/-! ## S1 to S3 -/

/-- The power inside a ramp window of half width `h` ms about the boundary `tb`, at instant `u` (R120). -/
def rampPower (before after : Int) (u tb h : Nat) : Int :=
  before + ((after - before) * ((u : Int) - ((tb : Int) - h))).tdiv (2 * h)

/-- P_sched in a window: interpolated if the entry starting at the boundary has its ramp flag set (R119). -/
def windowPower (ending starting : Entry) (flat : Int) (u tb h : Nat) : Int :=
  if starting.ramp then rampPower ending.net starting.net u tb h else flat

/-- The entry ending at the start of interval `j` (R119, R110). -/
def State.entryEndingAt (s : State) (j : Nat) : Entry :=
  if j = s.interval then (s.sched.ending.map (·.1)).getD s.sched.active else s.entryInForce (j - 1)

/-- S1 at an instant `u` in plant milliseconds (R119, R120). -/
def State.schedAt (s : State) (u : Nat) : Int :=
  let l := s.plant.interval * 1000
  let h := s.plant.rampHalf * 1000
  let j := u / l
  let flat := (s.entryInForce j).net
  if u - j * l < h then windowPower (s.entryEndingAt j) (s.entryInForce j) flat u (j * l) h
  else if (j + 1) * l ≤ u + h then windowPower (s.entryInForce j) (s.entryInForce (j + 1)) flat u ((j + 1) * l) h
  else flat

/-- S2: the reserve response (R121). -/
def reserveResponse (p : DispatchSet) (reserve fDev : Int) : Int :=
  if magnitude fDev ≤ p.deadband then 0
  else
    let d := min (magnitude fDev - p.deadband) (p.fFull - p.deadband)
    let m := (reserve * d).tdiv (p.fFull - p.deadband)
    if fDev < 0 then m else -m

/-! ## S4 (R123, R124) -/

/-- The available maximum of a train (R123). -/
def State.availMax (s : State) (i : Fin 8) : Int :=
  match (s.train i).p.kind.dir with
  | none => 0
  | some d => ((s.train i).p.pMax * min (s.plantFactor d) (s.storeFactor (s.train i) d)).tdiv 1000

/-- A loaded train whose available maximum is below its P_min (R124). -/
def State.starves (s : State) (i : Fin 8) : Bool := decide (s.availMax i < (s.train i).p.pMin)

/-- The STARVED mark of a loaded train is set or cleared, with LIMIT_STARVED when it becomes set (R82, R124). -/
def State.markStarved (s : State) (i : Fin 8) : State :=
  let t := s.train i
  if t.isIn .loaded then
    let s1 := s.setTrain i { t with starved := s.starves i }
    if s.starves i && !t.starved then
      s1.notify .limitStarved (.train i) [.fig i.val, .fig (s.availMax i), .fig t.p.pMin, .code s.mode.mode.num]
    else s1
  else s

/-- The STARVED marks of every slot, with their notices, in ascending slot number (R124, log 42). -/
def State.markAll (s : State) : State := slotNumbers.foldl State.markStarved s

/-- A train taking part in allocation, with its P_min and its available maximum. -/
structure Part where
  slot : Fin 8
  lo   : Int
  hi   : Int
deriving DecidableEq, Repr

/-- A train takes part: LOADED and not starved (R124). -/
def State.takesPart (s : State) (i : Fin 8) : Bool := (s.train i).isIn .loaded && !s.starves i

/-- The trains taking part, in loading order; in a reachable state they are all of one kind (R124). -/
def State.parts (s : State) : List Part :=
  ((s.loadingOrder .expander ++ s.loadingOrder .compressor).filter s.takesPart).map fun i =>
    { slot := i, lo := (s.train i).p.pMin, hi := s.availMax i }

/-- The sum of the minimum loads, and of the available maxima, of the trains taking part (R124). -/
def minSum (ps : List Part) : Int := sumOf (ps.map Part.lo)
def maxSum (ps : List Part) : Int := sumOf (ps.map Part.hi)

/-! ## S5 (R125 to R127) -/

/-- The target before the no-increase condition (R125). -/
def boundedTarget (m : ManifoldState) (ps : List Part) (req : Int) : Int :=
  if ps.isEmpty then 0
  else
    match m with
    | .discharge => clampTo (minSum ps) (maxSum ps) req
    | .charge => -(clampTo (minSum ps) (maxSum ps) (-req))
    | _ => 0

/-- A magnitude limit that keeps the sign (R126). -/
def limited (lim p : Int) : Int := if magnitude p ≤ lim then p else if p < 0 then -lim else lim

/-- The no-increase condition (R126). -/
def State.noIncrease (s : State) : Bool :=
  s.mode.mode == .hold || s.openCaverns.any fun c => (s.cavern c).hold

/-- The plant target (R125, R126). -/
def State.targetFor (s : State) (ps : List Part) (req : Int) : Int :=
  let p := boundedTarget s.manifold.state ps req
  if s.noIncrease then limited (max (magnitude s.disp.target) (minSum ps)) p else p

/-- The envelope of the reserve test, as its two limits (R127). -/
def envelope (m : ManifoldState) (ps : List Part) : Int × Int :=
  if ps.isEmpty then (0, 0)
  else
    match m with
    | .discharge => (minSum ps, maxSum ps)
    | .charge => (-(maxSum ps), -(minSum ps))
    | _ => (0, 0)

/-- The reserve-short condition (R127). -/
def reserveShort (env : Int × Int) (sched reserve : Int) : Bool :=
  decide (0 < reserve) && (decide (sched - reserve < env.1) || decide (env.2 < sched + reserve))

/-- The reserve-short condition is held, with a notice at each change (R127). -/
def State.holdReserve (s : State) (env : Int × Int) (sched reserve : Int) : State :=
  let now := reserveShort env sched reserve
  let s1 : State := { s with disp := { s.disp with resShort := now } }
  if now = s.disp.resShort then s
  else if now then s1.notify .reserveShort .none [.fig s.disp.count.toNat, .fig sched, .fig reserve, .fig env.1, .fig env.2]
  else s1.notify .reserveShortEnd .none []

/-! ## S6 (R128) -/

/-- The share of a train before the residue (R128). -/
def baseShare (m smin span : Int) (p : Part) : Int :=
  if span = 0 then p.lo else p.lo + ((p.hi - p.lo) * (m - smin)).tdiv span

/-- One pass of the residue round the loading order, one kW to each train below its available maximum (R128).
Answers what is left, and the shares. -/
def residuePass : Int → List (Part × Int) → Int × List (Part × Int)
  | r, [] => (r, [])
  | r, (p, x) :: rest =>
    if 0 < r ∧ x < p.hi then
      let t := residuePass (r - 1) rest
      (t.1, (p, x + 1) :: t.2)
    else
      let t := residuePass r rest
      (t.1, (p, x) :: t.2)

/-- Passes until the residue is spent; one pass for each train taking part is enough. -/
def residuePasses : Nat → Int → List (Part × Int) → List (Part × Int)
  | 0, _, xs => xs
  | n + 1, r, xs => residuePasses n (residuePass r xs).1 (residuePass r xs).2

/-- The shares of a magnitude `m` among the trains taking part (R128). -/
def shares (m : Int) (ps : List Part) : List (Part × Int) :=
  let smin := minSum ps
  let base := ps.map fun p => (p, baseShare m smin (maxSum ps - smin) p)
  residuePasses ps.length (m - sumOf (base.map (·.2))) base

/-! ## S7 (R130) -/

/-- Δt in milliseconds, at most 10,000 (R130). -/
def State.sinceLast (s : State) : Nat :=
  match s.disp.fresh, s.grid.lastComp with
  | false, some t => min 10000 (s.now - t)
  | _, _ => 0

/-- The step of a train (R130). -/
def rampStep (ramp : Int) (dt : Nat) : Int := max 1 ((ramp * dt).tdiv 1000)

/-- The track moved toward a share by at most a step (R130). -/
def ramped (track share step : Int) : Int :=
  if magnitude (share - track) ≤ step then share else if track < share then track + step else track - step

/-- The ramped value of a train taking part (R130). -/
def State.rampedValue (s : State) (dt : Nat) (x : Part × Int) : Fin 8 × Int :=
  (x.1.slot, ramped (s.disp.tracks.get x.1.slot) x.2 (rampStep (s.train x.1.slot).p.ramp dt))

/-! ## S8 (R131, R132) -/

/-- What S8 has done so far: the SETPOINTs not placed and the first slot refused. -/
structure Issue where
  state : State
  count : Nat
  first : Option (Fin 8)
deriving DecidableEq, Repr

/-- S8 for one train: the track is set, and a SETPOINT placed where the change reaches the quantum (R129, R131, R132). -/
def Issue.one (x : Issue) (v : Fin 8 × Int) : Issue :=
  let s := x.state.setTrack v.1 v.2
  if magnitude (v.2 - (s.train v.1).setpoint) < s.disp.active.quantum then { x with state := s }
  else if s.orderRoom then { x with state := (s.place (s.train v.1).p.node .setpoint v.2).recordSetpoint v.1 v.2 }
  else { state := s, count := x.count + 1, first := x.first.orElse fun _ => some v.1 }

/-- The SETPOINTs of S8, in loading order. -/
def State.issueAll (s : State) (vs : List (Fin 8 × Int)) : Issue := vs.foldl Issue.one { state := s, count := 0, first := none }

/-- The UNLOAD that R82 requires of a starved train. -/
def State.unloadStarved (s : State) (i : Fin 8) : State :=
  if (s.train i).isIn .loaded && (s.train i).starved then s.originate i .unload else s

/-- The UNLOADs of S8, in loading order (R82, R131). -/
def State.unloadAll (s : State) : State :=
  (s.loadingOrder .expander ++ s.loadingOrder .compressor).foldl State.unloadStarved s

/-- The one QUEUE_FULL of a computation whose SETPOINTs were not all placed (R132). -/
def State.setpointsUnplaced (s : State) (first : Option (Fin 8)) (count : Nat) : State :=
  match first with
  | none => s
  | some i => s.notify .queueFull (.train i) [.fig s.disp.count.toNat, .fig i.val, .code Order.setpoint.num, .fig count]

/-! ## The record (R133, R134) -/

/-- What the record holds of a slot; none for an absent slot (R133). The setpoint of a starved train is its P_min
(R124). -/
def State.slotRecord (s : State) (ps : List Part) (tracks : Bool) (i : Fin 8) : Option SlotRecord :=
  let t := s.train i
  if t.present then
    some { kind := t.p.kind, state := t.state
           setpoint := if t.isIn .loaded && t.starved then t.p.pMin else t.setpoint
           avail := if t.isIn .loaded then some (s.availMax i) else none
           starved := t.starved, part := ps.any (·.slot == i)
           track := if tracks then some (s.disp.tracks.get i) else none }
  else none

/-- The slot records of all eight slots. -/
def State.slotRecords (s : State) (ps : List Part) (tracks : Bool) : List (Option SlotRecord) :=
  slotNumbers.map (s.slotRecord ps tracks)

/-- The items of one slot. -/
def SlotRecord.items (x : SlotRecord) : List Item :=
  [.code x.kind.num, .code x.state.num, .fig x.setpoint, figItem x.avail, flagItem x.starved, flagItem x.part, figItem x.track]

/-- The items of the last computation record, in the order of R133; absent fields are left out. -/
def CompRecord.items (r : CompRecord) : List Item :=
  [.fig r.count.toNat, .fig (r.plantMs / 1000 : Nat), .fig (r.plantMs % 1000 : Nat), .code r.clock.num, .code r.trigger.num
   , .fig r.fDev, .code r.mode.num, .code r.manifold.num, .fig r.interval, flagItem r.isFallback, .fig r.reserve, .fig r.sched
   , .fig r.fcr, .fig r.trim, .fig r.req, .fig r.envMax, .fig r.envMin, .fig r.target, .fig r.shortfall, flagItem r.noIncrease
   , flagItem r.resShort, .fig r.gen, .fig r.absorb, figItem r.deficit, figItem (r.unplaced.map Int.ofNat)]
    ++ r.slots.flatMap fun x => match x with | none => [] | some y => y.items

/-- The record period count and the DISPATCH_RECORD (R134). -/
def State.periodStep (s : State) (r : CompRecord) : State :=
  let n := min 255 (s.disp.period + 1)
  if s.plant.recordPeriod ≤ n then State.offerRecord { s with disp := { s.disp with period := 0 } } r.items
  else { s with disp := { s.disp with period := n } }

/-- The record replaces the last one; its target is the previous target of the next computation (R126, R133). -/
def State.keepRecord (s : State) (r : CompRecord) : State :=
  State.periodStep { s with disp := { s.disp with last := some r, target := r.target, fresh := false } } r

/-- The start of a performed computation: instant, count and adoption (R116, steps 1 to 3). -/
def State.beginComputation (s : State) : State :=
  let s1 : State := { s with grid := { s.grid with lastComp := some s.now }, disp := { s.disp with count := s.disp.count + 1 } }
  if s1.disp.swap then s1.adoptSet s1.disp.count else s1

/-- A performed computation (R116). -/
def State.compute (s : State) (kind : TriggerKind) (fDev : Int) : State :=
  let dt := s.sinceLast
  let s1 := s.beginComputation
  let sched := s1.schedAt s1.clock.plantMs
  let reserve := s1.sched.active.reserve
  let fcr := reserveResponse s1.disp.active reserve fDev
  let req := sat32 (sched + fcr + s1.sched.trim)
  let s2 := s1.markAll
  let ps := s2.parts
  let target := s2.targetFor ps req
  let s3 := s2.holdReserve (envelope s2.manifold.state ps) sched reserve
  let base : CompRecord :=
    { count := s3.disp.count, plantMs := s3.clock.plantMs, clock := s3.clock.state, trigger := kind, fDev := fDev, mode := s3.mode.mode
      manifold := s3.manifold.state, interval := s3.interval, isFallback := s3.sched.active.tag == .fallback, reserve := reserve
      sched := sched, fcr := fcr, trim := s3.sched.trim, req := req, envMax := maxSum ps, envMin := minSum ps, target := target
      shortfall := sat32 (req - target), noIncrease := s3.noIncrease, resShort := s3.disp.resShort
      gen := s3.plantFactor .discharge, absorb := s3.plantFactor .charge, deficit := none, unplaced := none
      slots := s3.slotRecords ps false }
  if s3.mode.mode.dispatches then
    let vs := (shares (magnitude target) ps).map (s3.rampedValue dt)
    let x := s3.issueAll vs
    let r : CompRecord :=
      { base with deficit := some (sat32 (magnitude target - sumOf (vs.map (·.2)))), unplaced := some x.count
                  slots := x.state.slotRecords ps true }
    ((x.state.unloadAll).setpointsUnplaced x.first x.count).keepRecord r
  else s3.keepRecord base

/-- Whether a trigger is performed (R116). -/
def State.performs (s : State) : Bool := s.mode.mode != .off && s.clockRuns

end Sys2Proof.Machine
end

