-- ==== Sys2Proof/Machine/Commitment.lean ====
section
/-!
DEFINITION. Commitment (section 8.2): demand, reversal, start, load, stop and idle steps, each over the records as
the earlier steps of the run have left them; and the computation trigger as a whole (R116, R143).
-/

namespace Sys2Proof.Machine

/-- The states that count for C, and for C_flow (R144). -/
def TrainState.committed : TrainState → Bool
  | .startWait => true
  | .starting => true
  | .idleRun => true
  | .loading => true
  | .loaded => true
  | _ => false
def TrainState.carrying : TrainState → Bool
  | .loading => true
  | .loaded => true
  | _ => false

/-- The sum of P_max over the present trains of a kind whose state passes a test (R144). -/
def State.capacity (s : State) (k : TrainKind) (f : TrainState → Bool) : Int :=
  sumOf (((slotNumbers.filter fun i => (s.train i).present && (s.train i).p.kind == k && f (s.train i).state)).map
    fun i => (s.train i).p.pMax)

/-- The desired direction (R144). -/
def desiredOf (threshold commit : Int) : Option Direction :=
  if threshold < commit then some .discharge else if commit < -threshold then some .charge else none

/-- The look-ahead instant: t plus the start lead, held at the last millisecond of plant time (R120). -/
def State.lookAhead (s : State) : Nat := min (s.clock.plantMs + s.disp.active.startLead * 1000) Config.lastPlantMs

/-- The demand step (R144). -/
def State.demandStep (s : State) (req : Int) : Demand :=
  let ahead := s.schedAt s.lookAhead
  let commit := if magnitude req < magnitude ahead then ahead else req
  let desired := desiredOf s.disp.active.dirThreshold commit
  { ahead := ahead, commit := commit
    demand := magnitude commit + if s.disp.resShort then s.sched.active.reserve else 0
    desired := desired
    c := match desired with | none => 0 | some d => s.capacity d.kind TrainState.committed
    cFlow := match desired with | none => 0 | some d => s.capacity d.kind TrainState.carrying }

/-- The demand exceeds a capacity times start_pm / 1000 (R146, R147, R149). -/
def State.exceeds (s : State) (demand capacity : Int) : Bool :=
  decide ((capacity * s.disp.active.startPm).tdiv 1000 < demand)

/-- An UNLOAD to a train that is LOADED. -/
def State.unloadLoaded (s : State) (i : Fin 8) : State := if (s.train i).isIn .loaded then s.originate i .unload else s

/-- The reversal step (R145). -/
def State.reversalStep (s : State) (f : Demand) : State :=
  match s.manifold.state.flow with
  | none => s
  | some d => if f.desired = some d then s else (s.loadingOrder d.kind).foldl State.unloadLoaded s

/-- Some present train of a kind is in START_WAIT or STARTING (R146). -/
def State.kindStarting (s : State) (k : TrainKind) : Bool :=
  slotNumbers.any fun i => (s.train i).p.kind == k && ((s.train i).isIn .startWait || (s.train i).isIn .starting)

/-- The train the start step orders: the first in loading order that is in STANDBY and AVAILABLE (R146). -/
def State.startCandidate (s : State) (k : TrainKind) : Option (Fin 8) :=
  (s.loadingOrder k).find? fun i => (s.train i).isIn .standby && (s.train i).available

/-- The start step (R146). -/
def State.startStep (s : State) (f : Demand) : State :=
  match f.desired with
  | none => s
  | some d =>
    if s.exceeds f.demand f.c && !s.kindStarting d.kind then
      match s.startCandidate d.kind with
      | none => s
      | some i => s.originateStart i
    else s

/-- The load step for one train: the state and C_flow after it (R147). -/
def State.loadOne (demand : Int) (x : State × Int) (i : Fin 8) : State × Int :=
  if (x.1.train i).isIn .idleRun && x.1.exceeds demand x.2 then
    let s := x.1.originate i .load
    (s, if (s.train i).isIn .loading then x.2 + (s.train i).p.pMax else x.2)
  else x

/-- The load step: the state and C_flow after it (R147). -/
def State.loadStep (s : State) (f : Demand) : State × Int :=
  match f.desired with
  | none => (s, f.cFlow)
  | some d =>
    if s.manifold.loadCheck d.kind = none then (s.loadingOrder d.kind).foldl (State.loadOne f.demand) (s, f.cFlow)
    else (s, f.cFlow)

/-- The stop step's candidate, where its condition holds (R148). -/
def State.stopCandidate (s : State) (f : Demand) : Option (Fin 8) :=
  match f.desired with
  | none => none
  | some d =>
    if s.manifold.state.flow = some d then
      match ((s.loadingOrder d.kind).filter fun i => (s.train i).isIn .loaded).getLast? with
      | none => none
      | some i =>
        if f.demand < ((f.c - (s.train i).p.pMax) * s.disp.active.stopPm).tdiv 1000 then some i else none
    else none

/-- The start instant of a candidate: the one held, or the present instant for a new candidate (R148). -/
def State.stopSince (s : State) (i : Fin 8) : Nat :=
  match s.commit.stop with
  | none => s.now
  | some x => if x.1 = i then x.2 else s.now

/-- The stop step (R148, R150). -/
def State.stopStep (s : State) (f : Demand) : State :=
  if s.grid.seen then s.clearStop
  else
    match s.stopCandidate f with
    | none => s.clearStop
    | some i =>
      let since := s.stopSince i
      let s1 : State := { s with commit := { s.commit with stop := some (i, since) } }
      if since + s.disp.active.stopDelay * 1000 ≤ s.now then
        let s2 := s1.originate i .unload
        if (s2.train i).isIn .loaded then s2 else s2.clearStop
      else s1

/-- A train in IDLE_RUN has need (R149). -/
def State.hasNeed (s : State) (f : Demand) (cFlow : Int) (i : Fin 8) : Bool :=
  match f.desired with
  | none => false
  | some d => (s.train i).p.kind == d.kind && s.exceeds f.demand cFlow

/-- The idle step for one train (R149). -/
def State.idleOne (f : Demand) (cFlow : Int) (s : State) (i : Fin 8) : State :=
  if (s.train i).isIn .idleRun && !s.hasNeed f cFlow i
      && decide ((s.train i).entry + s.disp.active.idleLimit * 1000 ≤ s.now) then
    s.originate i .stop
  else s

/-- The idle step, in slot order (R149, R150). -/
def State.idleStep (s : State) (f : Demand) (cFlow : Int) : State :=
  if s.grid.seen then s else slotNumbers.foldl (State.idleOne f cFlow) s

/-- One run of commitment on a computation's P_req (R143). -/
def State.commitmentRun (s : State) (req : Int) : State :=
  if s.someUnknown then s.clearStop
  else
    let f := s.demandStep req
    let s1 : State := { s with commit := { s.commit with figures := some f } }
    let x := ((s1.reversalStep f).startStep f).loadStep f
    (x.1.stopStep f).idleStep f x.2

/-- P_req of the last computation record. -/
def State.lastRequest (s : State) : Int :=
  match s.disp.last with
  | none => 0
  | some r => r.req

/-- A computation trigger (R116, R143): not performed in OFF or without a clock; commitment follows in AUTO. -/
def State.trigger (s : State) (kind : TriggerKind) (fDev : Int) : State :=
  if s.performs then
    let s1 := s.compute kind fDev
    if s1.mode.mode = .auto then s1.commitmentRun s1.lastRequest else s1
  else s

end Sys2Proof.Machine
end

