-- ==== Sys2Proof/Machine/Channels.lean ====
section
/-!
DEFINITION. The Channel Conditioner (chapter 1): readings, delivery of value and quality events to the consumers
(in the order of log 12: caverns, stores, grid), the grid meter supervision, freshness expiry and channel writes.
-/

namespace Sys2Proof.Machine

/-! ## Grid meter supervision (R15 to R19) -/

/-- The deviation flags are evaluated (R18, R19). -/
def State.evalDev (s : State) : State :=
  let f := s.evalDeviation
  let now := decide (s.plant.alarm < magnitude f)
  if now = s.grid.dev then s
  else
    let s1 : State := { s with grid := { s.grid with dev := now, seen := s.grid.seen || now } }
    s1.notify (if now then .gridDeviation else .gridDeviationEnd) .none [.fig f]

/-- The supervision enters FALLBACK; already there, its timer runs on (R16). -/
def State.enterFallback (s : State) : State :=
  if s.grid.tracking then { s with grid := { s.grid with tracking := false, timer := s.after s.plant.fallbackPeriod } } else s

/-- The supervision enters TRACKING on a triggering reading (R15). -/
def State.enterTracking (s : State) : State :=
  let s1 : State := { s with grid := { s.grid with tracking := true, timer := none } }
  if s.grid.tracking then s1 else s1.notify .gridMeterRestored .none []

/-- A reading is far enough from the last computation performed (R15). -/
def State.spaced (s : State) (instant : Nat) : Bool :=
  match s.grid.lastComp with
  | none => true
  | some t => decide (t + s.plant.spacing ≤ instant)

/-- A quality that makes an accepted reading a triggering one (R15). -/
def Quality.triggers : Quality → Bool
  | .settling => true
  | .good => true
  | .outOfRange => true
  | _ => false

/-- A value event of the bound grid channel: the flags first, then the trigger (R15, R18). GRID_METER_RESTORED comes after
the notice of the flags and before the computation the reading triggers (log 39). -/
def State.gridValue (s : State) (v : View) (instant : Nat) : State :=
  let s1 := s.evalDev
  if v.quality.triggers && s1.spaced instant then s1.enterTracking.trigger .reading (s1.deviation v) else s1

/-- Expiry of the fallback timer (R16). -/
def State.fallbackExpired (s : State) : State :=
  State.trigger { s with grid := { s.grid with timer := s.after s.plant.fallbackPeriod } } .fallback s.fallbackDeviation

/-! ## Delivery (R12 to R14) -/

/-- A present cavern names a channel (R12). -/
def Cavern.names (x : Cavern) (n : Nat) : Bool := x.p.present && x.p.channel == some n

/-- The value event of a reading at every bound consumer (R13). -/
def State.deliverValue (s : State) (n instant : Nat) : State :=
  let s1 :=
    if s.boundTo n .pressure then
      cavernNumbers.foldl (fun s c => if (s.cavern c).names n then s.cavernValue c (s.viewOf n .pressure) instant else s) s
    else s
  let s2 :=
    if s1.boundTo n .temperature then storeNumbers.foldl (fun s m => s.layerEvent n (s.viewOf n .temperature) m) s1 else s1
  if s2.gridBound = some n then s2.gridValue (s2.viewOf n .frequency) instant else s2

/-- The quality event of a channel at every cavern and store that names it, with its bound view (R14). -/
def State.deliverQuality (s : State) (n : Nat) : State :=
  let s1 := cavernNumbers.foldl (fun s c => if (s.cavern c).names n then s.cavernQuality c (s.viewOf n .pressure) else s) s
  storeNumbers.foldl (fun s m => s.layerEvent n (s.viewOf n .temperature) m) s1

/-- The grid consumer's answer to its channel going STALE (R16, R17, R18): GRID_METER_STALE comes before the
GRID_DEVIATION_END of the same expiry (log 39). -/
def State.gridStale (s : State) (n : Nat) (last : Option Nat) : State :=
  if s.gridBound = some n then
    ((s.notify .gridMeterStale .none [.fig n, figItem (last.map Int.ofNat)]).enterFallback).evalDev
  else s

/-- The grid consumer's answer to a write of the channel it names (R16, R18). -/
def State.gridRewritten (s : State) (n : Nat) : State :=
  if s.plant.gridChannel = some n then s.enterFallback.evalDev else s

/-! ## Readings (R4 to R11) -/

/-- The present channel whose key is (source node, slot), if the tap map holds the key (R1, R4). -/
def State.tapMap (s : State) (node slot : Nat) : Option (Fin 96) :=
  (List.finRange 96).find? fun c => (s.chan c).present && (s.chan c).p.source == node && (s.chan c).p.slot == slot

/-- The raw value that marks a reading invalid (R5). -/
def invalidRaw : Int := -8388608

/-- One reading of a tapped frame (R4, R5). -/
def State.takeReading (node : Nat) (s : State) (r : Reading) : State :=
  match s.tapMap node r.slot with
  | none => s
  | some c =>
    if r.raw = invalidRaw then s.setChan c { s.chan c with invalid := (s.chan c).invalid + 1 }
    else (s.setChan c ((s.chan c).accept r.raw s.now)).deliverValue c.val s.now

/-- A tapped SAMPLE frame (R4); a malformed one gives no reading (R182). -/
def State.tapSample (s : State) (f : Frame) : State :=
  match sampleBody f.body with
  | none => s
  | some rs => rs.foldl (State.takeReading f.src.toNat) s

/-! ## Freshness (R10, R14) -/

/-- Expiry of a channel's freshness timer (R10, R14). -/
def State.freshnessExpired (s : State) (c : Fin 96) : State :=
  let x := s.chan c
  if x.quality.triggers then
    let s1 := s.setChan c { x with timer := none, quality := .stale }
    if x.p.substFlag || !x.present then s1 else (s1.deliverQuality c.val).gridStale c.val x.last
  else s.setChan c { x with timer := none }

/-! ## Channel writes (R2, R3) -/

/-- The key of an entry is held by another present channel (R1, R2). -/
def State.keyTaken (s : State) (c : Fin 96) (p : ChanParams) : Bool :=
  (List.finRange 96).any fun d =>
    d != c && (s.chan d).present && (s.chan d).p.source == p.source && (s.chan d).p.slot == p.slot

/-- The effect of a taken channel write (R3, R14). -/
def State.writeChannel (s : State) (c : Fin 96) (p : ChanParams) : State :=
  ((s.setChan c (clearedChannel p s.now)).deliverQuality c.val).gridRewritten c.val

end Sys2Proof.Machine
end

