-- ==== Sys2Proof/Machine/Resets.lean ====
section
/-!
DEFINITION. The resets (R166, R173 to R175 and each chapter's table of state after reset): POWER_ON, PIN with its
release, COLD and WARM. The time base starts again at 0 at the end of each (R4, log 6).
-/

namespace Sys2Proof.Machine

/-- The reset-kind record as the STARTED notice and the QUERY of PLANT carry it. -/
def ResetRecord.items (r : ResetRecord) : List Item :=
  match r.by' with
  | none => [.code r.kind.num, .none, .none]
  | some x => [.code r.kind.num, .fig x.1.toNat, .fig x.2.toNat]

/-- The STARTED notice at the end of a reset (R175); a PASSIVE part sends none (R165). -/
def State.started (s : State) : State :=
  s.notify .started .none
    (s.mgr.resetBy.items ++ [.fig s.node.toNat] ++ s.mode.items ++ [.code s.clock.state.num, .code s.mgr.check.num])

/-- A POWER_ON reset: the straps are read and every block is unconfigured (R166). -/
def State.powerOn (s : State) (straps : Byte) : State :=
  State.started { State.unconfigured straps .powerOn none with pending := s.pending }

/-- Assertion of the reset pin: the straps are read, every block takes its PIN reset state, and the part is held
until the release (R166, log 5). -/
def State.pinAsserted (s : State) (straps : Byte) : State :=
  { State.unconfigured straps .pin none with pending := s.pending, held := true }

/-- Release of the reset pin: the reset ends, and STARTED is sent (R175). -/
def State.pinReleased (s : State) : State := if s.held then State.started { s with held := false, now := 0 } else s

/-- A COLD reset keeps the node number and the own sequence counter alone (R166, R173). -/
def State.cold (s : State) (src : Byte) (seq : SeqNo) : State :=
  let u := State.unconfigured s.node .cold (some (src, seq))
  State.started { u with pending := s.pending, ring := { u.ring with seqNo := s.ring.seqNo } }

/-- A channel after a WARM reset: a present one is cleared in the manner of R3 (R22). An absent one is left as it stands, its
freshness timer with its deadline included (log 51). -/
def Channel.warm (c : Channel) : Channel := if c.present then clearedChannel c.p 0 else c

/-- A cavern after a WARM reset: its factors and RATE_HOLD are read from its bound view (R45). -/
def Cavern.warm (c : Cavern) (v : View) : Cavern :=
  let x : Cavern := { c with valve := .unknown, timer := none, rates := [], rate := 0, rateValid := false, hold := false
                             gen := 0, absorb := 0 }
  if c.p.present then
    let y := x.withView v
    { y with hold := y.holdAfter v.quality .idle }
  else x

/-- A train slot after a WARM reset (R86). -/
def Train.warm (t : Train) : Train :=
  if t.present then
    { t with state := .unknown, entry := 0, timer := none, setpoint := 0, starved := false, tripClear := false
             preState := none, preSetpoint := 0, lastReport := none }
  else t

/-- The dispatch mode after a WARM reset, from the causes set anew (R142). -/
def State.warmMode (s : State) : ModeRecord :=
  let m : ModeRecord := { s.mode with ringOpen := false, unsynced := s.clock.state == .unsynced }
  { m with mode := if s.mode.mode.dispatches then (if m.clear then .auto else .hold) else s.mode.mode }

/-- Whether a WARM reset adopts the pending set: it leaves the mode OFF with the swap mark set (R137, R142). -/
def State.warmAdopts (s : State) : Bool := s.mode.mode == .off && s.disp.swap

/-- Every field of the part after a WARM reset, before its notices (R22, R45, R57, R86, R97, R115, R137, R142, R166,
R174). -/
def State.warmed (s : State) (src : Byte) (seq : SeqNo) : State :=
  let u := State.unconfigured s.node .warm (some (src, seq))
  let s1 : State := { s with now := 0, chans := s.chans.map Channel.warm }
  { u with
    pending := s.pending
    ring := { u.ring with seqNo := s.ring.seqNo }
    chans := s1.chans
    grid := { u.grid with timer := some s.plant.fallbackPeriod, seen := s.grid.seen }
    caverns := Vector.ofFn fun c => (s.cavern c).warm (s1.pressure c)
    stores := s.stores.map Store.emptied
    trains := s.trains.map Train.warm
    clock := { s.clock with mark := if s.clock.state = .valid then some (s.plant.markTimeout * 1000) else none }
    sched := { s.sched with trim := 0 }
    disp := { u.disp with active := s.disp.active, next := s.disp.next, swap := s.disp.swap }
    mode := s.warmMode
    plant := s.plant
    mgr := { s.mgr with periodTimer := some 2000, quiet := some 10000, resetBy := u.mgr.resetBy, work := none } }

/-- A WARM reset (R173). The DISPATCH_SET_ADOPTED notice of an adoption follows the STARTED notice (R137). -/
def State.warm (s : State) (src : Byte) (seq : SeqNo) : State :=
  let s1 := (s.warmed src seq).started
  if s.warmAdopts then s1.adoptSet 0 else s1

/-- The reset of a RESET directive by its reset kind code: COLD 2, WARM 3; none for any other value (R173). -/
def State.resetTaken (s : State) (code : Nat) (src : Byte) (seq : SeqNo) : Option State :=
  match code with
  | 2 => some (s.cold src seq)
  | 3 => some (s.warm src seq)
  | _ => none

end Sys2Proof.Machine
end

