-- ==== Sys2Proof/Machine/Tables.lean ====
section
/-!
DEFINITION. The Table Manager's tables (chapter 10.1): the checks and the effect of one entry of each table
(R2, R23, R24, R47, R59, R60, R168, R169), and the entries of a TABLE frame taken in order (R167).
-/

namespace Sys2Proof.Machine

/-! ## Plant table (R168) -/

/-- A node field that equals the part's own node number, which is out of range (R168). -/
def State.ownNode (s : State) (n : Nat) : Bool := n == s.node.toNat

/-- Suppression evaluated at a plant table write (R178). -/
def State.suppressionAfresh (s : State) : State :=
  let n := s.rep.queue.length
  let b := if s.plant.fullMark ≤ n then true else if n ≤ s.plant.almostEmpty then false else s.rep.suppressed
  { s with rep := { s.rep with suppressed := b } }

/-- The grid meter's answer to a plant table write: FALLBACK when the binding ends, and the deviation flags where the
binding, f_nom or the alarm threshold changed (R16, R18, log 24). -/
def State.gridAfterPlant (s : State) (bound : Option Nat) (old : PlantTable) : State :=
  let s1 := if bound.isSome ∧ s.gridBound.isNone then s.enterFallback else s
  if bound ≠ s.gridBound ∨ old.fNom ≠ s.plant.fNom ∨ old.alarm ≠ s.plant.alarm then s1.evalDev else s1

/-- The converter's answer to a plant table write: node 0 ends a FAULT (R87). -/
def State.converterAfterPlant (s : State) : State := if s.plant.convNode = 0 then s.converterAvailable else s

/-- The effect of a taken plant table entry (R168). -/
def State.writePlant (s : State) (p : PlantTable) : State :=
  let s1 := State.suppressionAfresh { s with plant := p }
  ((s1.gridAfterPlant s.gridBound s.plant).scheduleAfterPlant s.plant).converterAfterPlant

/-- The plant table entry's conditions: OFF with the manifold IDLE (R168). -/
def State.plantOpen (s : State) : Bool := s.mode.mode == .off && s.manifold.state == .idle

/-- A plant table entry (R168). -/
def State.plantEntry (s : State) (ws : List Word) : Code × State :=
  if s.plantOpen = false then (.state, s)
  else
    match plantParams ws with
    | none => (.range, s)
    | some p =>
      if s.ownNode p.master || s.ownNode p.gridNode || s.ownNode p.convNode then (.range, s) else (.done, s.writePlant p)

/-! ## Dispatch set and check word (R118, R169) -/

/-- A DISPATCH entry replaces the pending copy (R169). -/
def State.dispatchEntry (s : State) (ws : List Word) : Code × State :=
  match dispatchParams ws with
  | none => (.range, s)
  | some p => (.done, { s with disp := { s.disp with next := p } })

/-- A CHECK entry replaces the check word (R169). -/
def State.checkEntry (s : State) (ws : List Word) : Code × State :=
  match ws with
  | [w] => (.done, { s with mgr := { s.mgr with checkWord := w } })
  | _ => (.range, s)

/-! ## Channels (R2, R3) -/

/-- A channel entry (R2). -/
def State.channelEntry (s : State) (c : Fin 96) (ws : List Word) : Code × State :=
  match chanParams ws with
  | none => (.range, s)
  | some p =>
    if s.ownNode p.source && p.source != 0 then (.range, s)
    else if p.source != 0 && s.keyTaken c p then (.duplicate, s)
    else (.done, s.writeChannel c p)

/-! ## Caverns (R23, R24) -/

/-- The valve node is that of another present cavern (R23). -/
def State.valveNodeTaken (s : State) (c : Fin 4) (node : Nat) : Bool :=
  cavernNumbers.any fun d => d != c && (s.cavern d).p.present && (s.cavern d).p.node == node

/-- The runtime state of a cavern after a write, before its bound view is read (R24). -/
def Cavern.written (x : Cavern) (p : CavernParams) : Cavern :=
  { p := p, valve := if x.p.present && p.present && x.p.node == p.node then x.valve else .unknown, timer := none
    mark := if x.p.present && p.present then x.mark else .none, rates := [], rate := 0, rateValid := false
    hold := if p.present then x.hold else false
    gen := if p.present then x.gen else 0, absorb := if p.present then x.absorb else 0 }

/-- The effect of a taken cavern write (R24); a valve that has become UNKNOWN is evaluated for reopening (R36). -/
def State.writeCavern (s : State) (c : Fin 4) (p : CavernParams) : State :=
  let old := s.cavern c
  let s1 := s.setCavern c (old.written p)
  if p.present then
    let s2 := (s1.setCavern c ((s1.cavern c).withView (s1.pressure c))).evalHold c
    if old.valve = .unknown then s2 else if (s2.cavern c).valve = .unknown then s2.reopen c else s2
  else s1

/-- A cavern entry (R23). -/
def State.cavernEntry (s : State) (c : Fin 4) (ws : List Word) : Code × State :=
  if (s.cavern c).p.present && (s.cavern c).valve != .closed then (.state, s)
  else
    match cavernParams ws with
    | none => (.range, s)
    | some p =>
      if s.ownNode p.node then (.range, s)
      else if p.present && s.valveNodeTaken c p.node then (.duplicate, s)
      else (.done, s.writeCavern c p)

/-! ## Stores (R47, R48) -/

/-- A channel number named in two layers (R47). -/
def channelTwice : List Layer → Bool
  | [] => false
  | l :: rest => rest.any (·.channel == l.channel) || channelTwice rest

/-- A store entry (R47). -/
def State.storeEntry (s : State) (m : Fin 3) (ws : List Word) : Code × State :=
  if !(s.assignedFlowing m).isEmpty then (.state, s)
  else
    match storeParams ws with
    | none => (.range, s)
    | some p => if channelTwice p.layers then (.duplicate, s) else (.done, s.writeStore m p)

/-! ## Trains (R59, R60) -/

/-- The loading position or the controller node is that of another present slot (R59). -/
def State.slotTaken (s : State) (i : Fin 8) (p : TrainParams) : Bool :=
  slotNumbers.any fun j =>
    j != i && (s.train j).present &&
      (((s.train j).p.kind == p.kind && (s.train j).p.position == p.position) || (s.train j).p.node == p.node)

/-- A slot that becomes present: OFFLINE from the instant of the write, AVAILABLE, everything else blank; the trip
capture stack and the overrun flag stay (R60). -/
def Train.entered (t : Train) (p : TrainParams) (now : Nat) : Train :=
  { Train.zeroed with p := p, entry := now, stack := t.stack, overrun := t.overrun }

/-- A slot that is absent after a write: only its fields, its trip capture stack and its overrun flag remain (R60). -/
def Train.dropped (t : Train) (p : TrainParams) : Train :=
  { Train.zeroed with p := p, stack := t.stack, overrun := t.overrun }

/-- The effect of a taken train write (R60). -/
def State.writeTrain (s : State) (i : Fin 8) (p : TrainParams) : State :=
  let t := s.train i
  if p.kind = .absent then
    let s1 := s.setTrain i (t.dropped p)
    if t.present then s1.trainNotice i (.code TrainState.offline.num) .none .write else s1
  else if t.present then s.setTrain i { t with p := p }
  else (s.setTrain i (t.entered p s.now)).trainNotice i .none (.code TrainState.offline.num) .write

/-- A train entry (R59). -/
def State.trainEntry (s : State) (i : Fin 8) (ws : List Word) : Code × State :=
  if (s.train i).present && (s.train i).state != .offline then (.state, s)
  else
    match trainParams ws with
    | none => (.range, s)
    | some p =>
      if s.ownNode p.node then (.range, s)
      else if p.kind != .absent && s.slotTaken i p then (.duplicate, s)
      else (.done, s.writeTrain i p)

/-! ## TABLE frames (R167) -/

/-- One entry of a table at an index; an index beyond the end of the table is refused RANGE (R167). -/
def State.entryAt (s : State) (t : TableId) (index : Nat) (ws : List Word) : Code × State :=
  match t with
  | .plant => if index = 0 then s.plantEntry ws else (.range, s)
  | .dispatch => if index = 0 then s.dispatchEntry ws else (.range, s)
  | .channel => if h : index < 96 then s.channelEntry ⟨index, h⟩ ws else (.range, s)
  | .cavern => if h : index < 4 then s.cavernEntry ⟨index, h⟩ ws else (.range, s)
  | .store => if h : index < 3 then s.storeEntry ⟨index, h⟩ ws else (.range, s)
  | .train => if h : index < 8 then s.trainEntry ⟨index, h⟩ ws else (.range, s)
  | .check => if index = 0 then s.checkEntry ws else (.range, s)

/-- One entry, and the edit-quiet timer restarted where it was taken (R167). -/
def State.takeTableEntry (s : State) (t : TableId) (index : Nat) (ws : List Word) : Code × State :=
  let r := s.entryAt t index ws
  if r.1 = .done then (r.1, r.2.editQuiet) else r

/-- Up to `n` entries from an index on: their codes, the entries left, and the state after (R167). -/
def State.takeTable (t : TableId) : Nat → Nat → List (List Word) → State → List Code × List (List Word) × State
  | 0, _, ws, s => ([], ws, s)
  | _ + 1, _, [], s => ([], [], s)
  | n + 1, index, w :: ws, s =>
    let r := s.takeTableEntry t index w
    let x := State.takeTable t n (index + 1) ws r.2
    (r.1 :: x.1, x.2.1, x.2.2)

/-- The frame a held TABLE frame is answered as. -/
def State.workFrame (s : State) (snd : Sender) : Frame :=
  { dest := s.node, src := snd.src, kind := kTable, flags := snd.flags, seq := snd.seq, body := [] }

/-- `n` entries of a TABLE frame are taken; with the last one the frame is answered, with one code for each entry
(R167, log 21). -/
def State.goOn (s : State) (w : TableWork) (n : Nat) : State :=
  let x := State.takeTable w.table n w.index w.left s
  let codes := w.codes ++ x.1
  if x.2.1.isEmpty then
    State.answer { x.2.2 with mgr := { x.2.2.mgr with work := none } } (s.workFrame w.snd) codes []
  else
    { x.2.2 with mgr := { x.2.2.mgr with work := some { w with index := w.index + x.1.length, left := x.2.1, codes := codes } } }

/-- The TABLE frame held is finished before another one is begun (log 21). -/
def State.finishWork (s : State) : State :=
  match s.mgr.work with
  | none => s
  | some w => s.goOn w w.left.length

/-- Entries left over of a held TABLE frame of table `t` are taken (log 21). -/
def State.moreWork (s : State) (t : TableId) (n : Nat) : State :=
  match s.mgr.work with
  | none => s
  | some w => if w.table = t then s.goOn w n else s

/-- An accepted TABLE frame, of which `n` entries are taken in this event (R167). -/
def State.takeTableFrame (s : State) (f : Frame) (n : Nat) : State :=
  let s1 := s.finishWork
  match tableBody f.body with
  | none => s1.answer f [.range] []
  | some (t, first, entries) =>
    s1.goOn { snd := { src := f.src, flags := f.flags, seq := f.seq }, table := t, index := first, left := entries, codes := [] } n

end Sys2Proof.Machine
end

