-- ==== Sys2Proof/Machine/Guard.lean ====
section
/-!
DEFINITION. The order guard (section 8.3, R89): every ORDER frame of another source that passes the part is
forwarded rewritten, forwarded unchanged, dropped at a full forward queue, or withheld. An admitted frame joins the
forward queue first and the record moves after it, in the same event (log 11).
-/

namespace Sys2Proof.Machine

/-- What every guard notice carries: source, destination, sequence number, order code, the state found (R151). -/
def guardItems (f : Frame) (order state : Item) : List Item :=
  [.fig f.src.toNat, .fig f.dest.toNat, .fig f.seq.toNat, order, state]

/-- The order code as a guard notice carries it: none for a malformed frame (R182). -/
def orderItem (f : Frame) : Item :=
  match orderBody f.body with
  | none => .none
  | some x => .code x.1.toNat

/-- For a SETPOINT, the value carried, and the value forwarded where there is one (R151). -/
def valueItems (f : Frame) (forwarded : Option Int) : List Item :=
  match orderBody f.body with
  | none => []
  | some x => if x.1 = BitVec.ofNat 8 Order.setpoint.num then [.fig x.2, figItem forwarded] else []

/-- A frame is withheld with GUARD_REFUSED and an answer code (R151). -/
def State.refuse (s : State) (f : Frame) (src : SourceRecord) (state : Item) (c : Code) : State :=
  s.countWithheld.notify .guardRefused src (guardItems f (orderItem f) state ++ valueItems f none ++ [.code c.num])

/-- An admitted order: forwarded rewritten and then taken in the record, or dropped at a full forward queue with no
record moved (R151, R159). -/
def State.letThrough (s : State) (f : Frame) (value : Option Int) (move : State → State) : State :=
  if s.forwardRoom then move (s.enqueue (guarded f value)) else s.countDropped

/-- The state of a train as a guard notice carries it. -/
def State.trainItem (s : State) (i : Fin 8) : Item := .code (s.train i).state.num

/-- A train's refusal (R152). -/
def State.refuseTrain (s : State) (f : Frame) (i : Fin 8) (c : Code) : State := s.refuse f (.train i) (s.trainItem i) c

/-- A START to a train (R53, R63, R64, R89): forwarded with the converter given, or withheld and queued. -/
def State.guardStart (s : State) (f : Frame) (i : Fin 8) : State :=
  match admission (s.train i).state .start with
  | some c => s.refuseTrain f i c
  | none =>
    if s.heatLow i then s.refuseTrain f i .heatLow
    else if s.converterReady then s.letThrough f none fun s => s.startNow i
    else s.countWithheld.startQueued i 1

/-- The upper limit of the clamp: the train's available maximum in the last computation record, or P_max, and P_min
when that lies below it (R153). The figure of a record made before the slot was written again counts no higher than
P_max, as R131 asks of every setpoint (log 34). -/
def State.clampUpper (s : State) (i : Fin 8) : Int :=
  let t := s.train i
  let recorded : Option Int := (s.disp.last.bind fun r => (r.slots[i.val]?).join).bind (·.avail)
  max t.p.pMin (min t.p.pMax (recorded.getD t.p.pMax))

/-- The value a guarded SETPOINT is forwarded with (R153). -/
def State.clampedValue (s : State) (i : Fin 8) (v : Int) : Int := clampTo (s.train i).p.pMin (s.clampUpper i) v

/-- A forwarded SETPOINT's effect on the record and the dispatch track, with GUARD_CLAMPED where the value changed
(R66, R129, R153). -/
def State.setpointTaken (s : State) (f : Frame) (i : Fin 8) (v w : Int) : State :=
  let s1 := (s.recordSetpoint i w).setTrack i w
  if v = w then s1
  else s1.notify .guardClamped (.train i) (guardItems f (orderItem f) (s.trainItem i) ++ valueItems f (some w))

/-- A SETPOINT to a train (R153). -/
def State.guardSetpoint (s : State) (f : Frame) (i : Fin 8) (v : Int) : State :=
  if s.mode.mode.dispatches then
    s.countWithheld.notify .guardDropped (.train i) (guardItems f (orderItem f) (s.trainItem i) ++ valueItems f none)
  else
    match admission (s.train i).state .setpoint with
    | some c => s.refuseTrain f i c
    | none => s.letThrough f (some (s.clampedValue i v)) fun t => t.setpointTaken f i v (s.clampedValue i v)

/-- Any other train order (R152). -/
def State.guardOther (s : State) (f : Frame) (i : Fin 8) (o : Order) : State :=
  match s.orderRefusal i o with
  | some c => s.refuseTrain f i c
  | none => s.letThrough f none fun s => s.takeOrder i o

/-- A train order (R152, R153). -/
def State.guardTrain (s : State) (f : Frame) (i : Fin 8) (o : Order) (v : Int) : State :=
  match o with
  | .start => s.guardStart f i
  | .setpoint => s.guardSetpoint f i v
  | o => s.guardOther f i o

/-- Whether a valve order is refused: the isolation check first, then R25 (R35, R154). -/
def State.valveOrderRefusal (s : State) (c : Fin 4) (o : Order) : Option Code :=
  if o = .valveOpen ∧ (s.cavern c).mark ≠ .none ∧ (s.cavern c).mark.dir = s.manifold.present then some .limit
  else valveRefusal (s.cavern c).valve o

/-- An admitted valve order moves the valve: a change to OPENING clears the mark and is evaluated for isolation
(R25, R34, R35). -/
def State.moveValve (s : State) (c : Fin 4) (o : Order) : State :=
  match valveNext (s.cavern c).valve o with
  | none => s
  | some v => if v = .opening then ((s.setValve c v).setMark c .none).isolate c else s.setValve c v

/-- A valve order (R154). -/
def State.guardValve (s : State) (f : Frame) (c : Fin 4) (o : Order) : State :=
  match s.valveOrderRefusal c o with
  | some code => s.refuse f (.cavern c) (.code (s.cavern c).valve.num) code
  | none => s.letThrough f none fun s => s.moveValve c o

/-- The record a node's malformed or unknown order concerns, with its state (R182, R183). -/
def State.recordAt (s : State) (node : Nat) : Option (SourceRecord × Item) :=
  match s.trainAt node, s.cavernAt node with
  | some i, _ => some (.train i, s.trainItem i)
  | none, some c => some (.cavern c, .code (s.cavern c).valve.num)
  | none, none => none

/-- An ORDER frame that is malformed or of an unknown code: withheld at a train's or valve's node, forwarded unchanged
elsewhere (R182, R183). -/
def State.guardUnread (s : State) (f : Frame) : State :=
  match s.recordAt f.dest.toNat with
  | some x => s.refuse f x.1 x.2 .range
  | none => s.forwardOrDrop f

/-- An order of a known code, by its destination (R151). -/
def State.guardKnown (s : State) (f : Frame) (o : Order) (v : Int) : State :=
  if f.dest = 255 then s.refuse f .none .none .range
  else
    match s.trainAt f.dest.toNat, s.cavernAt f.dest.toNat with
    | none, none => s.forwardOrDrop f
    | some i, none => if o.isValve then s.refuse f .none .none .state else s.guardTrain f i o v
    | none, some c => if o.isValve then s.guardValve f c o else s.refuse f .none .none .state
    | some i, some c => if o.isValve then s.guardValve f c o else s.guardTrain f i o v

/-- The guard disposition of an ORDER frame (R151, R156). -/
def State.guard (s : State) (f : Frame) : State :=
  match orderBody f.body with
  | none => s.guardUnread f
  | some x =>
    match orderOf x.1 with
    | none => s.guardUnread f
    | some o => s.guardKnown f o x.2

end Sys2Proof.Machine
end

