-- ==== Sys2Proof/Machine/Queries.lean ====
section
/-!
DEFINITION. The QUERY replies (R20, R43, R55, R84, R96, R113, R135, R164, R180, R181): for each record kind the items
of its reply, in the order its rule lists them, and the answer to a QUERY frame.
-/

namespace Sys2Proof.Machine

/-! ## Item helpers -/

/-- An optional count or number as an item. -/
def natItem : Option Nat → Item
  | none => .none
  | some n => .fig n

/-- The all-ones figure. -/
def allOnes : Nat := 4294967295

/-- A channel field, all ones where it names none (section 11.2). -/
def channelItem : Option Nat → Item
  | none => .fig allOnes
  | some n => .fig n

/-- A time since an instant in milliseconds, saturating; the all-ones value also for no instant (R20, R135). -/
def State.sinceItem (s : State) (t : Option Nat) : Item :=
  match t with
  | none => .fig allOnes
  | some x => .fig (min allOnes (s.now - x) : Nat)

/-- A parameter word as a figure. -/
def wordItem (w : Word) : Item := .fig w.toInt

/-! ## The records -/

def chanParamItems (p : ChanParams) : List Item :=
  [.fig p.source, .fig p.slot, .code p.kind.num, .fig p.offset, .fig p.gain, .fig p.scale, .fig p.zero, .fig p.rangeLow
   , .fig p.rangeHigh, .fig p.freshness, .fig p.length, .fig p.substitute, flagItem p.substFlag]

/-- R20. -/
def State.channelItems (s : State) (c : Fin 96) : List Item :=
  let x := s.chan c
  let v := x.presented
  chanParamItems x.p ++
    [flagItem x.present, .code v.quality.num, .fig v.inst, .fig v.avg, .code x.quality.num, .fig x.inst, .fig x.avg
     , .fig x.window.length, .fig x.accepted.toNat, .fig x.invalid.toNat, s.sinceItem x.last, flagItem (!s.grid.tracking)
     , flagItem s.grid.dev, flagItem s.grid.seen]

def cavernParamItems (p : CavernParams) : List Item :=
  [flagItem p.present, channelItem p.channel, .fig p.node, .fig p.pMin, .fig p.pMax, .fig p.taper, .fig p.rateLimit
   , .fig p.stiffness, .fig p.travel, flagItem p.notify]

/-- R43. The pressure view of an absent cavern, which is no consumer, is that of the channel its kept field names (log 36). -/
def State.cavernItems (s : State) (c : Fin 4) : List Item :=
  let x := s.cavern c
  let v := s.pressure c
  cavernParamItems x.p ++
    [.code x.valve.num, .fig (s.remaining x.timer), .code x.mark.num, .code v.quality.num, .fig v.avg, .fig x.rates.length
     , .fig x.rate, flagItem x.rateValid, flagItem x.hold, .fig x.gen, .fig x.absorb]

/-- How many present trains of a kind flow (R43). -/
def State.flowCount (s : State) (k : TrainKind) : Nat :=
  (slotNumbers.filter fun i => (s.train i).flowing && (s.train i).p.kind == k).length

/-- R43. -/
def State.manifoldItems (s : State) : List Item :=
  [.code s.manifold.state.num, (match s.manifold.remembered with | none => .none | some d => .code d.state.num)
   , .fig (s.remaining s.manifold.timer), .fig (s.flowCount .compressor), .fig (s.flowCount .expander)
   , .fig s.openCaverns.length, .fig (s.plantFactor .discharge), .fig (s.plantFactor .charge)]

def storeParamItems (p : StoreParams) : List Item :=
  [flagItem p.present, .fig p.layers.length] ++ (p.layers.flatMap fun l => [.fig l.channel, .fig l.capacity])
    ++ [.fig p.tRef, .fig p.eFloor, .fig p.eCeiling, .fig p.band, flagItem p.notify]

/-- R55. -/
def State.storeItems (s : State) (m : Fin 3) : List Item :=
  let x := s.store m
  storeParamItems x.p ++ (x.views.flatMap fun v => [.code v.quality.num, .fig v.avg]) ++
    [.fig x.energy, .code x.quality.num, .fig x.unusable, .fig x.gen, .fig x.absorb, .fig (s.assigned m).length
     , .fig (s.assignedFlowing m).length, .fig s.plant.genRatio, .fig s.plant.compRatio]

def trainParamItems (p : TrainParams) : List Item :=
  [.code p.kind.num, .fig p.node, .fig p.pMax, .fig p.pMin, .fig p.ramp, .fig p.tStart, .fig p.tLoad, .fig p.tUnload
   , .fig p.tStop, .fig p.store, .fig p.position, flagItem p.notify]

/-- The last report's kind, code and power, or none (R84). -/
def reportItems : Option LastReport → List Item
  | none => [.none, .none, .none]
  | some r => [.code r.kind.toNat, .code r.code.toNat, .fig r.power]

/-- A slot's place in the start queue, 0 when it holds none (R84). -/
def queuePlace (i : Fin 8) : List (Fin 8) → Nat → Nat
  | [], _ => 0
  | j :: rest, n => if j = i then n else queuePlace i rest (n + 1)

/-- R84. The runtime items of an absent slot, which holds no state, are none but for its trip captures and its place in
the queue (log 31). -/
def State.trainItems (s : State) (i : Fin 8) : List Item :=
  let t := s.train i
  let run : List Item :=
    if t.present then
      [.code t.state.num, s.sinceItem (some t.entry), .fig (s.remaining t.timer), .fig t.setpoint, flagItem t.starved
       , flagItem (!t.available), flagItem t.tripClear, (match t.preState with | none => .none | some st => .code st.num)
       , .fig t.preSetpoint] ++ reportItems t.lastReport
    else List.replicate 12 .none
  trainParamItems t.p ++ run ++
    [.fig t.stack.length, flagItem t.overrun, flagItem (s.conv.state == .busy i), .fig (queuePlace i s.conv.queue 1)]

/-- R96. -/
def State.converterItems (s : State) : List Item :=
  [.code s.conv.state.num, natItem (s.conv.state.slot.map (·.val)), .fig (s.remaining s.conv.cooldown)
   , flagItem s.conv.retry.isSome, .fig s.conv.queue.length] ++ (s.conv.queue.map fun i => .fig i.val)
    ++ [.fig s.plant.convNode, .fig s.plant.cooldown, .fig s.conv.starts.toNat, .fig s.conv.faults.toNat]

/-- Every field of an entry (R113). -/
def Entry.items (e : Entry) : List Item :=
  [.fig e.interval, .fig e.net, .fig e.reserve, .fig e.revision, flagItem e.ramp, e.tag.item]

/-- An entry's fields, or none for each. -/
def entryItems : Option Entry → List Item
  | none => List.replicate 6 .none
  | some e => e.items

/-- The active entry's fields; its interval number is none while the clock is INVALID (R114, log 28). -/
def State.activeItems (s : State) : List Item :=
  (if s.clock.state = .invalid then .none else .fig s.sched.active.interval) :: s.sched.active.items.tail

/-- The ending entry with its end of ramp in seconds and milliseconds, or none (R113). -/
def State.endingItems (s : State) : List Item :=
  match s.sched.ending with
  | none => List.replicate 8 .none
  | some x => x.1.items ++ [.fig (x.2 / 1000 : Nat), .fig (x.2 % 1000 : Nat)]

/-- The first stored entry after an interval number (R113). -/
def State.nextStored (s : State) (j : Nat) : Option Nat := (s.sched.table.find? fun e => decide (j < e.interval)).map (·.interval)

/-- R113. -/
def State.scheduleItems (s : State) (j : Nat) : List Item :=
  [.code s.clock.state.num, .fig s.plantSec, .fig s.plantMilli, .fig (s.remaining s.clock.mark)
   , .fig (if s.clock.state = .invalid then 0 else s.interval)]
    ++ s.activeItems ++ [flagItem (s.sched.active.tag == .fallback)] ++ s.endingItems
    ++ [.fig s.sched.trim, .fig s.sched.table.length] ++ entryItems (s.sched.stored j) ++ [natItem (s.nextStored j)
    , .fig s.plant.interval, .fig s.plant.rampHalf, .fig s.plant.gateLead, .fig s.plant.markTimeout]

/-- R135, the last computation: a mark whether there is a record, then the record. -/
def State.computationItems (s : State) : List Item :=
  (match s.disp.last with | none => [flagItem false] | some r => flagItem true :: r.items)
    ++ [.fig s.disp.period, flagItem s.disp.resShort, flagItem (!s.grid.tracking), s.sinceItem s.grid.lastComp]

/-- The age of the oldest return list entry, 0 for none (R164). -/
def State.oldestAge (s : State) : Nat :=
  match s.ring.returns with
  | [] => 0
  | e :: _ => s.now - e.instant

/-- R164. -/
def State.ringItems (s : State) : List Item :=
  [.fig s.ring.received.toNat, .fig s.ring.forwarded.toNat, .fig s.ring.consumed.toNat, .fig s.ring.stripped.toNat
   , .fig s.ring.dropped.toNat, .fig s.ring.withheld.toNat, .fig s.ring.forward.length, .fig s.ring.orders.length
   , .fig s.rep.queue.length, .fig s.ring.run, .fig s.ring.seqNo.toNat, .code s.ring.continuity.num, .fig s.ring.returns.length
   , .fig s.oldestAge, .fig s.node.toNat, .fig s.plant.master]

/-- A trip capture record (R73). -/
def Capture.items (r : Capture) : List Item :=
  [.fig (r.plantMs / 1000 : Nat), .fig (r.plantMs % 1000 : Nat), .code r.clock.num, .code r.state.num, .fig r.setpoint
   , .fig r.cause, .code r.manifold.num, .fig r.factor]

/-- R181: a mark whether there is a record, the older record, and the overrun flag. -/
def Train.captureItems (t : Train) : List Item :=
  (match t.stack with | [] => [flagItem false] | r :: _ => flagItem true :: r.items) ++ [flagItem t.overrun]

/-- The plant table as it is queried: its figures, then the five class enables in the order of their table, a flag each
(R180, section 11.2, log 37). -/
def plantParamItems (p : PlantTable) : List Item :=
  [.fig p.master, .fig p.gridNode, channelItem p.gridChannel, .fig p.fNom, .fig p.interval, .fig p.rampHalf, .fig p.gateLead
   , .fig p.markTimeout, .fig p.fallbackNet, .fig p.fallbackRes, .fig p.deadband, .fig p.rateSpacing, .fig p.genRatio
   , .fig p.compRatio, .fig p.convNode, .fig p.cooldown, .fig p.spacing, .fig p.fallbackPeriod, .fig p.alarm, .fig p.recordPeriod
   , .fig p.returnTimeout, .fig p.almostFull, .fig p.almostEmpty
   , flagItem p.enLimit, flagItem p.enSchedule, flagItem p.enRing, flagItem p.enSequence, flagItem p.enGuard]

/-- How many reports of the queue pass a test. -/
def Reports.countOf (r : Reports) (f : ReportBody → Bool) : Nat := (r.queue.filter fun x => f x.body).length

def ReportBody.isAnswer : ReportBody → Bool
  | .answer _ _ _ _ => true
  | _ => false
def ReportBody.isReply : ReportBody → Bool
  | .reply _ _ _ => true
  | _ => false
def ReportBody.isNotice : ReportBody → Bool
  | .notice _ => true
  | _ => false
def ReportBody.isRecord : ReportBody → Bool
  | .record _ => true
  | _ => false

/-- R180, PLANT. -/
def State.plantItems (s : State) : List Item :=
  plantParamItems s.plant ++
    [.fig s.mgr.checkWord.toNat, .code s.mgr.check.num, natItem (s.mgr.lastSum.map (·.toNat)), .fig (s.remaining s.mgr.quiet)]
    ++ s.mgr.resetBy.items ++ s.mode.items ++
    [.fig (s.rep.countOf ReportBody.isAnswer), .fig (s.rep.countOf ReportBody.isReply), .fig (s.rep.countOf ReportBody.isNotice)
     , .fig (s.rep.countOf ReportBody.isRecord), flagItem s.rep.suppressed, .fig s.rep.lostNotice, .fig s.rep.lostAnswer.toNat
     , .fig s.rep.declined.toNat]

def dispatchParamItems (p : DispatchSet) : List Item :=
  [.fig p.deadband, .fig p.fFull, .fig p.quantum, .fig p.startPm, .fig p.stopPm, .fig p.stopDelay, .fig p.idleLimit
   , .fig p.startLead, .fig p.dirThreshold]

/-- The demand step's figures, none before the first (R135, R144, log 26). -/
def demandItems : Option Demand → List Item
  | none => List.replicate 6 .none
  | some f =>
    [.fig f.ahead, .fig f.commit, .fig f.demand, (match f.desired with | none => .none | some d => .code d.state.num)
     , .fig f.c, .fig f.cFlow]

/-- The stop candidate and its start instant, or none (R135, R144, R148). The instant is sent as the milliseconds elapsed
since it, saturating (log 38). -/
def State.stopItems (s : State) : List Item :=
  match s.commit.stop with
  | none => [.none, .none]
  | some x => [.fig x.1.val, s.sinceItem (some x.2)]

/-- R135, the dispatch set. The track of an absent slot is none. -/
def State.dispatchItems (s : State) : List Item :=
  dispatchParamItems s.disp.active ++ dispatchParamItems s.disp.next ++ [flagItem s.disp.swap]
    ++ (slotNumbers.map fun i => if (s.train i).present then .fig (s.disp.tracks.get i) else .none)
    ++ demandItems s.commit.figures ++ s.stopItems

/-! ## The QUERY frame (R180, R181) -/

/-- The items of the reply to a query of a record kind and index; none where the index is out of range. A record kind
that needs no index ignores it (R180). -/
def State.queryItems (s : State) (k : RecordKind) (index : Nat) : Option (List Item) :=
  match k with
  | .channel => if h : index < 96 then some (s.channelItems ⟨index, h⟩) else none
  | .cavern => if h : index < 4 then some (s.cavernItems ⟨index, h⟩) else none
  | .manifold => some s.manifoldItems
  | .store => if h : index < 3 then some (s.storeItems ⟨index, h⟩) else none
  | .train => if h : index < 8 then some (s.trainItems ⟨index, h⟩) else none
  | .converter => some s.converterItems
  | .schedule => some (s.scheduleItems index)
  | .computation => some s.computationItems
  | .ring => some s.ringItems
  | .tripCapture => if h : index < 8 then some (s.train ⟨index, h⟩).captureItems else none
  | .plant => some s.plantItems
  | .dispatchSet => some s.dispatchItems

/-- The older trip capture leaves the stack, and the overrun flag is cleared (R81, R181). -/
def State.captureRead (s : State) (index : Nat) : State :=
  if h : index < 8 then
    let i : Fin 8 := ⟨index, h⟩
    s.setTrain i { s.train i with stack := (s.train i).stack.tail, overrun := false }
  else s

/-- An accepted QUERY frame (R180, R181). -/
def State.queryTaken (s : State) (f : Frame) : State :=
  match queryBody f.body with
  | none => s.answer f [.range] []
  | some x =>
    match recordOf x.1 with
    | none => s.answer f [.range] []
    | some k =>
      match s.queryItems k x.2 with
      | none => s.answer f [.range] []
      | some items =>
        let s1 := s.reply f k items
        if k = .tripCapture ∧ s.replyRoom then s1.captureRead x.2 else s1

end Sys2Proof.Machine
end

