-- ==== Sys2Proof/Machine/Reception.lean ====
section
/-!
DEFINITION. Reception of a frame (chapter 9): the checks (R155), tapping and disposition (R156), consumed frames
(R157) with the directives (R170, R173), and PASSIVE operation (R165).
-/

namespace Sys2Proof.Machine

/-! ## Directives (R170, R173) -/

/-- The TRAIN_AVAIL directive (R83, R170): AVAILABLE is 0, UNAVAILABLE 1. The cause its notice carries is not stated
(log 16). -/
def State.trainAvailTaken (s : State) (slot value : Nat) : Code × State :=
  if h : slot < 8 then
    if 1 < value then (.range, s)
    else
      let i : Fin 8 := ⟨slot, h⟩
      let t := s.train i
      let new := value == 0
      if t.present = false then (.state, s)
      else if t.available = new then (.done, s)
      else
        (.done, (s.setTrain i { t with available := new }).notify .trainState (.train i)
          [.fig i.val, flagItem (!t.available), flagItem (!new), .unstated 7])
  else (.range, s)

/-- The CLEAR_LATCH directive (R19). -/
def State.latchCleared (s : State) : Code × State :=
  if s.grid.dev then (.active, s) else (.done, { s with grid := { s.grid with seen := false } })

/-- The MODE directive with its answer, which adds the mode and the causes that result (R139, log 27). -/
def State.modeDirective (s : State) (f : Frame) (code : Nat) : State :=
  let r := s.requestMode code
  r.2.answer f [r.1] r.2.mode.items

/-- The RESET directive: a reset without an ANSWER, or RANGE (R173). -/
def State.resetDirective (s : State) (f : Frame) (code : Nat) : State :=
  match s.resetTaken code f.src f.seq with
  | none => s.answer f [.range] []
  | some s1 => s1

/-- A directive's code and state, answered with one ANSWER (R170). -/
def State.answered (r : Code × State) (f : Frame) : State := r.2.answer f [r.1] []

/-- An accepted DIRECTIVE frame (R170, R182): the argument of MODE and RESET is the figure of its four bytes. -/
def State.directiveTaken (s : State) (f : Frame) : State :=
  match directiveBody f.body with
  | none => s.answer f [.range] []
  | some (c, a3, a2, a1, a0) =>
    match c.toNat with
    | 1 => s.modeDirective f (word32 a3 a2 a1 a0).toNat
    | 2 => State.answered (s.trimTaken (word32 a3 a2 a1 a0).toInt) f
    | 3 => s.swapTaken.answer f [.done] []
    | 4 => State.answered s.latchCleared f
    | 5 => State.answered (s.trainAvailTaken a3.toNat a2.toNat) f
    | 6 => s.resetDirective f (word32 a3 a2 a1 a0).toNat
    | _ => s.answer f [.range] []

/-! ## Consumed frames (R157) -/

/-- An accepted SCHEDULE frame (R105). -/
def State.scheduleTaken (s : State) (f : Frame) : State :=
  match scheduleBody f.body with
  | none => s.answer f [.range] []
  | some es =>
    let r := State.takeEntries es s
    r.2.answer f r.1 []

/-- An accepted TIME frame (R99); a malformed one is refused RANGE and is no time mark (R182). -/
def State.timeFrame (s : State) (f : Frame) : State :=
  match timeBody f.body with
  | none => s.answer f [.range] []
  | some x => State.answered (s.timeTaken x.1 x.2) f

/-- Management kinds (section 1.7). -/
def isManagement (k : Byte) : Bool := k == kDirective || k == kTable || k == kSchedule || k == kTime || k == kQuery

/-- Kinds that are consumed without an answer (R157). -/
def isSilent (k : Byte) : Bool := k == kSample || k == kStatus || k == kOrder || k == kReport

/-- A management frame is accepted from the master node, or from any while that is 0 (R157). -/
def State.accepts (s : State) (src : Byte) : Bool := s.plant.master == 0 || s.plant.master == src.toNat

/-- An accepted management frame; `n` is how many entries of a TABLE frame are taken in this event (log 21). -/
def State.management (s : State) (f : Frame) (n : Nat) : State :=
  if f.kind = kDirective then s.directiveTaken f
  else if f.kind = kTable then s.takeTableFrame f n
  else if f.kind = kSchedule then s.scheduleTaken f
  else if f.kind = kTime then s.timeFrame f
  else s.queryTaken f

/-- A consumed frame (R157). -/
def State.consume (s : State) (f : Frame) (n : Nat) : State :=
  let s1 := s.countConsumed
  if isManagement f.kind then if s1.accepts f.src then s1.management f n else s1.answer f [.source] []
  else if isSilent f.kind then s1
  else s1.answer f [.unknownKind] []

/-! ## Tapping and disposition (R156) -/

/-- SAMPLE and STATUS frames are tapped before their disposition (R156). -/
def State.tap (s : State) (f : Frame) : State :=
  if f.kind = kSample then s.tapSample f else if f.kind = kStatus then s.tapStatus f else s

/-- The disposition of a checked frame, by the first condition it meets (R156). -/
def State.dispose (s : State) (f : Frame) (n : Nat) : State :=
  if f.src = 0 ∨ f.src = 255 then s.countDropped
  else if f.dest = s.node ∨ (f.dest = 255 ∧ f.kind = kTime) then s.consume f n
  else if f.kind = kOrder then s.guard f
  else s.forwardOrDrop f

/-- A frame received whole and checked (R155, R156, R165). -/
def State.checked (s : State) (f : Frame) (n : Nat) : State :=
  let s1 := s.countReceived
  if s1.passive then s1.forwardOrDrop f
  else if f.src = s1.node then s1.countStripped.returned f.seq
  else (s1.tap f).dispose f n

/-- A frame received whole: one with a body above 244 bytes fails its checks (R155). While the reset pin is asserted
nothing is received (log 5). -/
def State.receiveSome (s : State) (f : Frame) (n : Nat) : State :=
  if s.held then s
  else if 244 < f.body.length then s.countReceived.countDropped
  else s.checked f n

/-- A frame received whole; a TABLE frame's entries are all taken in this event. -/
def State.receive (s : State) (f : Frame) : State := s.receiveSome f 256

/-- The bytes of a frame received whole (R155): one that fails its checks is counted as received and dropped. -/
def State.receiveBytes (s : State) (bytes : List Byte) : State :=
  if s.held then s
  else
    match checkedFrame bytes with
    | none => s.countReceived.countDropped
    | some f => s.receive f

end Sys2Proof.Machine
end

