-- ==== Sys2Proof/Machine/Time.lean ====
section
/-!
DEFINITION. Time (R4, R98, log 1 to log 3): the passing of the millisecond time base with the plant time, the timers
of the part with their expiries, the events of the plant time, and what the part does while no command waits.
-/

namespace Sys2Proof.Machine

/-- The timers of the part (R98), in the order in which expiries of one millisecond are taken while no command waits
(log 3). -/
inductive Timer where
  | freshness (c : Fin 96) | fallback | travel (c : Fin 4) | deadband | sequence (i : Fin 8) | cooldown | retry | mark | watch
  | quiet | period
deriving DecidableEq, Repr

/-- Every timer, in that order. -/
def allTimers : List Timer :=
  (List.finRange 96).map Timer.freshness ++ [.fallback] ++ cavernNumbers.map Timer.travel ++ [.deadband]
    ++ slotNumbers.map Timer.sequence ++ [.cooldown, .retry, .mark, .watch, .quiet, .period]

/-- A timer's deadline, none while it is stopped. -/
def State.deadline (s : State) : Timer → Option Nat
  | .freshness c => (s.chan c).timer
  | .fallback => s.grid.timer
  | .travel c => (s.cavern c).timer
  | .deadband => s.manifold.timer
  | .sequence i => (s.train i).timer
  | .cooldown => s.conv.cooldown
  | .retry => s.conv.retry
  | .mark => s.clock.mark
  | .watch => s.ring.watch
  | .period => s.mgr.periodTimer
  | .quiet => s.mgr.quiet

/-- Expiry of the edit-quiet timer: it stops, without a pass (R172). -/
def State.quietExpired (s : State) : State := { s with mgr := { s.mgr with quiet := none } }

/-- What a timer's expiry does. -/
def State.expire (s : State) : Timer → State
  | .freshness c => s.freshnessExpired c
  | .fallback => s.fallbackExpired
  | .travel c => s.travelExpired c
  | .deadband => s.deadbandExpired
  | .sequence i => s.sequenceExpired i
  | .cooldown => s.cooldownExpired
  | .retry => s.retryExpired
  | .mark => s.markExpired
  | .watch => s.returnExpired
  | .period => s.periodExpired
  | .quiet => s.quietExpired

/-! ## Passing time -/

/-- Time passes to an instant: the plant time runs with it while the clock runs, and holds at its last millisecond
(R98). An instant already past changes nothing. -/
def State.passTo (s : State) (t : Nat) : State :=
  { s with now := max s.now t
           clock := if s.clockRuns ∧ s.now < t then { s.clock with plantMs := min (s.clock.plantMs + (t - s.now)) Config.lastPlantMs }
                    else s.clock }

/-- The instant at which the running plant time reaches a plant instant still to come. -/
def State.instantOf (s : State) (ms : Nat) : Option Nat :=
  if s.clockRuns ∧ s.clock.plantMs < ms ∧ ms ≤ Config.lastPlantMs then some (s.now + (ms - s.clock.plantMs)) else none

/-- The instant of the next boundary (R98). -/
def State.boundaryAt (s : State) : Option Nat := s.instantOf ((s.interval + 1) * s.plant.interval * 1000)

/-- The instant of the end of the ending entry's ramp (R110). -/
def State.rampEndAt (s : State) : Option Nat := s.sched.ending.bind fun x => s.instantOf x.2

/-- The instant at which the plant time reaches its last millisecond (R98). -/
def State.limitAt (s : State) : Option Nat := s.instantOf Config.lastPlantMs

/-- No deadline of a list falls due before an instant; one already past counts as due now. -/
def noneBefore (now t : Nat) (l : List (Option Nat)) : Bool :=
  l.all fun d => match d with | none => true | some e => decide (t ≤ max now e)

/-- No instant of a list lies at or before an instant. -/
def noneBy (t : Nat) (l : List (Option Nat)) : Bool :=
  l.all fun d => match d with | none => true | some e => decide (t < e)

/-- The deadlines of all timers. -/
def State.deadlines (s : State) : List (Option Nat) := allTimers.map s.deadline

/-- A timer's expiry can be the next thing to happen: no timer falls due before it, and no event of the plant time
before it or in the same millisecond (log 2, log 3). -/
def State.timerNext (s : State) (d : Nat) : Bool :=
  noneBefore s.now (max s.now d) s.deadlines && noneBy (max s.now d) [s.boundaryAt, s.rampEndAt]

/-- An event of the plant time can be the next thing to happen: no timer falls due before it, no event of `before` at
its instant or earlier, and no event of `after` earlier (log 2, log 3). -/
def State.plantNext (s : State) (t : Nat) (before after : List (Option Nat)) : Bool :=
  noneBefore s.now t s.deadlines && noneBy t before && noneBefore s.now t after

/-- The expiry of a timer, as a command: time passes to its deadline and it expires. A timer that is stopped, or whose
expiry cannot be the next thing to happen, does not expire (log 2); nothing runs while the reset pin is asserted. -/
def State.expiry (s : State) (t : Timer) : State :=
  match s.deadline t with
  | none => s
  | some d => if s.held = false ∧ s.timerNext d then (s.passTo d).expire t else s

/-- An event of the plant time, as a command: time passes to its instant and it is taken (log 2). -/
def State.plantEvent (s : State) (t : Option Nat) (before after : List (Option Nat)) (act : State → State) : State :=
  match t with
  | none => s
  | some d => if s.held = false ∧ s.plantNext d before after then act (s.passTo d) else s

/-! ## Nothing waiting -/

/-- The first timer, in the order of log 3, that has fallen due. -/
def State.firstDue (s : State) : Option Timer :=
  allTimers.find? fun t => match s.deadline t with | none => false | some d => decide (d ≤ s.now)

/-- One millisecond passes, with the event of the plant time that falls on it (log 1, log 3). -/
def State.tick (s : State) : State :=
  let s1 := s.passTo (s.now + 1)
  let s2 := if s.boundaryAt = some (s.now + 1) then s1.boundary else s1
  if s.rampEndAt = some (s.now + 1) then s2.judgeRamp else s2

/-- What the part does while no command waits: it takes an expiry that has fallen due, or lets one millisecond pass
(log 1). While the reset pin is asserted nothing happens (log 5). -/
def State.idle (s : State) : State :=
  if s.held then s
  else
    match s.firstDue with
    | some t => s.expire t
    | none => s.tick

/-! ## The end of a sending (R160) -/

/-- A sending ends, and the arbiter chooses the next frame; without a sending under way there is no such event. -/
def State.sendingEnded (s : State) : State :=
  match s.ring.sending with
  | none => s
  | some _ => State.chooseNext { s with ring := { s.ring with sending := none } }

end Sys2Proof.Machine
end

