-- ==== Sys2Proof/Machine/FrameCommands.lean ====
section
/-!
DEFINITION. The commands of the ring: frames by their disposition, the tapped frames, and the end of a sending.
-/

namespace Sys2Proof.Machine

/-- A frame that passes the part. -/
def passingFrame (h : Passing) (kind : Byte) (body : List Byte) : Frame :=
  { dest := h.dest, src := h.src, kind := kind, flags := h.flags, seq := h.seq, body := body }

/-- A frame of a sender to a destination. -/
def sentTo (dest : Byte) (snd : Sender) (kind : Byte) (body : List Byte) : Frame :=
  { dest := dest, src := snd.src, kind := kind, flags := snd.flags, seq := snd.seq, body := body }

/-- A frame received whole, as the next state. -/
def received (s : State) (f : Frame) : Host.Outcome State Fault Refusal := .next (s.receive f)

/-- FRAME_DROPPED (R155): the bytes fail a check. -/
def execFrameDropped (bytes : List Byte) (s : State) : Host.Outcome State Fault Refusal :=
  .next (s.receiveBytes bytes)

/-- STRIP (R156, R162): the source is the part's own node. -/
def execStrip (dest kind flags : Byte) (seq : SeqNo) (body : List Byte) (s : State) : Host.Outcome State Fault Refusal :=
  received s { dest := dest, src := s.node, kind := kind, flags := flags, seq := seq, body := body }

/-- SOURCE_DROP (R156): the source is 0, or 255 where `all` is set. -/
def execSourceDrop (all : Bool) (dest kind flags : Byte) (seq : SeqNo) (body : List Byte) (s : State) : Host.Outcome State Fault Refusal :=
  received s { dest := dest, src := if all then 255 else 0, kind := kind, flags := flags, seq := seq, body := body }

/-- FORWARD_FRAME (R156, R159), and any other frame. -/
def execForwardFrame (f : Frame) (s : State) : Host.Outcome State Fault Refusal :=
  received s f

/-- UNKNOWN_KIND (R157). -/
def execUnknownKind (snd : Sender) (kind : Byte) (body : List Byte) (s : State) : Host.Outcome State Fault Refusal :=
  received s (sentTo s.node snd kind body)

/-- CONSUMED_WITHOUT_ANSWER (R157): an ORDER or REPORT frame to the part. -/
def execConsumedWithoutAnswer (report : Bool) (snd : Sender) (body : List Byte) (s : State) : Host.Outcome State Fault Refusal :=
  received s (sentTo s.node snd (if report then kReport else kOrder) body)

/-- SAMPLE (R4, R156). -/
def execSample (h : Passing) (body : List Byte) (s : State) : Host.Outcome State Fault Refusal :=
  received s (passingFrame h kSample body)

/-- STATUS (R156). -/
def execStatus (h : Passing) (body : List Byte) (s : State) : Host.Outcome State Fault Refusal :=
  received s (passingFrame h kStatus body)

/-- SENDING_END (R160). -/
def execSendingEnd (s : State) : Host.Outcome State Fault Refusal :=
  .next s.sendingEnded


end Sys2Proof.Machine
end

