-- ==== Sys2Proof/Machine/OrderCommands.lean ====
section
/-!
DEFINITION. The ORDER frames of other sources, each at the order guard.
-/

namespace Sys2Proof.Machine

/-- An ORDER frame of a given order code that passes the part. -/
def orderFrame (h : Passing) (o : Order) (tail : List Byte) : Frame :=
  passingFrame h kOrder (BitVec.ofNat 8 o.num :: tail)

/-- START at the guard (R89, R152). -/
def execStart (h : Passing) (tail : List Byte) (s : State) : Host.Outcome State Fault Refusal :=
  received s (orderFrame h .start tail)

/-- ABORT at the guard (R64, R152). -/
def execAbort (h : Passing) (tail : List Byte) (s : State) : Host.Outcome State Fault Refusal :=
  received s (orderFrame h .abort tail)

/-- LOAD at the guard (R65, R152). -/
def execLoad (h : Passing) (tail : List Byte) (s : State) : Host.Outcome State Fault Refusal :=
  received s (orderFrame h .load tail)

/-- UNLOAD at the guard (R63, R152). -/
def execUnload (h : Passing) (tail : List Byte) (s : State) : Host.Outcome State Fault Refusal :=
  received s (orderFrame h .unload tail)

/-- STOP at the guard (R63, R152). -/
def execStop (h : Passing) (tail : List Byte) (s : State) : Host.Outcome State Fault Refusal :=
  received s (orderFrame h .stop tail)

/-- SETPOINT at the guard (R66, R153). -/
def execSetpoint (h : Passing) (tail : List Byte) (s : State) : Host.Outcome State Fault Refusal :=
  received s (orderFrame h .setpoint tail)

/-- TRIP at the guard (R67, R152). -/
def execTrip (h : Passing) (tail : List Byte) (s : State) : Host.Outcome State Fault Refusal :=
  received s (orderFrame h .trip tail)

/-- ENABLE at the guard (R63, R152). -/
def execEnable (h : Passing) (tail : List Byte) (s : State) : Host.Outcome State Fault Refusal :=
  received s (orderFrame h .enable tail)

/-- DISABLE at the guard (R63, R152). -/
def execDisable (h : Passing) (tail : List Byte) (s : State) : Host.Outcome State Fault Refusal :=
  received s (orderFrame h .disable tail)

/-- TRIP_RESET at the guard (R68, R152). -/
def execTripReset (h : Passing) (tail : List Byte) (s : State) : Host.Outcome State Fault Refusal :=
  received s (orderFrame h .tripReset tail)

/-- VALVE_OPEN at the guard (R35, R154). -/
def execValveOpen (h : Passing) (tail : List Byte) (s : State) : Host.Outcome State Fault Refusal :=
  received s (orderFrame h .valveOpen tail)

/-- VALVE_CLOSE at the guard (R25, R154). -/
def execValveClose (h : Passing) (tail : List Byte) (s : State) : Host.Outcome State Fault Refusal :=
  received s (orderFrame h .valveClose tail)

/-- MISMATCHED_ORDER, and an order of unknown or missing code (R151, R182, R183). -/
def execMismatchedOrder (h : Passing) (body : List Byte) (s : State) : Host.Outcome State Fault Refusal :=
  received s (passingFrame h kOrder body)

/-- BROADCAST_ORDER (R151). -/
def execBroadcastOrder (snd : Sender) (body : List Byte) (s : State) : Host.Outcome State Fault Refusal :=
  received s (sentTo 255 snd kOrder body)


end Sys2Proof.Machine
end

