-- ==== Sys2Proof/Machine/TableCommands.lean ====
section
/-!
DEFINITION. The TABLE frames, by the table they name.
-/

namespace Sys2Proof.Machine

/-- The body of a TABLE frame (section 11.2). -/
def tableFrameBody (t : TableId) (first count : Byte) (entries : List Byte) : List Byte :=
  BitVec.ofNat 8 t.num :: first :: count :: entries

/-- A TABLE frame of one table, or the going-on with the one held (R167, log 21). -/
def tableArrives (t : TableId) (a : TableArrival) (s : State) : Host.Outcome State Fault Refusal :=
  match a with
  | .frame snd first count entries n => .next (s.receiveSome (sentTo s.node snd kTable (tableFrameBody t first count entries)) n)
  | .more n => .next (s.moreWork t n)

/-- PLANT_TABLE_WRITE (R168). -/
def execPlantTableWrite (a : TableArrival) (s : State) : Host.Outcome State Fault Refusal :=
  tableArrives .plant a s

/-- DISPATCH_WRITE (R169). -/
def execDispatchWrite (a : TableArrival) (s : State) : Host.Outcome State Fault Refusal :=
  tableArrives .dispatch a s

/-- CHANNEL_WRITE (R2, R3). -/
def execChannelWrite (a : TableArrival) (s : State) : Host.Outcome State Fault Refusal :=
  tableArrives .channel a s

/-- CAVERN_WRITE (R23, R24). -/
def execCavernWrite (a : TableArrival) (s : State) : Host.Outcome State Fault Refusal :=
  tableArrives .cavern a s

/-- STORE_WRITE (R47, R48). -/
def execStoreWrite (a : TableArrival) (s : State) : Host.Outcome State Fault Refusal :=
  tableArrives .store a s

/-- TRAIN_WRITE (R59, R60). -/
def execTrainWrite (a : TableArrival) (s : State) : Host.Outcome State Fault Refusal :=
  tableArrives .train a s

/-- CHECK_WRITE (R169). -/
def execCheckWrite (a : TableArrival) (s : State) : Host.Outcome State Fault Refusal :=
  tableArrives .check a s


end Sys2Proof.Machine
end

