-- ==== Sys2Proof/Machine/ControlCommands.lean ====
section
/-!
DEFINITION. The SCHEDULE, TIME and DIRECTIVE frames, and the resets from outside the ring.
-/

namespace Sys2Proof.Machine

/-- A DIRECTIVE frame to the part: its code, then the bytes after it. -/
def directiveFrame (node : Byte) (snd : Sender) (code : Byte) (arg : List Byte) : Frame := sentTo node snd kDirective (code :: arg)

/-- SCHEDULE (R105). -/
def execSchedule (snd : Sender) (body : List Byte) (s : State) : Host.Outcome State Fault Refusal :=
  received s (sentTo s.node snd kSchedule body)

/-- TIME (R99), to the part or to all nodes. -/
def execTime (all : Bool) (snd : Sender) (body : List Byte) (s : State) : Host.Outcome State Fault Refusal :=
  received s (sentTo (if all then 255 else s.node) snd kTime body)

/-- MODE (R139). -/
def execMode (snd : Sender) (arg : List Byte) (s : State) : Host.Outcome State Fault Refusal :=
  received s (directiveFrame s.node snd 1 arg)

/-- TRIM (R112). -/
def execTrim (snd : Sender) (arg : List Byte) (s : State) : Host.Outcome State Fault Refusal :=
  received s (directiveFrame s.node snd 2 arg)

/-- SWAP (R169). -/
def execSwap (snd : Sender) (arg : List Byte) (s : State) : Host.Outcome State Fault Refusal :=
  received s (directiveFrame s.node snd 3 arg)

/-- CLEAR_LATCH (R19). -/
def execClearLatch (snd : Sender) (arg : List Byte) (s : State) : Host.Outcome State Fault Refusal :=
  received s (directiveFrame s.node snd 4 arg)

/-- TRAIN_AVAIL (R170). -/
def execTrainAvail (snd : Sender) (arg : List Byte) (s : State) : Host.Outcome State Fault Refusal :=
  received s (directiveFrame s.node snd 5 arg)

/-- RESET (R173). -/
def execReset (snd : Sender) (arg : List Byte) (s : State) : Host.Outcome State Fault Refusal :=
  received s (directiveFrame s.node snd 6 arg)

/-- POWER_ON_RESET (R166). -/
def execPowerOnReset (straps : Byte) (s : State) : Host.Outcome State Fault Refusal :=
  .next (s.powerOn straps)

/-- PIN_RESET (R166). -/
def execPinReset (straps : Byte) (s : State) : Host.Outcome State Fault Refusal :=
  .next (s.pinAsserted straps)

/-- RESET_PIN_RELEASE (R175). -/
def execResetPinRelease (s : State) : Host.Outcome State Fault Refusal :=
  .next s.pinReleased


end Sys2Proof.Machine
end

