-- ==== Sys2Proof/Machine/QueryCommands.lean ====
section
/-!
DEFINITION. The QUERY frames, by the record kind they name.
-/

namespace Sys2Proof.Machine

/-- A QUERY frame to the part: the record kind, then the bytes after it. -/
def queryFrame (node : Byte) (snd : Sender) (k : RecordKind) (index : List Byte) : Frame :=
  sentTo node snd kQuery (BitVec.ofNat 8 k.num :: index)

/-- QUERY_CHANNEL (R20). -/
def execQueryChannel (snd : Sender) (index : List Byte) (s : State) : Host.Outcome State Fault Refusal :=
  received s (queryFrame s.node snd .channel index)

/-- QUERY_CAVERN (R43). -/
def execQueryCavern (snd : Sender) (index : List Byte) (s : State) : Host.Outcome State Fault Refusal :=
  received s (queryFrame s.node snd .cavern index)

/-- QUERY_MANIFOLD (R43). -/
def execQueryManifold (snd : Sender) (index : List Byte) (s : State) : Host.Outcome State Fault Refusal :=
  received s (queryFrame s.node snd .manifold index)

/-- QUERY_STORE (R55). -/
def execQueryStore (snd : Sender) (index : List Byte) (s : State) : Host.Outcome State Fault Refusal :=
  received s (queryFrame s.node snd .store index)

/-- QUERY_TRAIN (R84). -/
def execQueryTrain (snd : Sender) (index : List Byte) (s : State) : Host.Outcome State Fault Refusal :=
  received s (queryFrame s.node snd .train index)

/-- QUERY_CONVERTER (R96). -/
def execQueryConverter (snd : Sender) (index : List Byte) (s : State) : Host.Outcome State Fault Refusal :=
  received s (queryFrame s.node snd .converter index)

/-- QUERY_SCHEDULE (R113). -/
def execQuerySchedule (snd : Sender) (index : List Byte) (s : State) : Host.Outcome State Fault Refusal :=
  received s (queryFrame s.node snd .schedule index)

/-- QUERY_COMPUTATION (R135). -/
def execQueryComputation (snd : Sender) (index : List Byte) (s : State) : Host.Outcome State Fault Refusal :=
  received s (queryFrame s.node snd .computation index)

/-- QUERY_RING (R164). -/
def execQueryRing (snd : Sender) (index : List Byte) (s : State) : Host.Outcome State Fault Refusal :=
  received s (queryFrame s.node snd .ring index)

/-- TRIP_CAPTURE (R181). -/
def execTripCapture (snd : Sender) (index : List Byte) (s : State) : Host.Outcome State Fault Refusal :=
  received s (queryFrame s.node snd .tripCapture index)

/-- QUERY_PLANT (R180). -/
def execQueryPlant (snd : Sender) (index : List Byte) (s : State) : Host.Outcome State Fault Refusal :=
  received s (queryFrame s.node snd .plant index)

/-- QUERY_DISPATCH_SET (R135). -/
def execQueryDispatchSet (snd : Sender) (index : List Byte) (s : State) : Host.Outcome State Fault Refusal :=
  received s (queryFrame s.node snd .dispatchSet index)


end Sys2Proof.Machine
end

