-- ==== Sys2Proof/Machine/TimerCommands.lean ====
section
/-!
DEFINITION. The expiries of the timers and the events of the plant time.
-/

namespace Sys2Proof.Machine

/-- FRESHNESS_EXPIRY (R10). -/
def execFreshnessExpiry (c : Fin 96) (s : State) : Host.Outcome State Fault Refusal :=
  .next (s.expiry (.freshness c))

/-- FALLBACK_EXPIRY (R16). -/
def execFallbackExpiry (s : State) : Host.Outcome State Fault Refusal :=
  .next (s.expiry .fallback)

/-- TRAVEL_TIMER_EXPIRY (R28). -/
def execTravelTimerExpiry (c : Fin 4) (s : State) : Host.Outcome State Fault Refusal :=
  .next (s.expiry (.travel c))

/-- DEADBAND_EXPIRY (R40). -/
def execDeadbandExpiry (s : State) : Host.Outcome State Fault Refusal :=
  .next (s.expiry .deadband)

/-- SEQUENCE_TIMER_EXPIRY (R76). -/
def execSequenceTimerExpiry (i : Fin 8) (s : State) : Host.Outcome State Fault Refusal :=
  .next (s.expiry (.sequence i))

/-- COOLDOWN_EXPIRY (R91). -/
def execCooldownExpiry (s : State) : Host.Outcome State Fault Refusal :=
  .next (s.expiry .cooldown)

/-- SERVICE_RETRY_EXPIRY (R92). -/
def execServiceRetryExpiry (s : State) : Host.Outcome State Fault Refusal :=
  .next (s.expiry .retry)

/-- MARK_TIMER_EXPIRY (R101). -/
def execMarkTimerExpiry (s : State) : Host.Outcome State Fault Refusal :=
  .next (s.expiry .mark)

/-- RETURN_WATCH_EXPIRY (R163). -/
def execReturnWatchExpiry (s : State) : Host.Outcome State Fault Refusal :=
  .next (s.expiry .watch)

/-- PERIOD_TIMER_EXPIRY (R172). -/
def execPeriodTimerExpiry (s : State) : Host.Outcome State Fault Refusal :=
  .next (s.expiry .period)

/-- EDIT_QUIET_EXPIRY (R172). -/
def execEditQuietExpiry (s : State) : Host.Outcome State Fault Refusal :=
  .next (s.expiry .quiet)

/-- BOUNDARY_EVENT (R109). -/
def execBoundaryEvent (s : State) : Host.Outcome State Fault Refusal :=
  .next (s.plantEvent s.boundaryAt [] [s.rampEndAt] State.boundary)

/-- END_OF_RAMP (R110). -/
def execEndOfRamp (s : State) : Host.Outcome State Fault Refusal :=
  .next (s.plantEvent s.rampEndAt [s.boundaryAt] [] State.judgeRamp)

/-- PLANT_TIME_LIMIT (R98): the plant time reaches its last millisecond and holds there. -/
def execPlantTimeLimit (s : State) : Host.Outcome State Fault Refusal :=
  .next (s.plantEvent s.limitAt [s.boundaryAt, s.rampEndAt] [] fun t => t)


end Sys2Proof.Machine
end

