-- ==== Sys2Proof/Machine/Dispatch.lean ====
section
/-!
DEFINITION. The meaning of every command, one arm for each row of the opcode table.
-/

namespace Sys2Proof.Machine

def exec (i : Instr) (s : State) : Host.Outcome State Fault Refusal :=
  match i with
  | .powerOnReset straps => Sys2Proof.Machine.execPowerOnReset straps s
  | .pinReset straps => Sys2Proof.Machine.execPinReset straps s
  | .frameDropped bytes => Sys2Proof.Machine.execFrameDropped bytes s
  | .strip dest kind flags seq body => Sys2Proof.Machine.execStrip dest kind flags seq body s
  | .sourceDrop all dest kind flags seq body => Sys2Proof.Machine.execSourceDrop all dest kind flags seq body s
  | .forwardFrame f => Sys2Proof.Machine.execForwardFrame f s
  | .unknownKind snd kind body => Sys2Proof.Machine.execUnknownKind snd kind body s
  | .sample h body => Sys2Proof.Machine.execSample h body s
  | .status h body => Sys2Proof.Machine.execStatus h body s
  | .start h tail => Sys2Proof.Machine.execStart h tail s
  | .abort h tail => Sys2Proof.Machine.execAbort h tail s
  | .load h tail => Sys2Proof.Machine.execLoad h tail s
  | .unload h tail => Sys2Proof.Machine.execUnload h tail s
  | .stop h tail => Sys2Proof.Machine.execStop h tail s
  | .setpoint h tail => Sys2Proof.Machine.execSetpoint h tail s
  | .trip h tail => Sys2Proof.Machine.execTrip h tail s
  | .enable h tail => Sys2Proof.Machine.execEnable h tail s
  | .disable h tail => Sys2Proof.Machine.execDisable h tail s
  | .tripReset h tail => Sys2Proof.Machine.execTripReset h tail s
  | .valveOpen h tail => Sys2Proof.Machine.execValveOpen h tail s
  | .valveClose h tail => Sys2Proof.Machine.execValveClose h tail s
  | .mismatchedOrder h body => Sys2Proof.Machine.execMismatchedOrder h body s
  | .broadcastOrder snd body => Sys2Proof.Machine.execBroadcastOrder snd body s
  | .plantTableWrite a => Sys2Proof.Machine.execPlantTableWrite a s
  | .dispatchWrite a => Sys2Proof.Machine.execDispatchWrite a s
  | .channelWrite a => Sys2Proof.Machine.execChannelWrite a s
  | .cavernWrite a => Sys2Proof.Machine.execCavernWrite a s
  | .storeWrite a => Sys2Proof.Machine.execStoreWrite a s
  | .trainWrite a => Sys2Proof.Machine.execTrainWrite a s
  | .checkWrite a => Sys2Proof.Machine.execCheckWrite a s
  | .schedule snd body => Sys2Proof.Machine.execSchedule snd body s
  | .time all snd body => Sys2Proof.Machine.execTime all snd body s
  | .mode snd arg => Sys2Proof.Machine.execMode snd arg s
  | .trim snd arg => Sys2Proof.Machine.execTrim snd arg s
  | .swap snd arg => Sys2Proof.Machine.execSwap snd arg s
  | .clearLatch snd arg => Sys2Proof.Machine.execClearLatch snd arg s
  | .trainAvail snd arg => Sys2Proof.Machine.execTrainAvail snd arg s
  | .reset snd arg => Sys2Proof.Machine.execReset snd arg s
  | .queryChannel snd index => Sys2Proof.Machine.execQueryChannel snd index s
  | .queryCavern snd index => Sys2Proof.Machine.execQueryCavern snd index s
  | .queryManifold snd index => Sys2Proof.Machine.execQueryManifold snd index s
  | .queryStore snd index => Sys2Proof.Machine.execQueryStore snd index s
  | .queryTrain snd index => Sys2Proof.Machine.execQueryTrain snd index s
  | .queryConverter snd index => Sys2Proof.Machine.execQueryConverter snd index s
  | .querySchedule snd index => Sys2Proof.Machine.execQuerySchedule snd index s
  | .queryComputation snd index => Sys2Proof.Machine.execQueryComputation snd index s
  | .queryRing snd index => Sys2Proof.Machine.execQueryRing snd index s
  | .tripCapture snd index => Sys2Proof.Machine.execTripCapture snd index s
  | .queryPlant snd index => Sys2Proof.Machine.execQueryPlant snd index s
  | .queryDispatchSet snd index => Sys2Proof.Machine.execQueryDispatchSet snd index s
  | .freshnessExpiry c => Sys2Proof.Machine.execFreshnessExpiry c s
  | .fallbackExpiry => Sys2Proof.Machine.execFallbackExpiry s
  | .travelTimerExpiry c => Sys2Proof.Machine.execTravelTimerExpiry c s
  | .deadbandExpiry => Sys2Proof.Machine.execDeadbandExpiry s
  | .sequenceTimerExpiry slot => Sys2Proof.Machine.execSequenceTimerExpiry slot s
  | .cooldownExpiry => Sys2Proof.Machine.execCooldownExpiry s
  | .serviceRetryExpiry => Sys2Proof.Machine.execServiceRetryExpiry s
  | .markTimerExpiry => Sys2Proof.Machine.execMarkTimerExpiry s
  | .boundaryEvent => Sys2Proof.Machine.execBoundaryEvent s
  | .endOfRamp => Sys2Proof.Machine.execEndOfRamp s
  | .plantTimeLimit => Sys2Proof.Machine.execPlantTimeLimit s
  | .returnWatchExpiry => Sys2Proof.Machine.execReturnWatchExpiry s
  | .periodTimerExpiry => Sys2Proof.Machine.execPeriodTimerExpiry s
  | .editQuietExpiry => Sys2Proof.Machine.execEditQuietExpiry s
  | .sendingEnd => Sys2Proof.Machine.execSendingEnd s
  | .consumedWithoutAnswer report snd body => Sys2Proof.Machine.execConsumedWithoutAnswer report snd body s
  | .resetPinRelease => Sys2Proof.Machine.execResetPinRelease s

end Sys2Proof.Machine
end

