-- ==== Sys2Proof/Safety.lean ====
section
/-!
DEFINITION. The terms the statements use: when a part takes a frame, what an own report may touch, and the
invariants that every step keeps, each with the rule it is read from.
-/

namespace Sys2Proof.Machine

/-! ## Taking frames -/

/-- The part is neither held in reset nor PASSIVE. -/
def State.listens (s : State) : Prop := s.held = false ∧ s.passive = false

/-- A source that is neither the part itself nor a number no node has (R156). -/
def State.foreign (s : State) (src : Byte) : Prop := src ≠ s.node ∧ src ≠ 0 ∧ src ≠ 255

/-- A management frame of this source is accepted (R156, R157). -/
def State.mayCommand (s : State) (src : Byte) : Prop := s.listens ∧ s.foreign src ∧ s.accepts src = true

/-- A frame with this header passes the part on its way to another node (R156). -/
def State.passes (s : State) (h : Passing) : Prop := s.listens ∧ s.foreign h.src ∧ h.dest ≠ s.node

/-- The node number is that of no train slot and of no cavern. -/
def State.unknownNode (s : State) (node : Nat) : Prop := s.trainAt node = none ∧ s.cavernAt node = none

/-- The node number is that of the train slot `i` and of no cavern. -/
def State.trainNode (s : State) (node : Nat) (i : Fin 8) : Prop := s.trainAt node = some i ∧ s.cavernAt node = none

/-- The node number is that of the cavern `c` and of no train slot. -/
def State.valveNode (s : State) (node : Nat) (c : Fin 4) : Prop := s.trainAt node = none ∧ s.cavernAt node = some c

/-- An order to one node, with all its bytes, that passes the part (sections 8.3, 11.2). -/
def State.ordered (s : State) (h : Passing) (tail : List Byte) : Prop :=
  s.passes h ∧ h.dest ≠ 255 ∧ 4 ≤ tail.length ∧ tail.length ≤ 243

/-- The command that an ORDER frame with a given order code is. -/
def Order.command (h : Passing) (tail : List Byte) : Order → Instr
  | .start => .start h tail
  | .abort => .abort h tail
  | .load => .load h tail
  | .unload => .unload h tail
  | .stop => .stop h tail
  | .setpoint => .setpoint h tail
  | .trip => .trip h tail
  | .enable => .enable h tail
  | .disable => .disable h tail
  | .tripReset => .tripReset h tail
  | .valveOpen => .valveOpen h tail
  | .valveClose => .valveClose h tail

/-- The command that a TABLE frame of a table is. -/
def TableId.command (a : TableArrival) : TableId → Instr
  | .plant => .plantTableWrite a
  | .dispatch => .dispatchWrite a
  | .channel => .channelWrite a
  | .cavern => .cavernWrite a
  | .store => .storeWrite a
  | .train => .trainWrite a
  | .check => .checkWrite a

/-- The command that a QUERY frame of a record kind is. -/
def RecordKind.command (snd : Sender) (index : List Byte) : RecordKind → Instr
  | .channel => .queryChannel snd index
  | .cavern => .queryCavern snd index
  | .manifold => .queryManifold snd index
  | .store => .queryStore snd index
  | .train => .queryTrain snd index
  | .converter => .queryConverter snd index
  | .schedule => .querySchedule snd index
  | .computation => .queryComputation snd index
  | .ring => .queryRing snd index
  | .tripCapture => .tripCapture snd index
  | .plant => .queryPlant snd index
  | .dispatchSet => .queryDispatchSet snd index

/-- The command that a timer's expiry is. -/
def Timer.command : Timer → Instr
  | .freshness c => .freshnessExpiry c
  | .fallback => .fallbackExpiry
  | .travel c => .travelTimerExpiry c
  | .deadband => .deadbandExpiry
  | .sequence i => .sequenceTimerExpiry i
  | .cooldown => .cooldownExpiry
  | .retry => .serviceRetryExpiry
  | .mark => .markTimerExpiry
  | .watch => .returnWatchExpiry
  | .quiet => .editQuietExpiry
  | .period => .periodTimerExpiry

/-- The state once a frame is counted as received and consumed (R155, R156). -/
def State.heard (s : State) : State :=
  { s with ring := { s.ring with received := s.ring.received + 1, consumed := s.ring.consumed + 1 } }

/-- The state once a frame is counted as received and withheld (R155, R151). -/
def State.blocked (s : State) : State :=
  { s with ring := { s.ring with received := s.ring.received + 1, withheld := s.ring.withheld + 1 } }

/-- The state once a frame is counted as received and joins the forward queue, which has room (R155, R159). -/
def State.passedOn (s : State) (f : Frame) : State := s.countReceived.enqueue f

/-! ## What an own report may touch -/

/-- A port that sends nothing has nothing to send (R160). -/
def State.portSound (s : State) : Prop :=
  s.ring.sending = none → s.ring.forward = [] ∧ s.ring.orders = [] ∧ s.rep.queue = []

/-- `t` is `s` but for reports: the report queue and its counts, and on the ring the port, the run count, the return
list with its watch and the own sequence number. -/
def ReportsOnly (s t : State) : Prop :=
  ∃ (g : Option Sent) (run : Nat) (q : SeqNo) (l : List Return) (w : Option Nat) (p : Reports),
    t = { s with ring := { s.ring with sending := g, run := run, seqNo := q, returns := l, watch := w }, rep := p }

/-- `t` is `s` but for the report queue with its counts, and for what leaves on the ring: every queue and count of the
Ring Interface may differ, its continuity state may not. -/
def RingOnly (s t : State) : Prop := ∃ r p, t = { s with ring := r, rep := p } ∧ r.continuity = s.ring.continuity

/-- `t` is `s` but for own frames: what `ReportsOnly` leaves open, and the order queue. -/
def OwnFramesOnly (s t : State) : Prop :=
  ∃ (g : Option Sent) (run : Nat) (q : SeqNo) (l : List Return) (w : Option Nat) (os : List OwnOrder) (p : Reports),
    t = { s with ring := { s.ring with sending := g, run := run, seqNo := q, returns := l, watch := w, orders := os }, rep := p }

/-- The own orders that have not left yet, in the order in which they leave: the one being sent, if the port sends an order,
and the order queue (section 9.3, R160). -/
def State.ownOrders (s : State) : List OwnOrder :=
  (match s.ring.sending with
    | some (.order _ o) => [o]
    | _ => []) ++ s.ring.orders

/-- A cavern once isolation (R34) and then reopening (R36) have been evaluated for it with a pressure quality, a manifold
state and a mode at an instant, where every order finds room: a cavern whose factor for the direction of flow is 0 is
closed with the mark of that direction, and one marked for the other direction is opened in AUTO. -/
def Cavern.answered (x : Cavern) (q : Quality) (m : ManifoldState) (auto : Bool) (now : Nat) : Cavern :=
  match m.flow with
  | none => x
  | some d =>
    let travel := some (now + x.p.travel * 1000)
    let shut : Cavern := { x with valve := .closing, timer := travel, mark := d.mark }
    let atLimit := x.factor d == 0 && q != .none
    if x.p.present = false then x
    else if x.mark = .none then if (x.valve = .opened ∨ x.valve = .opening) ∧ atLimit then shut else x
    else if auto ∧ x.mark ≠ d.mark ∧ (x.valve = .closed ∨ x.valve = .unknown) then
      if atLimit then shut else { x with valve := .opening, timer := travel, mark := .none }
    else x

/-- The command queue, the reset pin, the node number, the time base and the stop candidate with the demand figures are as
they were. -/
def State.abides (s t : State) : Prop :=
  t.pending = s.pending ∧ t.held = s.held ∧ t.node = s.node ∧ t.now = s.now ∧ t.commit = s.commit

/-! ## Invariants -/

/-- R164: what was received is accounted for, modulo 2^32. -/
def State.ringConserved (s : State) : Prop :=
  s.ring.received = s.ring.forwarded + s.ring.consumed + s.ring.stripped + s.ring.dropped + s.ring.withheld
    + BitVec.ofNat 32 s.ring.forward.length

/-- R159, section 9.3, R177, R161, R160, R81: no queue and no trip capture stack outgrows its places. -/
structure State.queuesBounded (s : State) : Prop where
  forward : s.ring.forward.length ≤ 24
  orders : s.ring.orders.length ≤ 16
  reports : s.rep.queue.length ≤ 48
  notices : s.rep.noticeCount ≤ 44
  returns : s.ring.returns.length ≤ 64
  run : s.ring.run ≤ 8
  captures : ∀ i, (s.train i).stack.length ≤ 2

/-- R104: at most 192 entries, strictly ascending, none for an interval whose start the plant clock has passed. -/
structure State.scheduleOrdered (s : State) : Prop where
  size : s.sched.table.length ≤ 192
  ascending : s.sched.table.Pairwise fun a b => a.interval < b.interval
  ahead : s.clock.state ≠ .invalid → ∀ e ∈ s.sched.table, s.interval < e.interval

/-- R1: no two present channels hold one key. -/
def State.tapMapUnique (s : State) : Prop :=
  ∀ c d : Fin 96, (s.chan c).present = true → (s.chan d).present = true →
    (s.chan c).p.source = (s.chan d).p.source → (s.chan c).p.slot = (s.chan d).p.slot → c = d

/-- R139, R140: AUTO only without a hold cause, HOLD only with one, neither with an INVALID clock; and the causes are
those their blocks report. -/
structure State.modeSound (s : State) : Prop where
  auto : s.mode.mode = .auto → s.mode.clear = true
  hold : s.mode.mode = .hold → s.mode.clear = false
  clock : s.mode.mode.dispatches = true → s.clock.state ≠ .invalid
  config : s.mode.config = (s.mgr.check == .mismatch)
  ringOpen : s.mode.ringOpen = (s.ring.continuity == .ringOpen)
  unsynced : s.mode.unsynced = (s.clock.state == .unsynced)

/-- R88, R90: BUSY for the slot that starts and for no other, and the start queue holds the waiting slots, once each. -/
structure State.converterSound (s : State) : Prop where
  busy : ∀ i, s.conv.state = .busy i ↔ (s.train i).isIn .starting = true
  once : s.conv.queue.Nodup
  waiting : ∀ i, i ∈ s.conv.queue ↔ (s.train i).isIn .startWait = true

/-- R38: the manifold flows in the direction of every train in LOADING or LOADED. -/
def State.manifoldFollows (s : State) : Prop :=
  ∀ i, ((s.train i).isIn .loading = true ∨ (s.train i).isIn .loaded = true) →
    s.manifold.state.flow = (s.train i).p.kind.dir

/-- R34 to R36: a cavern that carries an isolation mark is neither OPEN nor OPENING. -/
def State.marksSound (s : State) : Prop :=
  ∀ c, (s.cavern c).mark ≠ .none → (s.cavern c).valve ≠ .opened ∧ (s.cavern c).valve ≠ .opening

/-- A per-mille factor (section 1.6.3). -/
def isFactor (x : Int) : Prop := 0 ≤ x ∧ x ≤ 1000

/-- R29, R52: every factor lies from 0 to 1000. -/
structure State.factorsBounded (s : State) : Prop where
  caverns : ∀ c, isFactor (s.cavern c).gen ∧ isFactor (s.cavern c).absorb
  stores : ∀ m, isFactor (s.store m).gen ∧ isFactor (s.store m).absorb

/-- R2, R23, R47, R59, R168, R169: the fields of every table in force pass the checks of a write. -/
structure State.tablesInRange (s : State) : Prop where
  plant : plantParams s.plant.toWords = some s.plant
  active : dispatchParams s.disp.active.toWords = some s.disp.active
  next : dispatchParams s.disp.next.toWords = some s.disp.next
  chans : ∀ c, (s.chan c).present = true → chanParams (s.chan c).p.toWords = some (s.chan c).p
  caverns : ∀ c, (s.cavern c).p.present = true → cavernParams (s.cavern c).p.toWords = some (s.cavern c).p
  stores : ∀ m, (s.store m).p.present = true → storeParams (s.store m).p.toWords = some (s.store m).p
  trains : ∀ i, (s.train i).present = true → trainParams (s.train i).p.toWords = some (s.train i).p

/-- What R7 and R8 keep of a channel: its range, its window and its values. -/
structure Channel.inRange (c : Channel) : Prop where
  range : c.p.rangeLow ≤ c.p.rangeHigh
  length : 1 ≤ c.p.length
  window : c.window.length ≤ c.p.length ∧ ∀ v ∈ c.window, c.p.rangeLow ≤ v ∧ v ≤ c.p.rangeHigh
  inst : c.p.rangeLow ≤ c.inst ∧ c.inst ≤ c.p.rangeHigh
  avg : c.p.rangeLow ≤ c.avg ∧ c.avg ≤ c.p.rangeHigh

/-- R7, R8: every present channel is in range. -/
def State.channelsInRange (s : State) : Prop := ∀ c, (s.chan c).present = true → (s.chan c).inRange

/-- R66, R129: the setpoint and the track of a loaded train lie from P_min to P_max, and are 0 for any other. -/
def State.setpointsInRange (s : State) : Prop :=
  ∀ i,
    if (s.train i).isIn .loaded then
      ((s.train i).p.pMin ≤ (s.train i).setpoint ∧ (s.train i).setpoint ≤ (s.train i).p.pMax)
        ∧ (s.train i).p.pMin ≤ s.disp.tracks.get i ∧ s.disp.tracks.get i ≤ (s.train i).p.pMax
    else (s.train i).setpoint = 0 ∧ s.disp.tracks.get i = 0

end Sys2Proof.Machine
end

