-- ==== Sys2Proof/Certificates/Slice0/Obligations.lean ====
section
/-!
DEFINITION. The statements for the provers. The terms they use beyond the model's own stand in Sys2Proof/Safety.lean.
-/

open Sys2Proof Sys2Proof.Machine

/-! ## The machine as a whole -/

/-- A step runs the command at the front of the queue on everything else. -/
def Obligations.StepRunsFront : Prop :=
  ∀ (c : Instr) (rest : List Instr) (s : State), step { s with pending := c :: rest } = exec c { s with pending := rest }

/-- No command stops the part, and none touches the queue of waiting commands (INVENTORY.md, Faults). -/
def Obligations.EveryCommandCompletes : Prop :=
  ∀ (c : Instr) (s : State), ∃ t, exec c s = .next t ∧ t.pending = s.pending

/-- The model's choice (log 1): with no command waiting and nothing due, a step lets one millisecond pass, and with it the
plant time while the clock runs (R98). A boundary, or else an end of ramp, that falls on that millisecond is taken as its
command takes it, and where deadlines have come the step takes the expiry of the first such timer (log 3) as its command
does. -/
def Obligations.IdleStepPassesTime : Prop :=
  ∀ s : State, s.pending = [] → s.held = false →
    (s.firstDue = none →
      (∀ (t : Timer) (d : Nat), s.deadline t = some d → s.now < d) ∧
      (s.boundaryAt ≠ some (s.now + 1) → s.rampEndAt ≠ some (s.now + 1) → step s = .next { s with
        now := s.now + 1
        clock := if s.clock.state = .invalid then s.clock
                 else { s.clock with plantMs := min (s.clock.plantMs + 1) 4294967295999 } }) ∧
      (s.boundaryAt = some (s.now + 1) → step s = exec .boundaryEvent s) ∧
      (s.boundaryAt ≠ some (s.now + 1) → s.rampEndAt = some (s.now + 1) → step s = exec .endOfRamp s)) ∧
    (∀ t : Timer, s.firstDue = some t → step s = exec t.command s ∧ ∃ d, s.deadline t = some d ∧ d ≤ s.now)

/-- Right after reset every invariant of Safety.lean holds, the reset of a POWER_ON with the straps at 1 (log 4). -/
def Obligations.ResetMeetsInvariants : Prop :=
  State.reset.ringConserved ∧ State.reset.queuesBounded ∧ State.reset.portSound ∧ State.reset.scheduleOrdered
    ∧ State.reset.tapMapUnique ∧ State.reset.modeSound ∧ State.reset.converterSound ∧ State.reset.manifoldFollows
    ∧ State.reset.marksSound ∧ State.reset.factorsBounded ∧ State.reset.tablesInRange
    ∧ State.reset.channelsInRange ∧ State.reset.setpointsInRange

/-- R164: the received count equals the sum of the others plus the frames in the forward queue, modulo 2^32. -/
def Obligations.CountsConserved : Prop :=
  ∀ s t : State, s.ringConserved → step s = .next t → t.ringConserved

/-- R159, section 9.3, R160, R161, R177, R81: every queue and every trip capture stack keeps within its places, and the
downstream port is never idle while a frame waits (R160). -/
def Obligations.QueuesAndPortStaySound : Prop :=
  (∀ s t : State, s.queuesBounded → step s = .next t → t.queuesBounded) ∧
  (∀ s t : State, s.portSound → step s = .next t → t.portSound)

/-- R104: the schedule table keeps its order and its size, and holds no interval that has begun. -/
def Obligations.ScheduleStaysOrdered : Prop :=
  ∀ s t : State, s.scheduleOrdered → step s = .next t → t.scheduleOrdered

/-- R1: the tap map never holds a key twice. -/
def Obligations.TapMapStaysUnique : Prop :=
  ∀ s t : State, s.tapMapUnique → step s = .next t → t.tapMapUnique

/-- R140: the mode is AUTO only while no hold cause is present and the clock is not INVALID; HOLD only with a cause. -/
def Obligations.ModeAnswersCauses : Prop :=
  ∀ s t : State, s.modeSound → step s = .next t → t.modeSound

/-- R88, R90: the converter is BUSY for the one train that starts, and a slot waits in the queue, once, exactly while its
train is in START_WAIT. -/
def Obligations.ConverterServesOne : Prop :=
  ∀ s t : State, s.converterSound → step s = .next t → t.converterSound

/-- R38: the manifold is CHARGE whenever a compressor, and DISCHARGE whenever an expander, is in LOADING or LOADED. R34 to
R36: an isolated cavern is neither OPEN nor OPENING. -/
def Obligations.ManifoldAndMarksStaySound : Prop :=
  (∀ s t : State, s.manifoldFollows → step s = .next t → t.manifoldFollows) ∧
  (∀ s t : State, s.marksSound → step s = .next t → t.marksSound)

/-- R29, R52: every factor of a cavern or a store stays from 0 to 1000. R7, R8: the values and the average of a present
channel lie within its range, and its window within its length. -/
def Obligations.FiguresStayInRange : Prop :=
  (∀ s t : State, s.factorsBounded → step s = .next t → t.factorsBounded) ∧
  (∀ s t : State, s.channelsInRange → step s = .next t → t.channelsInRange)

/-- R2, R23, R47, R59, R168, R169: no write, adoption or reset leaves a field of a table in force out of its range. -/
def Obligations.TablesStayInRange : Prop :=
  ∀ s t : State, s.tablesInRange → step s = .next t → t.tablesInRange

/-- R66, R130, R153: a loaded train's setpoint and its dispatch track lie from P_min to P_max; those of every other
train are 0. The invariants of the factors, the tables and the manifold are stated above. That a guarded SETPOINT goes no higher than
the slot's P_max, whatever the last record held: log 34. -/
def Obligations.SetpointsStayInRange : Prop :=
  ∀ s t : State, s.factorsBounded → s.tablesInRange → s.manifoldFollows → s.setpointsInRange → step s = .next t → t.setpointsInRange

/-! ## Encodings -/

/-- R155, sections 11.1 and 11.2: the bytes of a frame pass the checks and read back as the frame, the bytes that pass the
checks are those of the frame they read as, and an order of the part reads back as its code and value. -/
def Obligations.FramesRoundTrip : Prop :=
  (∀ f : Frame, f.body.length ≤ 244 → checkedFrame (frameBytes f) = some f) ∧
  (∀ (bs : List Byte) (f : Frame), checkedFrame bs = some f → frameBytes f = bs ∧ f.body.length ≤ 244) ∧
  (∀ (o : Order) (v : Int) (rest : List Byte), -2147483648 ≤ v → v ≤ 2147483647 →
    orderBody (orderBytes o v ++ rest) = some (BitVec.ofNat 8 o.num, v) ∧ Machine.orderOf (BitVec.ofNat 8 o.num) = some o)

/-- Sections 10.1 and 11.2: the fields taken from a table entry give back the words of the entry, in all six tables.
That a plant table word of class enables with a sixth bit is no entry: log 22. -/
def Obligations.TableWordsRoundTrip : Prop :=
  (∀ ws p, plantParams ws = some p → p.toWords = ws) ∧ (∀ ws p, dispatchParams ws = some p → p.toWords = ws) ∧
  (∀ ws p, chanParams ws = some p → p.toWords = ws) ∧ (∀ ws p, cavernParams ws = some p → p.toWords = ws) ∧
  (∀ ws p, storeParams ws = some p → p.toWords = ws) ∧ (∀ ws p, trainParams ws = some p → p.toWords = ws)

/-! ## The dispatch computation -/

/-- R120: inside a ramp window whose starting entry has its ramp flag set, the scheduled power is interpolated between the
two nets, from the first on, never turning back, and lies between them; at the first instant outside it is the net of the
entry in force. The look-ahead evaluates it at the start lead from now, held at the last millisecond. -/
def Obligations.RampInterpolates : Prop :=
  (∀ (before after : Int) (u v tb h : Nat), 0 < h → h ≤ tb → tb - h ≤ u → u ≤ v → v < tb + h →
    rampPower before after (tb - h) tb h = before ∧
    (before ≤ after → before ≤ rampPower before after u tb h ∧ rampPower before after u tb h ≤ rampPower before after v tb h
      ∧ rampPower before after v tb h ≤ after) ∧
    (after ≤ before → after ≤ rampPower before after v tb h ∧ rampPower before after v tb h ≤ rampPower before after u tb h
      ∧ rampPower before after u tb h ≤ before)) ∧
  (∀ (s : State) (j x : Nat), s.plant.rampHalf * 2 ≤ s.plant.interval →
    let l := s.plant.interval * 1000
    let h := s.plant.rampHalf * 1000
    let after := s.entryInForce j
    let before := if j = s.interval then (match s.sched.ending with | some e => e.1 | none => s.sched.active) else s.entryInForce (j - 1)
    let next := s.entryInForce (j + 1)
    (x < h → after.ramp = true →
      s.schedAt (j * l + x) = before.net + ((after.net - before.net) * (h + x : Nat)).tdiv (2 * h)) ∧
    (0 < x → x ≤ h → next.ramp = true →
      s.schedAt ((j + 1) * l - x) = after.net + ((next.net - after.net) * (h - x : Nat)).tdiv (2 * h)) ∧
    (h < l → s.schedAt (j * l + h) = after.net) ∧
    s.lookAhead = min (s.clock.plantMs + s.disp.active.startLead * 1000) 4294967295999)

/-- R121: no response inside the deadband, the whole band from the full deviation on, the share of the band between, against
the sign of the deviation. R130: a ramped value moves toward the share by at most the step, reaches it from within a step,
and never passes it; the step is at least 1 kW. -/
def Obligations.ResponseAndRampBounded : Prop :=
  (∀ (p : DispatchSet) (reserve fDev : Int), 0 ≤ p.deadband → p.deadband < p.fFull → 0 ≤ reserve →
    (magnitude fDev ≤ p.deadband → reserveResponse p reserve fDev = 0) ∧
    (p.deadband < magnitude fDev → magnitude fDev ≤ p.fFull →
      magnitude (reserveResponse p reserve fDev) = reserve * (magnitude fDev - p.deadband) / (p.fFull - p.deadband)) ∧
    (p.fFull ≤ magnitude fDev → magnitude (reserveResponse p reserve fDev) = reserve) ∧
    (fDev < 0 → 0 ≤ reserveResponse p reserve fDev) ∧ (0 < fDev → reserveResponse p reserve fDev ≤ 0)) ∧
  (∀ (track share ramp : Int) (dt : Nat), 0 ≤ ramp →
    1 ≤ rampStep ramp dt ∧ (1000 ≤ ramp * dt → rampStep ramp dt = ramp * dt / 1000) ∧
    (magnitude (share - track) ≤ rampStep ramp dt → ramped track share (rampStep ramp dt) = share) ∧
    (track < share → track < ramped track share (rampStep ramp dt) ∧ ramped track share (rampStep ramp dt) ≤ share) ∧
    (share < track → share ≤ ramped track share (rampStep ramp dt) ∧ ramped track share (rampStep ramp dt) < track) ∧
    magnitude (ramped track share (rampStep ramp dt) - track) ≤ rampStep ramp dt)

/-- R33, R122 to R127. The plant cavern factor is the least over the open caverns, 0 with none; the available maximum of a train
is its P_max times the lesser of that factor and its store's, per mille. The target a computation records is its request
clamped into the envelope of the loaded trains that do not starve, from the sum of their minimum loads to that of their available
maxima, and 0 when none take part or the manifold does not flow; under the no-increase condition its magnitude is held to the
previous target's, or to the sum of the minimum loads where that is larger, and it never leaves the envelope. The reserve-short
condition asks whether the envelope holds the scheduled power with the band on either side. The items of its notice: log 14. -/
def Obligations.TargetBounded : Prop :=
  (∀ (s : State) (d : Direction),
    let isOpen (c : Fin 4) : Prop := (s.cavern c).p.present = true ∧ (s.cavern c).valve = .opened
    let given (c : Fin 4) : Int := match d with | .discharge => (s.cavern c).gen | .charge => (s.cavern c).absorb
    ((∀ c, ¬ isOpen c) → s.plantFactor d = 0) ∧
    (∀ c, isOpen c → s.plantFactor d ≤ given c) ∧
    ((∃ c, isOpen c) → ∃ c, isOpen c ∧ s.plantFactor d = given c) ∧
    (∀ (i : Fin 8) (m : Fin 3), (s.train i).p.kind = d.kind → (s.train i).p.store = m.val →
      let x := s.store m
      let heat : Int := if x.p.present then (match d with | .discharge => x.gen | .charge => x.absorb) else 0
      s.availMax i = ((s.train i).p.pMax * min (s.plantFactor d) heat).tdiv 1000)) ∧
  (∀ (s : State) (k : TriggerKind) (f : Int), s.tablesInRange →
    let joins := slotNumbers.filter fun i => (s.train i).isIn .loaded && decide ((s.train i).p.pMin ≤ s.availMax i)
    let lo := sumOf (joins.map fun i => (s.train i).p.pMin)
    let hi := sumOf (joins.map s.availMax)
    let m := s.manifold.state
    let lim := max (magnitude s.disp.target) lo
    ∃ r, (s.compute k f).disp.last = some r ∧ magnitude r.target ≤ r.envMax ∧
      ((∀ x ∈ r.slots, ∀ y, x = some y → y.part = false) → r.target = 0) ∧
      (r.noIncrease = true → magnitude r.target ≤ max (magnitude s.disp.target) r.envMin) ∧
      (r.manifold = .discharge → 0 ≤ r.target) ∧ (r.manifold = .charge → r.target ≤ 0) ∧
      (r.manifold = .idle ∨ r.manifold = .changeover → r.target = 0) ∧
      r.manifold = m ∧ r.envMin = lo ∧ r.envMax = hi ∧ lo ≤ hi ∧
      r.sched = s.schedAt s.clock.plantMs ∧ r.reserve = s.sched.active.reserve ∧ r.trim = s.sched.trim ∧
      r.fcr = reserveResponse (if s.disp.swap then s.disp.next else s.disp.active) r.reserve f ∧
      r.req = sat32 (r.sched + r.fcr + r.trim) ∧
      (r.noIncrease = true ↔ s.mode.mode = .hold ∨ ∃ c, (s.cavern c).p.present = true ∧ (s.cavern c).valve = .opened ∧ (s.cavern c).hold = true) ∧
      (let bounded : Int := if joins = [] then 0 else match m with
          | .discharge => max lo (min hi r.req)
          | .charge => -(max lo (min hi (-r.req)))
          | _ => 0
        r.target = if r.noIncrease = false ∨ magnitude bounded ≤ lim then bounded else if bounded < 0 then -lim else lim) ∧
      (joins ≠ [] → m = .discharge → lo ≤ r.target ∧ r.target ≤ hi) ∧
      (joins ≠ [] → m = .charge → -hi ≤ r.target ∧ r.target ≤ -lo) ∧
      r.shortfall = sat32 (r.req - r.target) ∧
      (let env : Int × Int := if joins = [] then (0, 0) else match m with
          | .discharge => (lo, hi)
          | .charge => (-hi, -lo)
          | _ => (0, 0)
        (r.resShort = true ↔ 0 < r.reserve ∧ (r.sched - r.reserve < env.1 ∨ env.2 < r.sched + r.reserve))) ∧
      (s.compute k f).disp.resShort = r.resShort ∧
      (s.factorsBounded → ∀ i, (s.train i).isIn .loaded = true → 0 ≤ s.availMax i ∧ s.availMax i ≤ (s.train i).p.pMax)) ∧
  (∀ (s : State) (env : Int × Int) (sched reserve : Int),
    let now := decide (0 < reserve ∧ (sched - reserve < env.1 ∨ env.2 < sched + reserve))
    let held : State := { s with disp := { s.disp with resShort := now } }
    s.holdReserve env sched reserve =
      if now = s.disp.resShort then s
      else if now then held.notify .reserveShort .none [.fig s.disp.count.toNat, .fig sched, .fig reserve, .fig env.1, .fig env.2]
      else held.notify .reserveShortEnd .none [])

/-- R128: the shares sum to the magnitude exactly, and each lies from its train's P_min to its available maximum. -/
def Obligations.SharesPlaceTheTarget : Prop :=
  ∀ (m : Int) (ps : List Part), ps ≠ [] → (∀ p ∈ ps, p.lo ≤ p.hi) → minSum ps ≤ m → m ≤ maxSum ps →
    (shares m ps).map (·.1) = ps ∧ sumOf ((shares m ps).map (·.2)) = m ∧ ∀ x ∈ shares m ps, x.1.lo ≤ x.2 ∧ x.2 ≤ x.1.hi

/-- R128, R130 to R134, R82, R124: in AUTO and HOLD a computation takes the shares of its target, ramped, as the tracks of the
trains taking part; each whose change reaches the quantum is sent a SETPOINT while the order queue has room, then each starved
train an UNLOAD, in loading order (log 19), and the record counts the SETPOINTs not placed; no other order is placed and no
other train moves. In MANUAL nothing is ordered and only STARVED marks change. Commitment's figures stay as they were. -/
def Obligations.IssueStage : Prop :=
  ∀ (s : State) (k : TriggerKind) (f : Int), s.portSound →
    let t := s.compute k f
    (s.mode.mode = .auto ∨ s.mode.mode = .hold → ∃ r, t.disp.last = some r ∧
      let quantum := if s.disp.swap then s.disp.next.quantum else s.disp.active.quantum
      let vs := (shares (magnitude r.target) s.parts).map (s.rampedValue s.sinceLast)
      let due := vs.filter fun v => decide (quantum ≤ magnitude (v.2 - (s.train v.1).setpoint))
      let room := 16 - s.ring.orders.length
      let starved := (s.loadingOrder .expander ++ s.loadingOrder .compressor).filter fun i =>
        (s.train i).isIn .loaded && decide (s.availMax i < (s.train i).p.pMin)
      let unloaded := starved.take (room - due.length)
      let order (i : Fin 8) (o : Order) (v : Int) : OwnOrder := ⟨BitVec.ofNat 8 (s.train i).p.node, o, v⟩
      t.ownOrders = s.ownOrders ++ (due.take room).map (fun v => order v.1 .setpoint v.2) ++ unloaded.map (fun i => order i .unload 0) ∧
      r.unplaced = some (due.length - room) ∧
      r.deficit = some (sat32 (magnitude r.target - sumOf (vs.map (·.2)))) ∧
      (∀ v ∈ vs, t.disp.tracks.get v.1 = v.2 ∧
        t.train v.1 = { s.train v.1 with starved := false, setpoint := if v ∈ due.take room then v.2 else (s.train v.1).setpoint }) ∧
      (∀ i ∈ starved, t.train i = if i ∈ unloaded then
          { s.train i with
            state := .unloading, entry := s.now, timer := some (s.now + (s.train i).p.tUnload * 1000), setpoint := 0, starved := false }
        else { s.train i with starved := true }) ∧
      (∀ i, (s.train i).isIn .loaded = false → t.train i = s.train i ∧ t.disp.tracks.get i = s.disp.tracks.get i)) ∧
    (s.mode.mode = .manual → (∃ r, t.disp.last = some r ∧ r.unplaced = none ∧ r.deficit = none) ∧ t.ownOrders = s.ownOrders ∧
      t.disp.tracks = s.disp.tracks ∧ ∀ i, t.train i = { s.train i with
        starved := if (s.train i).isIn .loaded then decide (s.availMax i < (s.train i).p.pMin) else (s.train i).starved }) ∧
    t.commit = s.commit ∧ t.manifold = s.manifold ∧ t.conv = s.conv ∧ t.caverns = s.caverns ∧ t.chans = s.chans ∧
    t.stores = s.stores ∧ t.sched = s.sched ∧ t.clock = s.clock ∧ t.mode = s.mode ∧ t.plant = s.plant

/-! ## Commitment -/

/-- R116, R143, R144, R146, R53: a trigger is performed unless in OFF or without a clock, and commitment follows in AUTO alone.
A run while a train is UNKNOWN clears the stop candidate and nothing else, so that the demand figures of the last run that acted
stay (log 26). A run that acts forms the demand figures and takes
its steps in the order of R143; it moves a train only from LOADED to UNLOADING, from STANDBY to STARTING or START_WAIT, or
from IDLE_RUN to LOADING or STOPPING. The start step orders a START for the first STANDBY, AVAILABLE train of the desired kind
in loading order, when the demand exceeds the capacity and none is starting. The order of effects and the items of notices:
logs 11, 14, 40 and 45. -/
def Obligations.CommitmentRun : Prop :=
  (∀ (s : State) (k : TriggerKind) (f : Int),
    (s.mode.mode = .off ∨ s.clock.state = .invalid → s.trigger k f = s) ∧
    (s.mode.mode ≠ .off → s.clock.state ≠ .invalid → s.mode.mode ≠ .auto → s.trigger k f = s.compute k f) ∧
    (s.mode.mode = .auto → s.clock.state ≠ .invalid →
      ∃ r, (s.compute k f).disp.last = some r ∧ s.trigger k f = (s.compute k f).commitmentRun r.req)) ∧
  (∀ (s : State) (req : Int),
    let unknown := ∃ i, (s.train i).isIn .unknown = true
    let t := s.commitmentRun req
    (unknown → t = { s with commit := { s.commit with stop := none } }) ∧
    (¬ unknown →
      let ahead := s.schedAt s.lookAhead
      let power := if magnitude ahead ≤ magnitude req then req else ahead
      let desired : Option Direction := if s.disp.active.dirThreshold < power then some .discharge
        else if power < -s.disp.active.dirThreshold then some .charge else none
      let capacity (l : List TrainState) : Int := match desired with
        | none => 0
        | some d => sumOf ((slotNumbers.filter fun i =>
            (s.train i).present && (s.train i).p.kind == d.kind && l.contains (s.train i).state).map fun i => (s.train i).p.pMax)
      let f : Demand := ⟨ahead, power, magnitude power + (if s.disp.resShort then s.sched.active.reserve else 0), desired,
        capacity [.startWait, .starting, .idleRun, .loading, .loaded], capacity [.loading, .loaded]⟩
      let x := ((State.reversalStep { s with commit := { s.commit with figures := some f } } f).startStep f).loadStep f
      t = (x.1.stopStep f).idleStep f x.2 ∧ t.commit.figures = some f) ∧
    (∀ i, let a := (s.train i).state
      let b := (t.train i).state
      b = a ∨ (a, b) ∈ [(TrainState.loaded, TrainState.unloading), (.standby, .starting), (.standby, .startWait), (.idleRun, .loading),
        (.idleRun, .stopping)]) ∧
    t.chans = s.chans ∧ t.stores = s.stores ∧ t.grid = s.grid ∧ t.clock = s.clock ∧ t.sched = s.sched ∧ t.plant = s.plant ∧
    t.mode = s.mode ∧ t.mgr = s.mgr ∧ t.now = s.now ∧ t.disp.last = s.disp.last ∧ t.disp.active = s.disp.active) ∧
  (∀ (s : State) (f : Demand),
    (f.desired = none → s.startStep f = s) ∧
    (∀ d, f.desired = some d →
      let more := (f.c * s.disp.active.startPm).tdiv 1000 < f.demand
      let waiting := ∃ j, (s.train j).p.kind = d.kind ∧ ((s.train j).state = .startWait ∨ (s.train j).state = .starting)
      let ready (j : Fin 8) : Prop := (s.train j).state = .standby ∧ (s.train j).available = true
      (¬ more ∨ waiting ∨ (∀ j ∈ s.loadingOrder d.kind, ¬ ready j) → s.startStep f = s) ∧
      (more → ¬ waiting → ∀ before i after, s.loadingOrder d.kind = before ++ i :: after → ready i → (∀ j ∈ before, ¬ ready j) →
        let x := s.train i
        let cold := x.p.kind = .expander ∧ s.storeFactor x .discharge = 0
        let taken (u : State) (st : TrainState) (timer : Option Nat) (v : Converter) : State := State.trainNotice
          { (u.setTrain i { x with state := st, entry := s.now, timer := timer, setpoint := 0 }).setTrack i 0 with conv := v }
          i (.code 2) (.code st.num) .order
        let free := s.conv.state = .free ∧ s.conv.queue = []
        (cold → s.startStep f = s.notify .heatLow (.train i) [.fig i.val, .fig x.p.store]) ∧
        (¬ cold → free → s.ring.orders.length < 16 → s.startStep f = taken (s.place x.p.node .start 0) .starting
          (some (s.now + x.p.tStart * 1000)) { s.conv with state := .busy i, starts := s.conv.starts + 1, retry := none }) ∧
        (¬ cold → free → 16 ≤ s.ring.orders.length → s.startStep f = s.notify .queueFull (.train i) [.fig i.val, .code 1]) ∧
        (¬ cold → ¬ free → s.startStep f = (taken s .startWait none { s.conv with queue := s.conv.queue ++ [i] }).notify
          .startQueued (.train i) [.fig i.val, .fig (s.conv.queue.length + 1), .code s.conv.state.num, .code 0]))))

/-- R145, R147 to R150, R62: the reversal step orders an UNLOAD for every LOADED train of a direction that is not desired, the
load step a LOAD for the IDLE_RUN trains of the desired kind in turn while the demand exceeds what flows, the stop step an
UNLOAD for its candidate once the stop condition has stood for the stop delay, and the idle step a STOP for every train that
idled for the idle limit without need; GRID_DEV_SEEN suspends the last two. An order that finds the queue full moves nothing.
The order of effects and the items of notices: logs 11 and 14; no direction is
remembered once one is entered: log 43. -/
def Obligations.CommitmentMoves : Prop :=
  ∀ (s : State) (f : Demand),
    let order (i : Fin 8) (o : Order) : OwnOrder := ⟨BitVec.ofNat 8 (s.train i).p.node, o, 0⟩
    let room := 16 - s.ring.orders.length
    let clear : State := { s with commit := { s.commit with stop := none } }
    let moved (i : Fin 8) (st : TrainState) (seconds : Nat) : Train := { s.train i with
      state := st, entry := s.now, timer := some (s.now + seconds * 1000), setpoint := 0
      starved := (s.train i).starved && (s.train i).state != .loaded }
    let placed (i : Fin 8) (o : Order) (y : Train) : State := State.trainNotice
      (((s.place (s.train i).p.node o 0).setTrain i y).setTrack i 0) i (.code (s.train i).state.num) (.code y.state.num) .order
    let full (u : State) (i : Fin 8) (o : Order) : State := u.notify .queueFull (.train i) [.fig i.val, .code o.num]
    (s.manifold.state.flow = none ∨ s.manifold.state.flow = f.desired → s.reversalStep f = s) ∧
    (∀ d : Direction, s.manifold.state = d.state → f.desired ≠ some d → s.portSound →
      let t := s.reversalStep f
      let l := ((s.loadingOrder d.kind).filter fun i => (s.train i).isIn .loaded).take room
      t.ownOrders = s.ownOrders ++ l.map (order · .unload) ∧
      (∀ i, t.train i = if i ∈ l then moved i .unloading (s.train i).p.tUnload else s.train i) ∧
      OwnFramesOnly { s with trains := t.trains, disp := { s.disp with tracks := t.disp.tracks } } t) ∧
    (f.desired = none → s.loadStep f = (s, f.cFlow)) ∧
    (∀ d : Direction, f.desired = some d → (∀ i, (s.train i).isIn .unknown = false) →
      let admits := s.manifold.state = .idle ∨ s.manifold.state = d.state ∨ (s.manifold.state = .changeover ∧ s.manifold.remembered = some d)
      let more := (f.cFlow * s.disp.active.startPm).tdiv 1000 < f.demand
      let idle := (s.loadingOrder d.kind).filter fun i => (s.train i).isIn .idleRun
      (¬ admits ∨ ¬ more ∨ idle = [] → s.loadStep f = (s, f.cFlow)) ∧
      (admits → more → s.portSound → 16 ≤ s.ring.orders.length → s.loadStep f = (idle.foldl (full · · .load) s, f.cFlow)) ∧
      (admits → more → s.ring.orders.length < 16 → ∀ i rest, idle = i :: rest →
        let u := placed i .load (moved i .loading (s.train i).p.tLoad)
        let v := if s.manifold.state = d.state then u else u.manifoldTo ⟨d.state, none, none⟩
        s.loadStep f = v.loadStep { f with cFlow := f.cFlow + (s.train i).p.pMax })) ∧
    (s.grid.seen = true ∨ f.desired = none ∨ f.desired ≠ s.manifold.state.flow → s.stopStep f = clear) ∧
    (∀ d : Direction, s.grid.seen = false → f.desired = some d → s.manifold.state = d.state →
        ((∀ i ∈ s.loadingOrder d.kind, (s.train i).isIn .loaded = false) → s.stopStep f = clear) ∧
        (∀ before i after, s.loadingOrder d.kind = before ++ i :: after → (s.train i).isIn .loaded = true →
          (∀ j ∈ after, (s.train j).isIn .loaded = false) →
          let less := f.demand < ((f.c - (s.train i).p.pMax) * s.disp.active.stopPm).tdiv 1000
          let since := match s.commit.stop with
            | none => s.now
            | some x => if x.1 = i then x.2 else s.now
          let held : State := { s with commit := { s.commit with stop := some (i, since) } }
          let lapsed := since + s.disp.active.stopDelay * 1000 ≤ s.now
          (¬ less → s.stopStep f = clear) ∧
          (less → ¬ lapsed → s.stopStep f = held) ∧
          (less → lapsed → s.ring.orders.length < 16 → s.stopStep f =
            { placed i .unload (moved i .unloading (s.train i).p.tUnload) with commit := clear.commit }) ∧
          (less → lapsed → 16 ≤ s.ring.orders.length → s.stopStep f = full held i .unload))) ∧
    (∀ cFlow : Int,
      let t := s.idleStep f cFlow
      let need (i : Fin 8) : Prop := (∃ d, f.desired = some d ∧ (s.train i).p.kind = d.kind) ∧
        (cFlow * s.disp.active.startPm).tdiv 1000 < f.demand
      (s.grid.seen = true → t = s) ∧
      (s.grid.seen = false → s.portSound → ∃ l : List (Fin 8), l.Sublist slotNumbers ∧ l.length ≤ room ∧
        (∀ i ∈ l, (s.train i).isIn .idleRun = true ∧ ¬ need i ∧ (s.train i).entry + s.disp.active.idleLimit * 1000 ≤ s.now) ∧
        (l.length < room → ∀ i, (s.train i).isIn .idleRun = true → ¬ need i →
          (s.train i).entry + s.disp.active.idleLimit * 1000 ≤ s.now → i ∈ l) ∧
        t.ownOrders = s.ownOrders ++ l.map (order · .stop) ∧
        (∀ i, t.train i = if i ∈ l then moved i .stopping (s.train i).p.tStop else s.train i) ∧
        OwnFramesOnly { s with trains := t.trains, disp := { s.disp with tracks := t.disp.tracks } } t))

/-! ## Resets -/

/-- Section 1.9, 2.9, 3.8, 4.11, 5.9, 6.9, 7.13, 9.7, 10.4: what a POWER_ON, PIN or COLD reset makes of every block.
The deadlines count from a time base that stands at 0 (log 6). -/
def Obligations.ResetValues : Prop :=
  ∀ (node : Byte) (k : ResetKind) (b : Option (Byte × SeqNo)),
    let u := State.unconfigured node k b
    u.node = node ∧ u.plant = PlantTable.default' ∧ u.mgr.resetBy = ⟨k, b⟩ ∧ u.mgr.checkWord = 0 ∧ u.mgr.check = .unchecked ∧
    u.mgr.lastSum = none ∧ u.mgr.quiet = none ∧ u.mgr.periodTimer = some 2000 ∧
    (∀ c, (u.chan c).present = false ∧ (u.chan c).quality = .none ∧ (u.chan c).window = [] ∧ (u.chan c).timer = none ∧
      (u.chan c).accepted = 0 ∧ (u.chan c).invalid = 0) ∧
    (∀ c, (u.cavern c).p.present = false ∧ (u.cavern c).valve = .unknown ∧ (u.cavern c).mark = .none ∧
      (u.cavern c).hold = false ∧ (u.cavern c).gen = 0 ∧ (u.cavern c).absorb = 0) ∧
    (∀ m, (u.store m).p.present = false ∧ (u.store m).energy = 0 ∧ (u.store m).quality = .unavailable ∧ (u.store m).gen = 0 ∧
      (u.store m).absorb = 0) ∧
    (∀ i, (u.train i).present = false ∧ (u.train i).stack = [] ∧ (u.train i).overrun = false) ∧
    u.manifold = ⟨.idle, none, none⟩ ∧ u.conv = ⟨.free, [], none, none, 0, 0⟩ ∧ u.clock = ⟨.invalid, 0, none⟩ ∧
    u.sched.table = [] ∧ u.sched.ending = none ∧ u.sched.trim = 0 ∧ u.sched.active.tag = .fallback ∧
    u.mode = ⟨.off, false, false, false⟩ ∧ u.disp.active = DispatchSet.default' ∧ u.disp.next = DispatchSet.default' ∧
    u.disp.swap = false ∧ u.disp.last = none ∧ u.disp.count = 0 ∧ u.commit.stop = none ∧
    u.grid.tracking = false ∧ u.grid.timer = some 500 ∧ u.grid.dev = false ∧ u.grid.seen = false ∧
    u.ring.forward = [] ∧ u.ring.orders = [] ∧ u.rep.queue = [] ∧ u.ring.run = 0 ∧ u.ring.returns = [] ∧ u.ring.watch = none ∧
    u.ring.continuity = .undetermined ∧ u.ring.received = 0 ∧ u.ring.forwarded = 0 ∧ u.ring.consumed = 0 ∧
    u.ring.stripped = 0 ∧ u.ring.dropped = 0 ∧ u.ring.withheld = 0 ∧
    u.rep.lostNotice = 0 ∧ u.rep.lostAnswer = 0 ∧ u.rep.declined = 0 ∧ u.rep.suppressed = false

/-- R166, R175: POWER_ON reads the straps and leaves every block unconfigured; a part that is not PASSIVE sends the
STARTED notice at once, with own sequence number 0, and awaits its return. The notice's items: log 14; its hold causes as one
byte: log 49; the code of UNCHECKED: log 15; the time base at 0: log 6; State.reset with straps that read 1: log 4. -/
def Obligations.PowerOnReset : Prop :=
  ∀ (s : State) (straps : Byte), ∃ t, exec (.powerOnReset straps) s = .next t ∧
    ReportsOnly { State.unconfigured straps .powerOn none with pending := s.pending } t ∧
    (straps = 0 ∨ straps = 255 → t = { State.unconfigured straps .powerOn none with pending := s.pending }) ∧
    (straps ≠ 0 → straps ≠ 255 →
      t.rep.queue = [] ∧ t.ring.seqNo = 1 ∧ t.ring.returns = [⟨0, kReport, 0⟩] ∧ t.ring.watch = some 100 ∧
      t.ring.sending = some (.report 0 ⟨255, .notice ⟨.started, .config, .none, 0, 0, 0,
        [.code 0, .none, .none, .fig straps.toNat, .code 0, .code 0, .code 0, .code 0]⟩⟩)) ∧
    (straps = 1 → t = { State.reset with pending := s.pending })

/-- R166, R175: PIN_RESET reads the straps and leaves every block unconfigured. By the model's choice (log 5) a part held in
reset does nothing until another reset or the release, and the release ends the reset with the STARTED notice and the time
base at 0 (log 6). -/
def Obligations.PinReset : Prop :=
  (∀ (s : State) (straps : Byte), exec (.pinReset straps) s =
    .next { State.unconfigured straps .pin none with pending := s.pending, held := true }) ∧
  (∀ (s : State) (c : Instr), s.held = true → s.mgr.work = none → s.ring.sending = none → c ≠ .resetPinRelease →
    (∀ x, c ≠ .powerOnReset x ∧ c ≠ .pinReset x) → exec c s = .next s) ∧
  (∀ s : State, s.held = false → exec .resetPinRelease s = .next s) ∧
  (∀ s : State, s.held = true → s.portSound → s.passive = false → ∃ t, exec .resetPinRelease s = .next t ∧
    ReportsOnly { s with held := false, now := 0 } t ∧
    (s.rep.queue = [] → s.ring.sending = none → s.rep.lostNotice = 0 → ∃ n, t.ring.sending = some (.report s.ring.seqNo ⟨s.noticeDest, .notice n⟩) ∧
      n.name = .started ∧ n.cls = .config ∧ n.lost = 0))

/-- R173, R166, R175: a RESET directive of kind COLD leaves every block unconfigured but for the node number and the
own sequence counter, and its only answer is the STARTED notice. The notice's items: log 14; its hold causes as one
byte: log 49; the code of UNCHECKED: log 15; the argument as one figure of four bytes: log 7; the time base at 0: log 6. -/
def Obligations.ColdReset : Prop :=
  ∀ (s : State) (snd : Sender) (rest : List Byte), s.mayCommand snd.src → rest.length ≤ 239 →
    ∃ t, exec (.reset snd (0 :: 0 :: 0 :: 2 :: rest)) s = .next t ∧
      ReportsOnly { State.unconfigured s.node .cold (some (snd.src, snd.seq)) with pending := s.pending } t ∧
      t.rep.queue = [] ∧ t.ring.seqNo = s.ring.seqNo + 1 ∧ t.ring.returns = [⟨s.ring.seqNo, kReport, 0⟩] ∧ t.ring.watch = some 100 ∧
      t.ring.sending = some (.report s.ring.seqNo ⟨255, .notice ⟨.started, .config, .none, 0, 0, 0,
        [.code 2, .fig snd.src.toNat, .fig snd.seq.toNat, .fig s.node.toNat, .code 0, .code 0, .code 0, .code 0]⟩⟩)

/-- R22, R45, R57, R86, R97, R115, R142, R166, R173, R174: a RESET directive of kind WARM keeps the tables, the clock, the
schedule, the trip captures, the isolation marks and the configuration check, and clears the rest. A reset kind that is
neither COLD nor WARM is refused RANGE. The argument as one figure of four bytes: log 7; deadlines and instants from a time
base at 0: log 6; an absent channel kept whole, its freshness timer included: log 51. -/
def Obligations.WarmReset : Prop :=
  ∀ (s : State) (snd : Sender) (a3 a2 a1 a0 : Byte) (rest : List Byte), s.mayCommand snd.src → rest.length ≤ 239 →
    let kind := (word32 a3 a2 a1 a0).toNat
    let arg := a3 :: a2 :: a1 :: a0 :: rest
    (kind ≠ 2 → kind ≠ 3 → exec (.reset snd arg) s = .next (s.heard.answer (directiveFrame s.node snd 6 arg) [.range] [])) ∧
    (kind = 3 → ∃ t, exec (.reset snd arg) s = .next t ∧
      t.pending = s.pending ∧ t.held = s.held ∧ t.node = s.node ∧ t.now = 0 ∧ t.plant = s.plant ∧
      t.sched = { s.sched with trim := 0 } ∧
      t.clock = { s.clock with mark := if s.clock.state = .valid then some (s.plant.markTimeout * 1000) else none } ∧
      (∀ c, (s.chan c).present = true → t.chan c = clearedChannel (s.chan c).p 0) ∧
      (∀ c, (s.chan c).present = false → t.chan c = s.chan c) ∧
      (∀ c, (t.cavern c).p = (s.cavern c).p ∧ (t.cavern c).mark = (s.cavern c).mark ∧ (t.cavern c).valve = .unknown ∧
        (t.cavern c).timer = none ∧ (t.cavern c).rates = [] ∧ (t.cavern c).rateValid = false) ∧
      t.manifold = ⟨.idle, none, none⟩ ∧
      (∀ m, (t.store m).p = (s.store m).p ∧ (t.store m).energy = 0 ∧ (t.store m).quality = .unavailable ∧
        (t.store m).gen = 0 ∧ (t.store m).absorb = 0) ∧
      (∀ i, (s.train i).present = true → t.train i =
        { p := (s.train i).p, state := .unknown, entry := 0, timer := none, setpoint := 0, starved := false
          available := (s.train i).available, tripClear := false, preState := none, preSetpoint := 0, lastReport := none
          stack := (s.train i).stack, overrun := (s.train i).overrun }) ∧
      (∀ i, (s.train i).present = false → t.train i = s.train i) ∧
      t.conv = ⟨.free, [], none, none, 0, 0⟩ ∧ t.grid = ⟨false, some s.plant.fallbackPeriod, none, false, s.grid.seen⟩ ∧
      t.mode.config = s.mode.config ∧ t.mode.ringOpen = false ∧ t.mode.unsynced = (s.clock.state == .unsynced) ∧
      (s.mode.mode.dispatches = false → t.mode.mode = s.mode.mode) ∧
      (s.mode.mode.dispatches = true → t.mode.mode = if t.mode.clear then .auto else .hold) ∧
      t.commit.stop = none ∧ t.disp.last = none ∧ t.disp.count = 0 ∧ t.disp.target = 0 ∧ t.disp.next = s.disp.next ∧
      t.disp.active = (if s.mode.mode = .off ∧ s.disp.swap then s.disp.next else s.disp.active) ∧
      t.disp.swap = (s.disp.swap && s.mode.mode != .off) ∧
      t.mgr.checkWord = s.mgr.checkWord ∧ t.mgr.check = s.mgr.check ∧ t.mgr.lastSum = s.mgr.lastSum ∧
      t.mgr.periodTimer = some 2000 ∧ t.mgr.quiet = some 10000 ∧ t.mgr.resetBy = ⟨.warm, some (snd.src, snd.seq)⟩ ∧
      t.ring.forward = [] ∧ t.ring.orders = [] ∧ t.ring.continuity = .undetermined ∧ t.ring.received = 0 ∧
      t.ring.forwarded = 0 ∧ t.ring.consumed = 0 ∧ t.ring.stripped = 0 ∧ t.ring.dropped = 0 ∧ t.ring.withheld = 0 ∧
      t.ring.seqNo = s.ring.seqNo + 1 ∧ t.rep.lostNotice = 0 ∧ t.rep.lostAnswer = 0 ∧ t.rep.declined = 0 ∧
      (s.plant.almostFull ≤ 44 → t.rep.suppressed = false))

/-! ## The ring -/

/-- R155, R156, R157: a frame that fails a check, and one whose source is 0 or 255, is counted as received and dropped; a
frame of unknown kind to the part is answered UNKNOWN_KIND, an ORDER or REPORT to the part is consumed without an answer,
and a management frame of another source than the master node is refused SOURCE as a whole. Nothing else comes of them. (A
SAMPLE or STATUS frame of source 0 or 255 is tapped first; it is left out here.) -/
def Obligations.FramesEndHere : Prop :=
  (∀ s : State,
    let dropped : State := { s with ring := { s.ring with received := s.ring.received + 1, dropped := s.ring.dropped + 1 } }
    (∀ bytes, s.held = false → checkedFrame bytes = none → exec (.frameDropped bytes) s = .next dropped) ∧
    (∀ all dest kind flags seq body, s.listens → body.length ≤ 244 → kind ≠ kSample → kind ≠ kStatus →
      exec (.sourceDrop all dest kind flags seq body) s = .next dropped)) ∧
  (∀ (s : State) (snd : Sender) (body : List Byte), s.listens → s.foreign snd.src → body.length ≤ 244 →
    (∀ kind : Byte, kind = 0 ∨ 9 < kind.toNat → exec (.unknownKind snd kind body) s =
      .next (s.heard.answer (sentTo s.node snd kind body) [.unknownKind] [])) ∧
    (∀ report : Bool, exec (.consumedWithoutAnswer report snd body) s = .next s.heard) ∧
    (s.plant.master ≠ 0 → s.plant.master ≠ snd.src.toNat → ∀ (kind : Byte) (n : Nat),
      kind = kDirective ∨ kind = kTable ∨ kind = kSchedule ∨ kind = kTime ∨ kind = kQuery →
      s.receiveSome (sentTo s.node snd kind body) n = s.heard.answer (sentTo s.node snd kind body) [.source] []) ∧
    (s.plant.master ≠ 0 → s.plant.master ≠ snd.src.toNat →
      exec (.time true snd body) s = .next (s.heard.answer (sentTo 255 snd kTime body) [.source] [])))

/-- R156, R162: a stripped frame is counted and takes its entry, and every older one, from the return list; the ring is
closed by it, with the notice and then the end of the hold cause where it was not. One that matches no entry is counted only, and
one that fails its checks is dropped, its entry staying in the list. The notice before the end of the hold cause: log 46; its
items: log 14. -/
def Obligations.StripAndReturn : Prop :=
  ∀ (s : State) (dest kind flags : Byte) (seq : SeqNo) (body : List Byte), s.listens → body.length ≤ 244 →
    (∀ bytes, checkedFrame bytes = none → exec (.frameDropped bytes) s =
      .next { s with ring := { s.ring with received := s.ring.received + 1, dropped := s.ring.dropped + 1 } }) ∧
    ((∀ e ∈ s.ring.returns, e.seq ≠ seq) → exec (.strip dest kind flags seq body) s =
      .next { s with ring := { s.ring with received := s.ring.received + 1, stripped := s.ring.stripped + 1 } }) ∧
    (∀ old e rest, s.ring.returns = old ++ e :: rest → e.seq = seq → (∀ x ∈ old, x.seq ≠ seq) →
      let u : State := { s with ring := { s.ring with
        received := s.ring.received + 1, stripped := s.ring.stripped + 1, returns := rest, continuity := .ringClosed
        watch := rest.head?.map fun r => r.instant + s.plant.returnTimeout } }
      let v := u.notify .ringClosed .none [.fig seq.toNat, .fig (old.length + 1)]
      exec (.strip dest kind flags seq body) s = .next
        (match s.ring.continuity with | .ringClosed => u | .undetermined => v | .ringOpen => v.causeRing false))

/-- R156, R159, R165: a frame that no other disposition takes joins the tail of the forward queue unchanged, or is dropped
at a full one; a PASSIVE part so treats every frame. A frame that joins waits while the port sends, and leaves at once from
an idle port. -/
def Obligations.FramesForwarded : Prop :=
  ∀ (s : State) (f : Frame), f.body.length ≤ 244 →
    (s.held = false ∧ s.passive = true) ∨
      (s.listens ∧ s.foreign f.src ∧ f.dest ≠ s.node ∧ f.kind ≠ kSample ∧ f.kind ≠ kStatus ∧ f.kind ≠ kOrder ∧
        ¬ (f.dest = 255 ∧ f.kind = kTime)) →
    (s.ring.forward.length < 24 → exec (.forwardFrame f) s = .next (s.passedOn f)) ∧
    (24 ≤ s.ring.forward.length → exec (.forwardFrame f) s =
      .next { s with ring := { s.ring with received := s.ring.received + 1, dropped := s.ring.dropped + 1 } }) ∧
    (s.ring.sending ≠ none → s.passedOn f =
      { s with ring := { s.ring with received := s.ring.received + 1, forward := s.ring.forward ++ [f] } }) ∧
    (s.ring.sending = none → s.portSound → s.passedOn f =
      { s with ring := { s.ring with received := s.ring.received + 1, forwarded := s.ring.forwarded + 1
                                     sending := some (.forwarded f), run := min (s.ring.run + 1) 8 } })

/-- R158, R160, R161: when a sending ends the arbiter takes the head of the forward queue while fewer than eight frames have
gone in a row or nothing of its own waits, else the first own order, else the first report; an own frame takes the own
sequence number and joins the return list, from which a 65th entry drives the oldest. A SENDING_END at an idle port has no effect (log 8). -/
def Obligations.SendingEnds : Prop :=
  ∀ s : State,
    (s.ring.sending = none → exec .sendingEnd s = .next s) ∧
    (s.ring.sending ≠ none →
      let e (k : Byte) : Return := ⟨s.ring.seqNo, k, s.now⟩
      let kept := if s.ring.returns.length < 64 then s.ring.returns else s.ring.returns.tail
      let watch (k : Byte) := if s.ring.returns.length < 64 ∧ s.ring.returns ≠ [] then s.ring.watch
        else ((kept ++ [e k]).head?.map fun r => r.instant + s.plant.returnTimeout)
      (∀ f fs, s.ring.forward = f :: fs → s.ring.run < 8 ∨ (s.ring.orders = [] ∧ s.rep.queue = []) →
        exec .sendingEnd s = .next { s with ring := { s.ring with
          forward := fs, sending := some (.forwarded f), run := min (s.ring.run + 1) 8, forwarded := s.ring.forwarded + 1 } }) ∧
      (s.ring.forward = [] ∨ (8 ≤ s.ring.run ∧ (s.ring.orders ≠ [] ∨ s.rep.queue ≠ [])) →
        (∀ o os, s.ring.orders = o :: os → exec .sendingEnd s = .next { s with ring := { s.ring with
          orders := os, sending := some (.order s.ring.seqNo o), run := 0, seqNo := s.ring.seqNo + 1
          returns := kept ++ [e kOrder], watch := watch kOrder } }) ∧
        (∀ r rs, s.ring.orders = [] → s.rep.queue = r :: rs → exec .sendingEnd s = .next { s with
          ring := { s.ring with sending := some (.report s.ring.seqNo r), run := 0, seqNo := s.ring.seqNo + 1
                                returns := kept ++ [e kReport], watch := watch kReport }
          rep := { s.rep with queue := rs, suppressed := s.rep.suppressed && decide (s.plant.almostEmpty < rs.length) } })) ∧
      (s.ring.forward = [] → s.ring.orders = [] → s.rep.queue = [] →
        exec .sendingEnd s = .next { s with ring := { s.ring with sending := none } }))

/-! ## Reports -/

/-- Section 10.5 (R177 to R179, R165), at a port that sends: an answer or reply takes one of 48 places, or is lost and
counted; a notice needs a place among 44 too, carries the count of the notices lost and clears it, or is lost and counted. A
computation record is declined under suppression or without such a place; the queue's reaching the full mark sets
suppression. At any port a SAFETY or CONFIG notice is offered whatever the enables and flags; another needs its class
enable, and the notify flag of the record it names; a PASSIVE part raises none. (That of any cavern counts: log 47.) -/
def Obligations.ReportQueue : Prop :=
  (∀ s : State, s.ring.sending ≠ none →
    let joined (r : Report) (p : Reports) : State := { s with rep := { p with
      queue := s.rep.queue ++ [r], suppressed := s.rep.suppressed || decide (48 - s.plant.almostFull ≤ s.rep.queue.length + 1) } }
    let free := s.rep.queue.length < 48 ∧ (s.rep.queue.filter Report.isNoticeOrRecord).length < 44
    (∀ f codes extra,
      (s.rep.queue.length < 48 → s.answer f codes extra = joined ⟨f.src, .answer f.kind f.seq codes extra⟩ s.rep) ∧
      (48 ≤ s.rep.queue.length → s.answer f codes extra = { s with rep := { s.rep with lostAnswer := s.rep.lostAnswer + 1 } })) ∧
    (∀ f kind items,
      (s.rep.queue.length < 48 → s.reply f kind items = joined ⟨f.src, .reply f.seq kind items⟩ s.rep) ∧
      (48 ≤ s.rep.queue.length → s.reply f kind items = { s with rep := { s.rep with lostAnswer := s.rep.lostAnswer + 1 } })) ∧
    (∀ n : Notice,
      (free → s.offerNotice n = joined ⟨s.noticeDest, .notice { n with lost := s.rep.lostNotice }⟩ { s.rep with lostNotice := 0 }) ∧
      (¬ free → s.offerNotice n = { s with rep := { s.rep with lostNotice := min 65535 (s.rep.lostNotice + 1) } })) ∧
    (∀ items,
      (free → s.rep.suppressed = false → s.offerRecord items = joined ⟨s.noticeDest, .record items⟩ s.rep) ∧
      (¬ free ∨ s.rep.suppressed = true →
        s.offerRecord items = { s with rep := { s.rep with declined := s.rep.declined + 1 } }))) ∧
  (∀ (s : State) (name : NoticeName) (src : SourceRecord) (items : List Item),
    let offered := s.offerNotice ⟨name, name.cls, src, s.plantSec, s.plantMilli, 0, items⟩
    let flag := match src with
      | .none => true
      | .cavern c => (s.cavern c).p.notify
      | .store m => (s.store m).p.notify
      | .train i => (s.train i).p.notify
    (s.passive = true → s.notify name src items = s) ∧
    (s.passive = false →
      (name.cls = .safety ∨ name.cls = .config → s.notify name src items = offered) ∧
      (name.cls = .limit → s.notify name src items = if s.plant.enLimit && flag then offered else s) ∧
      (name.cls = .schedule → s.notify name src items = if s.plant.enSchedule && flag then offered else s) ∧
      (name.cls = .ring → s.notify name src items = if s.plant.enRing && flag then offered else s) ∧
      (name.cls = .sequence → s.notify name src items = if s.plant.enSequence && flag then offered else s) ∧
      (name.cls = .guard → s.notify name src items = if s.plant.enGuard && flag then offered else s)))

/-! ## Orders at the guard -/

/-- R64, R88, R89, R61: a START to a STANDBY train is forwarded with the GUARDED flag when the converter is FREE with
an empty start queue: the converter is BUSY for the slot, its start count rises, and the train is STARTING with its
start timeout running. Otherwise the START is withheld, nothing is sent, the slot joins the tail of the start queue
and the train is START_WAIT, with START_QUEUED. An expander needs a generation factor above 0 (R53). The order of
effects and the items of notices: logs 11, 14 and 45. -/
def Obligations.StartTaken : Prop :=
  ∀ (s : State) (h : Passing) (tail : List Byte) (i : Fin 8), s.ordered h tail → s.trainNode h.dest.toNat i →
    (s.train i).state = .standby → ((s.train i).p.kind = .compressor ∨ s.storeFactor (s.train i) .discharge ≠ 0) →
    (s.conv.state = .free → s.conv.queue = [] → s.ring.forward.length < 24 → exec (.start h tail) s = .next (State.trainNotice
      { ((s.passedOn (guarded (orderFrame h .start tail) none)).setTrain i { s.train i with
          state := .starting, entry := s.now, timer := some (s.now + (s.train i).p.tStart * 1000), setpoint := 0 }).setTrack i 0
        with conv := { s.conv with state := .busy i, starts := s.conv.starts + 1, retry := none } }
      i (.code 2) (.code 4) .order)) ∧
    ((s.conv.state ≠ .free ∨ s.conv.queue ≠ []) → exec (.start h tail) s = .next (State.notify (State.trainNotice
      { (s.blocked.setTrain i { s.train i with state := .startWait, entry := s.now, timer := none, setpoint := 0 }).setTrack i 0
        with conv := { s.conv with queue := s.conv.queue ++ [i] } }
      i (.code 2) (.code 3) .order) .startQueued (.train i)
        [.fig i.val, .fig (s.conv.queue.length + 1), .code s.conv.state.num, .code 1]))

/-- R63, R68, R61, R75, R152: ENABLE, DISABLE, STOP, UNLOAD and TRIP_RESET are forwarded with the GUARDED flag and
move the record, its setpoint and track to 0 and its sequence timer as the new state asks, with TRAIN_STATE; nothing
else changes. R64, R67, R90, R91, R93: so are an ABORT and a TRIP of a train in START_WAIT, which take its slot out of the
start queue, and of a train in STARTING, which release the converter into COOLDOWN for the cooldown, or into FREE where
the cooldown is 0. The order of effects and the items of TRAIN_STATE: logs 11 and 14. -/
def Obligations.OrdersMoveRecords : Prop :=
  ∀ (s : State) (h : Passing) (tail : List Byte) (i : Fin 8), s.ordered h tail → s.trainNode h.dest.toNat i →
    s.ring.forward.length < 24 →
    let x := s.train i
    let forwarded (o : Order) (y : Train) (c : Converter) : Host.Outcome State Fault Refusal := .next (State.trainNotice
      { ((s.passedOn (guarded (orderFrame h o tail) none)).setTrain i y).setTrack i 0 with conv := c }
      i (.code x.state.num) (.code y.state.num) .order)
    let moved (o : Order) (y : Train) := forwarded o y s.conv
    let aborted : Train := { x with state := .standby, entry := s.now, timer := none, setpoint := 0 }
    let tripped : Train := { x with
      state := .tripped, entry := s.now, timer := none, setpoint := 0, preState := some x.state, preSetpoint := x.setpoint, tripClear := false }
    let left : Converter := { s.conv with
      queue := s.conv.queue.erase i, retry := if s.conv.queue.erase i = [] then none else s.conv.retry }
    let released : Converter := { s.conv with state := .cooldown, cooldown := some (s.now + s.plant.cooldown * 1000) }
    (x.state = .offline → exec (.enable h tail) s =
      moved .enable { x with state := .standby, entry := s.now, timer := none, setpoint := 0 }) ∧
    (x.state = .standby → exec (.disable h tail) s =
      moved .disable { x with state := .offline, entry := s.now, timer := none, setpoint := 0 }) ∧
    (x.state = .idleRun → exec (.stop h tail) s =
      moved .stop { x with state := .stopping, entry := s.now, timer := some (s.now + x.p.tStop * 1000), setpoint := 0 }) ∧
    (x.state = .loaded → exec (.unload h tail) s =
      moved .unload { x with
        state := .unloading, entry := s.now, timer := some (s.now + x.p.tUnload * 1000), setpoint := 0, starved := false }) ∧
    (x.state = .tripped → x.tripClear = true → exec (.tripReset h tail) s =
      moved .tripReset { x with state := .standby, entry := s.now, timer := none, setpoint := 0, tripClear := false }) ∧
    (x.state = .startWait →
      exec (.abort h tail) s = forwarded .abort aborted left ∧ exec (.trip h tail) s = forwarded .trip tripped left) ∧
    (x.state = .starting → s.conv.state = .busy i →
      (s.plant.cooldown ≠ 0 →
        exec (.abort h tail) s = forwarded .abort aborted released ∧ exec (.trip h tail) s = forwarded .trip tripped released) ∧
      (s.plant.cooldown = 0 → s.conv.queue = [] →
        exec (.abort h tail) s = forwarded .abort aborted { s.conv with state := .free } ∧
        exec (.trip h tail) s = forwarded .trip tripped { s.conv with state := .free }))

/-- R38, R65, R61: a LOAD of an IDLE_RUN train, no present train being UNKNOWN, is forwarded and makes the train
LOADING with its load timeout; an IDLE manifold, or one that changes over from the train's direction, enters that
direction in the same event, and one that flows there stays as it is. The order of effects and the items of TRAIN_STATE: logs 11
and 14; no direction is remembered once one is entered: log 43. -/
def Obligations.LoadTaken : Prop :=
  ∀ (s : State) (h : Passing) (tail : List Byte) (i : Fin 8) (d : Direction), s.ordered h tail → s.trainNode h.dest.toNat i →
    s.ring.forward.length < 24 → (s.train i).state = .idleRun → s.someUnknown = false → (s.train i).p.kind = d.kind →
    let u := State.trainNotice (((s.passedOn (guarded (orderFrame h .load tail) none)).setTrain i { s.train i with
      state := .loading, entry := s.now, timer := some (s.now + (s.train i).p.tLoad * 1000), setpoint := 0 }).setTrack i 0)
      i (.code 5) (.code 6) .order
    (s.manifold.state = d.state → exec (.load h tail) s = .next u) ∧
    (s.manifold.state = .idle ∨ (s.manifold.state = .changeover ∧ s.manifold.remembered = some d) →
      exec (.load h tail) s = .next (u.manifoldTo ⟨d.state, none, none⟩))

/-- R67, R61, R39: a TRIP is forwarded in every state that admits it. In UNKNOWN and TRIPPED it leaves the record; in
any other it makes the train TRIPPED, its state and setpoint before kept, and where it was the last train of the
manifold's direction to flow, the manifold changes over. The order of effects and the items of TRAIN_STATE: logs 11 and 14. -/
def Obligations.TripTaken : Prop :=
  ∀ (s : State) (h : Passing) (tail : List Byte) (i : Fin 8), s.ordered h tail → s.trainNode h.dest.toNat i →
    s.ring.forward.length < 24 →
    let x := s.train i
    let g := s.passedOn (guarded (orderFrame h .trip tail) none)
    let u := State.trainNotice ((g.setTrain i { x with
      state := .tripped, entry := s.now, timer := none, setpoint := 0, starved := x.starved && x.state != .loaded
      preState := some x.state, preSetpoint := x.setpoint, tripClear := false }).setTrack i 0)
      i (.code x.state.num) (.code 10) .order
    (x.state = .unknown ∨ x.state = .tripped → exec (.trip h tail) s = .next g) ∧
    (x.state = .standby ∨ x.state = .idleRun ∨ x.state = .stopping → exec (.trip h tail) s = .next u) ∧
    (x.state = .loading ∨ x.state = .loaded ∨ x.state = .unloading → ∀ d : Direction, x.p.kind = d.kind → s.manifold.state = d.state →
      ((∃ j, j ≠ i ∧ (s.train j).flowing = true ∧ (s.train j).p.kind = x.p.kind) → exec (.trip h tail) s = .next u) ∧
      ((∀ j, j ≠ i → (s.train j).flowing = true → (s.train j).p.kind ≠ x.p.kind) →
        exec (.trip h tail) s = .next (u.enterChangeover d)))

/-- R37, R39, R40: a change of the manifold touches the valves, their timers, the marks and RATE_HOLD of the caverns, own
orders and reports, and nothing else: no count of the ring, no forwarded frame and no return. Every order is a valve order of
a present cavern. Isolation and then reopening are evaluated for every cavern at an entry into a direction (log 13), here
where every order finds room, and RATE_HOLD at every change; a change into IDLE or CHANGEOVER orders nothing and leaves
valves and marks. In CHANGEOVER the deadband timer starts once no train flows; with a deadband of 0 the manifold is then IDLE
in the same event. -/
def Obligations.ManifoldMoves : Prop :=
  (∀ (s : State) (m : Manifold),
    let t := s.manifoldTo m
    (∃ r p, t = { s with manifold := m, caverns := t.caverns, ring := r, rep := p } ∧ r.received = s.ring.received ∧
      r.consumed = s.ring.consumed ∧ r.stripped = s.ring.stripped ∧ r.dropped = s.ring.dropped ∧ r.withheld = s.ring.withheld ∧
      r.continuity = s.ring.continuity) ∧
    (s.portSound → OwnFramesOnly { s with manifold := m, caverns := t.caverns } t ∧ ∃ os : List OwnOrder, t.ownOrders = s.ownOrders ++ os ∧
      (m.state.flow = none → os = []) ∧ ∀ o ∈ os, o.order.isValve = true ∧
        ∃ c, (s.cavern c).p.present = true ∧ o.dest = BitVec.ofNat 8 (s.cavern c).p.node) ∧
    (∀ c,
      let x := s.cavern c
      let q := (s.pressure c).quality
      let hold := if x.p.present then x.holdAfter q m.state else x.hold
      (∃ v w k, t.cavern c = { x with valve := v, timer := w, mark := k, hold := hold }) ∧
      (m.state.flow = none → t.cavern c = { x with hold := hold }) ∧
      (s.ring.orders.length ≤ 4 → t.cavern c = { x.answered q m.state (s.mode.mode == .auto) s.now with hold := hold }))) ∧
  (∀ (s : State) (d : Direction), let m := (s.enterChangeover d).manifold
    (s.someFlows = true → m = ⟨.changeover, some d, none⟩) ∧
    (s.someFlows = false → s.plant.deadband ≠ 0 → m = ⟨.changeover, some d, some (s.now + s.plant.deadband * 1000)⟩) ∧
    (s.someFlows = false → s.plant.deadband = 0 → m = ⟨.idle, none, none⟩))

/-- R25, R26, R28, R34: a present OPEN or OPENING cavern without a mark, whose factor for the direction of flow is 0 and
whose pressure is not NONE, is closed: a VALVE_CLOSE, CLOSING with its travel timer, the mark of the direction and
CAVERN_ISOLATED. R36: in AUTO one marked for the other direction that is CLOSED or UNKNOWN is opened and judged for isolation
again. Where the order queue is full, QUEUE_FULL alone. R31, R32: the rate of a rate list, and RATE_HOLD as its five cases
decide it, with a notice where it changes. The order of effects and the items of notices: logs 11, 14 and 44. -/
def Obligations.CavernsAnswer : Prop :=
  (∀ (s : State) (c : Fin 4),
    let x := s.cavern c
    let q := (s.pressure c).quality
    let travel := some (s.now + x.p.travel * 1000)
    let shuts (d : Direction) : Prop := s.manifold.state = d.state ∧ x.p.present = true ∧ x.factor d = 0 ∧ q ≠ .none ∧
      (x.valve = .opened ∨ x.valve = .opening) ∧ x.mark = .none
    let opens : Prop := s.mode.mode = .auto ∧ x.p.present = true ∧ (x.valve = .closed ∨ x.valve = .unknown) ∧
      ((x.mark = .low ∧ s.manifold.state = .charge) ∨ (x.mark = .high ∧ s.manifold.state = .discharge))
    let full (o : Order) := s.notify .queueFull (.cavern c) [.fig c.val, .code o.num]
    (∀ d, shuts d →
      let mark : Mark := match d with | .charge => .high | .discharge => .low
      (s.ring.orders.length < 16 → s.isolate c =
        ((s.place x.p.node .valveClose 0).setCavern c { x with valve := .closing, timer := travel, mark := mark }).notify
          .cavernIsolated (.cavern c) [.fig c.val, .code mark.num, .fig (s.pressure c).avg]) ∧
      (16 ≤ s.ring.orders.length → s.isolate c = full .valveClose)) ∧
    ((∀ d, ¬ shuts d) → s.isolate c = s) ∧
    (opens →
      (s.ring.orders.length < 16 → s.reopen c = State.isolate
        (((s.place x.p.node .valveOpen 0).setCavern c { x with valve := .opening, timer := travel, mark := .none }).notify
          .cavernReopened (.cavern c) []) c) ∧
      (16 ≤ s.ring.orders.length → s.reopen c = full .valveOpen)) ∧
    (¬ opens → s.reopen c = s) ∧
    (x.p.present = true →
      let hold :=
        if q = .stale ∨ q = .none then true
        else if (s.manifold.state ≠ .charge ∧ s.manifold.state ≠ .discharge) ∨ x.rateValid = false then false
        else if (s.manifold.state = .discharge ∧ x.rate < -x.p.rateLimit) ∨ (s.manifold.state = .charge ∧ x.p.rateLimit < x.rate) then true
        else if magnitude x.rate < (x.p.rateLimit * 9).tdiv 10 then false
        else x.hold
      x.holdAfter q s.manifold.state = hold ∧
      s.evalHold c = if hold = x.hold then s else (s.setCavern c { x with hold := hold }).notify (if hold then .rateHold else .rateHoldEnd)
        (.cavern c) (if hold then [.fig c.val, .fig x.rate, .code q.num] else []))) ∧
  (∀ (l : List (Int × Nat)) (old new : Int × Nat), l.head? = some old → l.getLast? = some new →
    (2 ≤ l.length → 60000 ≤ new.2 - old.2 →
      rateOf l = (max (-2147483648) (min 2147483647 (((new.1 - old.1) * 3600000).tdiv (new.2 - old.2 : Nat))), true)) ∧
    (l.length < 2 ∨ new.2 - old.2 < 60000 → rateOf l = (0, false)))

/-- R49 to R52: what a recomputation makes of a store, and that an event of a layer's channel replaces the view of every
layer that names it and recomputes, with HEAT_STORE_QUALITY where the quality changes. R42, R54: the two adequacy checks: no
check at a net of 0; the caverns that are open are judged on their predicted pressures, each with its notice, and the heat
available against the heat needed. The items of the notices: log 14; the order of those of several caverns: log 50. -/
def Obligations.StoresAndAdequacy : Prop :=
  (∀ x : Store,
    let heat (lv : Layer × LayerView) : Int := if lv.2.quality = .none then 0 else max 0 (lv.1.capacity * (lv.2.avg - x.p.tRef))
    let e := min 2147483647 ((sumOf ((x.p.layers.zip x.views).map heat)).tdiv 100000)
    let bad := (x.views.filter fun v => v.quality == .stale || v.quality == .none).length
    let q : StoreQuality := if bad = 0 then .good else if 2 * bad ≤ x.p.layers.length then .degraded else .unavailable
    let factor (margin : Int) : Int := if q = .unavailable then 0 else max 0 (min 1000 ((margin * 1000).tdiv x.p.band))
    x.recomputed = { x with energy := e, quality := q, gen := factor (e - x.p.eFloor), absorb := factor (x.p.eCeiling - e) }) ∧
  (∀ (s : State) (n : Nat) (v : View) (m : Fin 3),
    let x := s.store m
    let named := x.p.present = true ∧ ∃ l ∈ x.p.layers, l.channel = n
    let y := Store.recomputed { x with
      views := (x.p.layers.zip x.views).map fun lv => if lv.1.channel = n then ⟨v.quality, v.avg⟩ else lv.2 }
    let t := s.setStore m y
    let items : List Item := [.fig m.val, .code x.quality.num, .code y.quality.num, .fig y.energy, .fig y.unusable]
    (¬ named → s.layerEvent n v m = s) ∧
    (named → s.layerEvent n v m =
      if y.quality = x.quality ∨ (s.passive = true) then t
      else if y.quality = .unavailable then t.offerNotice ⟨.heatStoreQuality, .safety, .store m, s.plantSec, s.plantMilli, 0, items⟩
      else t.notify .heatStoreQuality (.store m) items)) ∧
  (∀ (s : State) (k : Nat) (net : Int),
    let e := (magnitude net * s.plant.interval).tdiv 3600000
    let heat (m : Fin 3) : Int :=
      let x := s.store m
      if x.p.present = true ∧ x.quality ≠ .unavailable then max 0 (if 0 < net then x.energy - x.p.eFloor else x.p.eCeiling - x.energy) else 0
    let available := heat 0 + heat 1 + heat 2
    let needed := e * (if 0 < net then s.plant.genRatio else s.plant.compRatio)
    let capped (x : Int) : Item := .fig (min 2147483647 x)
    (net = 0 ∨ needed ≤ available → s.heatCheck k net = s) ∧
    (net ≠ 0 → available < needed → s.heatCheck k net =
      s.notify (if 0 < net then .scheduleHeatShort else .scheduleHeatFull) .none [.fig k, capped e, capped available, capped needed])) ∧
  (∀ (s : State) (k : Nat) (net : Int),
    let e := (magnitude net * s.plant.interval).tdiv 3600000
    let l := cavernNumbers.filter fun c => (s.cavern c).p.present && (s.cavern c).valve == .opened
    let judge (u : State) (c : Fin 4) : State :=
      let p := (s.cavern c).p
      let v := s.pressure c
      let share := (e * p.stiffness).tdiv l.length
      let x := max (-2147483648) (min 2147483647 (if 0 < net then v.avg - share else v.avg + share))
      if v.quality = .none then u
      else if 0 < net ∧ x < p.pMin then u.notify .scheduleAirShort (.cavern c) [.fig k, .fig c.val, .fig e, .fig x, .fig p.pMin]
      else if net < 0 ∧ p.pMax < x then u.notify .scheduleAirFull (.cavern c) [.fig k, .fig c.val, .fig e, .fig x, .fig p.pMax]
      else u
    (net = 0 → s.airCheck k net = s) ∧
    (net ≠ 0 → l = [] → s.airCheck k net =
      s.notify (if 0 < net then .scheduleAirShort else .scheduleAirFull) .none [.fig k, .none, .fig e, .fig 0, .none]) ∧
    (net ≠ 0 → l ≠ [] → s.airCheck k net = l.foldl judge s))

/-- R66, R129, R153: in AUTO and HOLD a SETPOINT is withheld with GUARD_DROPPED. In OFF and MANUAL one to a LOADED train is
clamped into P_min to the upper limit and forwarded with that value; the record and the dispatch track take it, with
GUARD_CLAMPED where it differs from the value carried. The upper limit is the model's `clampUpper` (log 34); the frame,
the record and then the notice: log 11; the items of the notices: log 14. -/
def Obligations.SetpointGuarded : Prop :=
  ∀ (s : State) (h : Passing) (v3 v2 v1 v0 : Byte) (rest : List Byte) (i : Fin 8),
    let tail := v3 :: v2 :: v1 :: v0 :: rest
    s.ordered h tail → s.trainNode h.dest.toNat i →
    let v := (word32 v3 v2 v1 v0).toInt
    let w := clampTo (s.train i).p.pMin (s.clampUpper i) v
    let items (x : Item) : List Item := [.fig h.src.toNat, .fig h.dest.toNat, .fig h.seq.toNat, .code 6, .code (s.train i).state.num, .fig v, x]
    let g := guarded (orderFrame h .setpoint tail) (some w)
    let u := ((s.passedOn g).setTrain i { s.train i with setpoint := w }).setTrack i w
    ((s.mode.mode = .auto ∨ s.mode.mode = .hold) →
      exec (.setpoint h tail) s = .next (s.blocked.notify .guardDropped (.train i) (items .none))) ∧
    ((s.mode.mode = .off ∨ s.mode.mode = .manual) → (s.train i).state = .loaded → s.ring.forward.length < 24 →
      exec (.setpoint h tail) s = .next (if v = w then u else u.notify .guardClamped (.train i) (items (.fig w)))) ∧
    g.flags.getLsbD 0 = true ∧ g.seq = h.seq ∧ g.src = h.src ∧
    (0 ≤ (s.train i).p.pMin → (s.train i).p.pMin ≤ (s.train i).p.pMax → (s.train i).p.pMax ≤ 500000 →
      (s.train i).p.pMin ≤ w ∧ w ≤ (s.train i).p.pMax ∧ orderBody g.body = some (6, w))

/-- R63, R65, R66, R68, R53, R151, R152: the orders a train's state admits, and the code that refuses every other one, a
SETPOINT by R66 (log 35). A train order its train refuses is withheld and counted, with GUARD_REFUSED carrying the code; no
record moves. R151, R159: an order that is admitted, or addressed to any other node, at a full forward queue is dropped and
counted; no record moves and no notice is raised. The items of the notice: log 14. -/
def Obligations.OrdersRefused : Prop :=
  (∀ (st : TrainState) (o : Order), o.isValve = false →
    (admission st o = none ↔ (st, o) ∈ [(TrainState.unknown, Order.trip), (.offline, .enable), (.standby, .start), (.standby, .disable),
      (.standby, .trip), (.startWait, .abort), (.startWait, .trip), (.starting, .abort), (.starting, .trip), (.idleRun, .load),
      (.idleRun, .stop), (.idleRun, .trip), (.loading, .trip), (.loaded, .setpoint), (.loaded, .unload), (.loaded, .trip),
      (.unloading, .trip), (.stopping, .trip), (.tripped, .trip), (.tripped, .tripReset)]) ∧
    (∀ c, admission st o = some c →
      c = if st = .unknown then .unsettled
          else if st = .loading ∨ (o ≠ .setpoint ∧ (st = .starting ∨ st = .unloading ∨ st = .stopping)) then .busy else .state)) ∧
  (∀ (s : State) (h : Passing) (v3 v2 v1 v0 : Byte) (rest : List Byte) (i : Fin 8) (o : Order) (c : Code),
    let tail := v3 :: v2 :: v1 :: v0 :: rest
    s.ordered h tail → s.trainNode h.dest.toNat i → o.isValve = false →
    (o = .setpoint → s.mode.mode = .off ∨ s.mode.mode = .manual) →
    (admission (s.train i).state o = some c ∨
      (o = .start ∧ (s.train i).state = .standby ∧ s.heatLow i = true ∧ c = .heatLow) ∨
      (o = .load ∧ (s.train i).state = .idleRun ∧
        ((s.someUnknown = true ∧ c = .unsettled) ∨ (s.someUnknown = false ∧ s.manifold.loadCheck (s.train i).p.kind = some c))) ∨
      (o = .tripReset ∧ (s.train i).state = .tripped ∧ (s.train i).tripClear = false ∧ c = .active)) →
    exec (o.command h tail) s = .next (s.blocked.notify .guardRefused (.train i)
      ([.fig h.src.toNat, .fig h.dest.toNat, .fig h.seq.toNat, .code o.num, .code (s.train i).state.num]
        ++ (if o = .setpoint then [.fig (word32 v3 v2 v1 v0).toInt, .none] else []) ++ [.code c.num]))) ∧
  (∀ (s : State) (h : Passing) (tail : List Byte) (o : Order), s.ordered h tail → 24 ≤ s.ring.forward.length →
    let dropped : State := { s with ring := { s.ring with received := s.ring.received + 1, dropped := s.ring.dropped + 1 } }
    (∀ i, s.trainNode h.dest.toNat i → admission (s.train i).state o = none → o.isValve = false →
      (o = .start → s.heatLow i = false ∧ s.conv.state = .free ∧ s.conv.queue = []) →
      (o = .load → s.someUnknown = false ∧ s.manifold.loadCheck (s.train i).p.kind = none) →
      (o = .tripReset → (s.train i).tripClear = true) → (o = .setpoint → s.mode.mode = .off ∨ s.mode.mode = .manual) →
      exec (o.command h tail) s = .next dropped) ∧
    (∀ c, s.valveNode h.dest.toNat c → o = .valveClose ∨ (o = .valveOpen ∧ (s.cavern c).valve ≠ .closing ∧ (s.cavern c).valve ≠ .fault ∧
        ((s.cavern c).mark = .none ∨ (s.cavern c).mark.dir ≠ s.manifold.present)) →
      exec (o.command h tail) s = .next dropped) ∧
    (s.unknownNode h.dest.toNat → exec (o.command h tail) s = .next dropped))

/-- R151, R182, R183: an order of the other class than its node, a broadcast order and an order of unknown or missing
code to a train's or valve's node are withheld; an order to any other node passes unchanged. The items of the notice:
logs 14 and 17. -/
def Obligations.OrdersMisdirected : Prop :=
  ∀ (s : State) (h : Passing) (o : Order) (v3 v2 v1 v0 : Byte) (rest : List Byte), s.passes h → rest.length ≤ 239 →
    let body := BitVec.ofNat 8 o.num :: v3 :: v2 :: v1 :: v0 :: rest
    let items : List Item := [.fig h.src.toNat, .fig h.dest.toNat, .fig h.seq.toNat]
    let value : List Item := if o = .setpoint then [.fig (word32 v3 v2 v1 v0).toInt, .none] else []
    (h.dest ≠ 255 → (∃ i, o.isValve = true ∧ s.trainNode h.dest.toNat i) ∨ (∃ c, o.isValve = false ∧ s.valveNode h.dest.toNat c) →
      exec (.mismatchedOrder h body) s =
        .next (s.blocked.notify .guardRefused .none (items ++ [.code o.num, .none] ++ value ++ [.code 2]))) ∧
    (exec (.broadcastOrder ⟨h.src, h.flags, h.seq⟩ body) s = .next (s.blocked.notify .guardRefused .none
      ([.fig h.src.toNat, .fig 255, .fig h.seq.toNat, .code o.num, .none] ++ value ++ [.code 3]))) ∧
    (h.dest ≠ 255 → s.unknownNode h.dest.toNat → s.ring.forward.length < 24 →
      exec (.mismatchedOrder h body) s = .next (s.passedOn (passingFrame h kOrder body))) ∧
    (∀ b : List Byte, b.length ≤ 244 → (∀ x, orderBody b = some x → Machine.orderOf x.1 = none) →
      let code : Item := match orderBody b with | none => .none | some x => .code x.1.toNat
      (∀ i, s.trainNode h.dest.toNat i → exec (.mismatchedOrder h b) s =
        .next (s.blocked.notify .guardRefused (.train i) (items ++ [code, .code (s.train i).state.num, .code 3]))) ∧
      (∀ c, s.valveNode h.dest.toNat c → exec (.mismatchedOrder h b) s =
        .next (s.blocked.notify .guardRefused (.cavern c) (items ++ [code, .code (s.cavern c).valve.num, .code 3]))))

/-- R25, R28, R35, R151, R154: a VALVE_OPEN from CLOSED or UNKNOWN makes the valve OPENING with its travel timer and
clears an isolation mark; it is refused LIMIT where the mark belongs to the present direction, BUSY in CLOSING, STATE
in FAULT, and changes nothing in OPEN or OPENING. A VALVE_CLOSE makes any valve that is not CLOSED or CLOSING close. A
valve that becomes OPENING is then evaluated for isolation (R34). The order of effects and the items of notices: logs
11 and 14. -/
def Obligations.ValveOrders : Prop :=
  ∀ (s : State) (h : Passing) (tail : List Byte) (c : Fin 4), s.ordered h tail → s.valveNode h.dest.toNat c →
    let x := s.cavern c
    let limit := x.mark ≠ .none ∧ x.mark.dir = s.manifold.present
    let go (o : Order) := s.passedOn (guarded (orderFrame h o tail) none)
    let refused (o : Order) (n : Nat) : Host.Outcome State Fault Refusal := .next (s.blocked.notify .guardRefused (.cavern c)
      [.fig h.src.toNat, .fig h.dest.toNat, .fig h.seq.toNat, .code o.num, .code x.valve.num, .code n])
    let opening := (go .valveOpen).setCavern c { x with valve := .opening, timer := some (s.now + x.p.travel * 1000), mark := .none }
    (limit → exec (.valveOpen h tail) s = refused .valveOpen 16) ∧
    (¬ limit → x.valve = .closing → exec (.valveOpen h tail) s = refused .valveOpen 1) ∧
    (¬ limit → x.valve = .fault → exec (.valveOpen h tail) s = refused .valveOpen 2) ∧
    (s.ring.forward.length < 24 → ¬ limit → x.valve = .unknown ∨ x.valve = .closed →
      exec (.valveOpen h tail) s = .next (opening.isolate c) ∧
      (s.manifold.state.flow = none ∨ (∀ d, s.manifold.state.flow = some d → x.factor d ≠ 0) →
        exec (.valveOpen h tail) s = .next opening)) ∧
    (s.ring.forward.length < 24 → ¬ limit → x.valve = .opened ∨ x.valve = .opening →
      exec (.valveOpen h tail) s = .next (go .valveOpen)) ∧
    (s.ring.forward.length < 24 → x.valve = .unknown ∨ x.valve = .opening ∨ x.valve = .opened ∨ x.valve = .fault →
      exec (.valveClose h tail) s =
        .next ((go .valveClose).setCavern c { x with valve := .closing, timer := some (s.now + x.p.travel * 1000) })) ∧
    (s.ring.forward.length < 24 → x.valve = .closed ∨ x.valve = .closing → exec (.valveClose h tail) s = .next (go .valveClose))

/-! ## Readings and reports of other nodes -/

/-- R4 to R14: a reading whose key the tap map holds passes the four stages into its channel, and no other channel changes;
one marked invalid only raises the invalid count; one whose key is not held changes nothing. The frame passes on in every
case. An accepted reading reaches its consumers: of a PRESSURE channel the factors, the rate list and RATE_HOLD of the
caverns that name it (R29 to R32), and their isolation and reopening (R34, R36), here where every order finds room; of a
TEMPERATURE channel the stores with a layer that names it (R49); of the bound grid channel the supervision, which
GridSupervision states; of any other channel nothing. -/
def Obligations.ReadingsTaken : Prop :=
  ∀ (s : State) (h : Passing) (slot a b c : Byte) (rest : List Byte), s.passes h → rest.length ≤ 239 →
    let body := 1 :: slot :: a :: b :: c :: rest
    let f := passingFrame h kSample body
    let raw := int24 a b c
    (s.tapMap h.src.toNat slot.toNat = none → exec (.sample h body) s = .next (s.countReceived.forwardOrDrop f)) ∧
    (∀ ch, s.tapMap h.src.toNat slot.toNat = some ch →
      let x := s.chan ch
      (raw = -8388608 →
        exec (.sample h body) s = .next ((s.countReceived.setChan ch { x with invalid := x.invalid + 1 }).forwardOrDrop f)) ∧
      (raw ≠ -8388608 →
        let r1 := sat24 (raw + x.p.offset)
        let r2 := sat24 (r1 + (r1 * x.p.gain).tdiv 2147483648)
        let e := sat32 ((r2 * x.p.scale).tdiv 65536 + x.p.zero)
        let w := (if x.p.length ≤ x.window.length then x.window.tail else x.window) ++ [clampTo x.p.rangeLow x.p.rangeHigh e]
        let y : Channel := { x with
          window := w, inst := clampTo x.p.rangeLow x.p.rangeHigh e, avg := (sumOf w).tdiv w.length
          quality := if e < x.p.rangeLow ∨ x.p.rangeHigh < e then .outOfRange
                     else if w.length < x.p.length then .settling else .good
          timer := some (s.now + x.p.freshness), last := some s.now, accepted := x.accepted + 1 }
        let v : View := if x.p.substFlag then ⟨.substituted, x.p.substitute, x.p.substitute⟩ else ⟨y.quality, y.inst, y.avg⟩
        let u := s.countReceived.setChan ch y
        ∃ t : State, exec (.sample h body) s = .next (t.forwardOrDrop f) ∧ t.chan ch = y ∧ (∀ d, d ≠ ch → t.chan d = s.chan d) ∧
          t.pending = s.pending ∧ t.node = s.node ∧ t.now = s.now ∧ t.plant = s.plant ∧ t.clock = s.clock ∧ t.sched = s.sched ∧
          (x.p.kind = .power ∨ x.p.kind = .generic ∨ (x.p.kind = .frequency ∧ s.gridBound ≠ some ch.val) → t = u) ∧
          (x.p.kind = .pressure →
            (s.portSound → OwnFramesOnly { u with caverns := t.caverns } t) ∧
            (∀ n,
              let z := s.cavern n
              let l := match z.rates.getLast? with
                | none => [(v.avg, s.now)]
                | some e => if s.now < e.2 + s.plant.rateSpacing * 1000 then z.rates
                            else (if z.rates.length < 16 then z.rates else z.rates.tail) ++ [(v.avg, s.now)]
              let z1 : Cavern := { z with
                gen := clampTo 0 1000 (((v.avg - z.p.pMin) * 1000).tdiv z.p.taper)
                absorb := clampTo 0 1000 (((z.p.pMax - v.avg) * 1000).tdiv z.p.taper)
                rates := l, rate := (rateOf l).1, rateValid := (rateOf l).2 }
              let z2 : Cavern := { z1 with hold := z1.holdAfter v.quality s.manifold.state }
              (z.p.present = false ∨ z.p.channel ≠ some ch.val → t.cavern n = z) ∧
              (z.p.present = true → z.p.channel = some ch.val →
                (∃ vs w k, t.cavern n = { z2 with valve := vs, timer := w, mark := k }) ∧
                (s.ring.orders.length ≤ 8 → t.cavern n = z2.answered v.quality s.manifold.state (s.mode.mode == .auto) s.now)))) ∧
          (x.p.kind = .temperature →
            (s.portSound → ReportsOnly { u with stores := t.stores } t) ∧
            (∀ m,
              let z := s.store m
              let named := z.p.present = true ∧ ∃ l ∈ z.p.layers, l.channel = ch.val
              (¬ named → t.store m = z) ∧
              (named → t.store m = Store.recomputed { z with
                views := (z.p.layers.zip z.views).map fun lv => if lv.1.channel = ch.val then ⟨v.quality, v.avg⟩ else lv.2 })))))

/-- R15 to R18: an accepted reading of the bound grid channel sets GRID_DEV by its deviation, with a notice where the flag
changes, and GRID_DEV_SEEN with it; one that is not substituted and far enough from the last computation ends FALLBACK, stops
the fallback timer and triggers a computation, which follows in MANUAL, AUTO and HOLD with the clock running. The expiry of
its freshness, where it can be the next thing to happen (logs 2 and 3), raises GRID_METER_STALE, enters FALLBACK and clears GRID_DEV;
that of a substituted grid channel makes its underlying quality STALE and does nothing else. The order of the reports: log 39;
the items of GRID_DEVIATION, GRID_DEVIATION_END and GRID_METER_STALE: log 14. -/
def Obligations.GridSupervision : Prop :=
  (∀ (s : State) (h : Passing) (slot a b c : Byte) (rest : List Byte) (ch : Fin 96), s.passes h → rest.length ≤ 239 →
    s.tapMap h.src.toNat slot.toNat = some ch → s.gridBound = some ch.val → int24 a b c ≠ -8388608 →
    let body := 1 :: slot :: a :: b :: c :: rest
    let f := passingFrame h kSample body
    let x := (s.chan ch).accept (int24 a b c) s.now
    let fDev := sat32 ((if x.p.substFlag then x.p.substitute else x.inst) - s.plant.fNom)
    let dev := decide (s.plant.alarm < magnitude fDev)
    let u : State := { s.countReceived.setChan ch x with
      grid := { s.grid with dev := dev, seen := s.grid.seen || (dev && !s.grid.dev) } }
    let w := if dev = s.grid.dev then u else u.notify (if dev then .gridDeviation else .gridDeviationEnd) .none [.fig fDev]
    let back : State := { w with grid := { w.grid with tracking := true, timer := none } }
    let v := if s.grid.tracking then back else back.notify .gridMeterRestored .none []
    let triggers : Prop := x.p.substFlag = false ∧ (s.grid.lastComp = none ∨ ∃ t, s.grid.lastComp = some t ∧ t + s.plant.spacing ≤ s.now)
    (¬ triggers → exec (.sample h body) s = .next (w.forwardOrDrop f)) ∧
    (triggers → s.mode.mode = .off ∨ s.clock.state = .invalid → exec (.sample h body) s = .next (v.forwardOrDrop f)) ∧
    (triggers → s.mode.mode ≠ .off → s.clock.state ≠ .invalid → ∃ t r, exec (.sample h body) s = .next t ∧
      t.disp.last = some r ∧ r.trigger = .reading ∧ r.fDev = fDev ∧ r.count = s.disp.count + 1 ∧
      t.grid = ⟨true, none, some s.now, dev, s.grid.seen || (dev && !s.grid.dev)⟩ ∧
      t = State.forwardOrDrop (if s.mode.mode = .auto then (v.compute .reading fDev).commitmentRun r.req else v.compute .reading fDev) f)) ∧
  (∀ (s : State) (c : Fin 96) (d : Nat), s.held = false → s.timerNext d = true → (s.chan c).timer = some d → s.gridBound = some c.val →
    (s.chan c).quality = .settling ∨ (s.chan c).quality = .good ∨ (s.chan c).quality = .outOfRange →
    (s.chan c).p.substFlag = false → 0 ≤ s.plant.alarm →
    let u := (s.passTo d).setChan c { s.chan c with timer := none, quality := .stale }
    let w := u.notify .gridMeterStale .none [.fig c.val, match (s.chan c).last with | none => .none | some t => .fig t]
    let g : Grid := { s.grid with
      tracking := false, timer := if s.grid.tracking then some (u.now + s.plant.fallbackPeriod) else s.grid.timer, dev := false }
    let v : State := { w with grid := g }
    (∃ t, exec (.freshnessExpiry c) s = .next t ∧ t.grid = g) ∧
    ((∀ n, (s.cavern n).p.present = true → (s.cavern n).p.channel ≠ some c.val) →
      (∀ m, (s.store m).p.present = true → ∀ l ∈ (s.store m).p.layers, l.channel ≠ c.val) →
      exec (.freshnessExpiry c) s = .next (if s.grid.dev then v.notify .gridDeviationEnd .none [.fig 0] else v))) ∧
  (∀ (s : State) (c : Fin 96) (d : Nat), s.held = false → s.timerNext d = true → (s.chan c).timer = some d → s.gridBound = some c.val →
    (s.chan c).quality = .settling ∨ (s.chan c).quality = .good ∨ (s.chan c).quality = .outOfRange → (s.chan c).p.substFlag = true →
    exec (.freshnessExpiry c) s = .next ((s.passTo d).setChan c { s.chan c with timer := none, quality := .stale }))

/-- R70 to R74, R90, R93, R39: what a report of a present train does. One that agrees replaces the last report alone; one
that completes STOPPING or LOADING makes the train STANDBY, or LOADED at its P_min; one that completes STARTING makes it
IDLE_RUN and releases the converter, and one that completes UNLOADING makes it IDLE_RUN, with the manifold's answer where no
other train of its direction flows; a first report after UNKNOWN is adopted (the rest of adoption: ReportsAdopted); the event
TRIP_CLEAR sets trip clear seen, in a train that is not TRIPPED after it is made so, with STATE_MISMATCH; the event TRIPPED makes
the train TRIPPED, pushes a trip capture record of the state and setpoint it had, and raises TRAIN_TRIPPED, and one that is
TRIPPED already records what it had before the trip. Whichever of the two trips a train, in whatever state it is, its setpoint and
track become 0, one in START_WAIT leaves the queue, one in STARTING releases the converter, and where one in LOADING,
LOADED or UNLOADING was the last to flow the manifold changes over, or a changeover goes on. The order of effects and the items
of notices: logs 11, 14 and 45. -/
def Obligations.TrainReportsTaken : Prop :=
  ∀ (s : State) (h : Passing) (k c p3 p2 p1 p0 t1 t0 : Byte) (rest : List Byte) (i : Fin 8), s.passes h → rest.length ≤ 236 →
    s.trainNode h.src.toNat i → s.plant.convNode ≠ h.src.toNat → s.ring.forward.length < 24 →
    let body := k :: c :: p3 :: p2 :: p1 :: p0 :: t1 :: t0 :: rest
    let f := passingFrame h kStatus body
    let x := { s.train i with lastReport := some ⟨k, c, (word32 p3 p2 p1 p0).toNat⟩ }
    let now := s.countReceived
    let moved (y : Train) (cause : Cause) : Host.Outcome State Fault Refusal :=
      .next (((now.setTrain i y).setTrack i y.setpoint).trainNotice i (.code x.state.num) (.code y.state.num) cause |>.forwardOrDrop f)
    (∀ st, k = 1 → trainStateOf c = some st → x.state = st →
      exec (.status h body) s = .next (State.passedOn (s.setTrain i x) f)) ∧
    ((k = 1 ∧ c = 2 ∨ k = 2 ∧ c = 19) → x.state = .stopping →
      exec (.status h body) s = moved { x with state := .standby, entry := s.now, timer := none, setpoint := 0 } .report) ∧
    ((k = 1 ∧ c = 6 ∨ k = 2 ∧ c = 17) → x.state = .loading →
      exec (.status h body) s = moved { x with state := .loaded, entry := s.now, timer := none, setpoint := x.p.pMin } .report) ∧
    (let y : Train := { x with state := .idleRun, entry := s.now, timer := none, setpoint := 0 }
      let u := ((now.setTrain i y).setTrack i 0).trainNotice i (.code x.state.num) (.code 5) .report
      let done (c : Converter) := State.trainNotice { (now.setTrain i y).setTrack i 0 with conv := c } i (.code 4) (.code 5) .report
      (k = 1 ∧ c = 4 ∨ k = 2 ∧ c = 16 → x.state = .starting → s.conv.state = .busy i →
        (s.plant.cooldown ≠ 0 → exec (.status h body) s = .next ((done
          { s.conv with state := .cooldown, cooldown := some (s.now + s.plant.cooldown * 1000) }).forwardOrDrop f)) ∧
        (s.plant.cooldown = 0 → exec (.status h body) s = .next ((State.serve (done { s.conv with state := .free })).forwardOrDrop f) ∧
          (s.conv.queue = [] → exec (.status h body) s = .next ((done { s.conv with state := .free }).forwardOrDrop f)))) ∧
      (k = 1 ∧ c = 4 ∨ k = 2 ∧ c = 18 → x.state = .unloading → ∀ d : Direction, x.p.kind = d.kind →
        let alone := ∀ j, j ≠ i → (s.train j).flowing = true → (s.train j).p.kind ≠ x.p.kind
        (s.manifold.state = d.state → ¬ alone → exec (.status h body) s = .next (u.forwardOrDrop f)) ∧
        (s.manifold.state = d.state → alone → exec (.status h body) s = .next ((u.enterChangeover d).forwardOrDrop f)) ∧
        (s.manifold.state = .changeover → s.manifold.timer = none → (∃ j, j ≠ i ∧ (s.train j).flowing = true) →
          exec (.status h body) s = .next (u.forwardOrDrop f)) ∧
        (s.manifold.state = .changeover → s.manifold.timer = none → (∀ j, j ≠ i → (s.train j).flowing = false) →
          exec (.status h body) s = .next (State.forwardOrDrop
            (if s.plant.deadband = 0 then u.manifoldTo ⟨.idle, none, none⟩
             else { u with manifold := { s.manifold with timer := some (s.now + s.plant.deadband * 1000) } }) f)))) ∧
    (k = 2 → c = 21 →
      let y : Train := { x with
        state := .tripped, entry := s.now, timer := none, setpoint := 0, preState := some x.state, preSetpoint := x.setpoint, tripClear := true }
      let u := ((now.setTrain i y).setTrack i 0).trainNotice i (.code x.state.num) (.code 10) .adoption
      (x.state = .tripped → exec (.status h body) s = .next ((now.setTrain i { x with tripClear := true }).forwardOrDrop f)) ∧
      (x.state = .unknown → exec (.status h body) s = .next (u.forwardOrDrop f)) ∧
      (x.state = .offline ∨ x.state = .standby ∨ x.state = .idleRun ∨ x.state = .stopping → exec (.status h body) s =
        .next ((u.notify .stateMismatch (.train i) [.fig i.val, .code x.state.num, .code 21, .code 10]).forwardOrDrop f))) ∧
    (∀ st, st = TrainState.offline ∨ st = .standby ∨ st = .idleRun → k = 1 → trainStateOf c = some st → x.state = .unknown →
      exec (.status h body) s = moved { x with state := st, entry := s.now, timer := none, setpoint := 0 } .adoption) ∧
    (let leaves (u : State) : State := match s.manifold.state.flow with
        | some d => if ∃ j, j ≠ i ∧ (s.train j).flowing = true ∧ (s.train j).p.kind = d.kind then u else u.enterChangeover d
        | none =>
          if s.manifold.state = .changeover ∧ s.manifold.timer = none ∧ ∀ j, j ≠ i → (s.train j).flowing = false then
            if s.plant.deadband = 0 then u.manifoldTo ⟨.idle, none, none⟩
            else { u with manifold := { s.manifold with timer := some (s.now + s.plant.deadband * 1000) } }
          else u
      let gone (v : Converter) (cause : Cause) : State := State.trainNotice { (now.setTrain i { x with
          state := .tripped, entry := s.now, timer := none, setpoint := 0, starved := x.starved && x.state != .loaded
          preState := some x.state, preSetpoint := x.setpoint, tripClear := false }).setTrack i 0 with conv := v }
        i (.code x.state.num) (.code 10) cause
      let captured (st : TrainState) (sp : Int) (u : State) : State :=
        let r : Capture := ⟨if s.clock.state = .invalid then 0 else s.clock.plantMs, s.clock.state, st, sp, (word16 t1 t0).toNat,
          u.manifold.state, match x.p.kind.dir with | none => 0 | some d => u.plantFactor d⟩
        let l := (if x.stack.length < 2 then x.stack else x.stack.tail) ++ [r]
        let overran := x.overrun || decide (2 ≤ x.stack.length)
        (u.setTrain i { u.train i with stack := l, overrun := overran, tripClear := false }).notify .trainTripped (.train i)
          [.fig i.val, .fig (word16 t1 t0).toNat, .code st.num, .fig l.length, flagItem overran]
      let cleared (u : State) : State := State.notify (u.setTrain i { u.train i with tripClear := true })
        .stateMismatch (.train i) [.fig i.val, .code x.state.num, .code 21, .code 10]
      let left : Converter := { s.conv with
        queue := s.conv.queue.erase i, retry := if s.conv.queue.erase i = [] then none else s.conv.retry }
      let rests : Converter := { s.conv with state := .cooldown, cooldown := some (s.now + s.plant.cooldown * 1000) }
      let frees : Converter := { s.conv with state := .free }
      let ends (u : Cause → State) : Prop :=
        (c = 20 → exec (.status h body) s = .next ((captured x.state x.setpoint (u .report)).forwardOrDrop f)) ∧
        (c = 21 → x.state ≠ .unknown → exec (.status h body) s = .next ((cleared (u .adoption)).forwardOrDrop f))
      k = 2 →
      (x.state = .unknown ∨ x.state = .offline ∨ x.state = .standby ∨ x.state = .idleRun ∨ x.state = .stopping → ends (gone s.conv)) ∧
      (x.state = .startWait → ends (gone left)) ∧
      (x.state = .starting → s.conv.state = .busy i → s.plant.cooldown ≠ 0 → ends (gone rests)) ∧
      (x.state = .starting → s.conv.state = .busy i → s.plant.cooldown = 0 → i ∉ s.conv.queue →
        ends (fun cause => State.serve (gone frees cause)) ∧ (s.conv.queue = [] → ends (gone frees))) ∧
      (x.state = .loading ∨ x.state = .loaded ∨ x.state = .unloading → ends (fun cause => leaves (gone s.conv cause))) ∧
      (x.state = .tripped → c = 20 →
        exec (.status h body) s = .next ((captured (x.preState.getD .unknown) x.preSetpoint (now.setTrain i x)).forwardOrDrop f)))

/-- R72, R78 to R80, R41, R45: adoption of a report by a train that is UNKNOWN, OFFLINE, STANDBY or IDLE_RUN. The record takes the
implied state with its sequence timer, and STATE_MISMATCH tells of it but for a train that was UNKNOWN. LOADING and LOADED, the
latter at the reported power clamped into P_min to P_max, are taken where the manifold flows with the train or not at all, and
the manifold then enters the direction; where it flows the other way the train is ordered UNLOAD. STARTING takes a FREE
converter; where it is not FREE the train is ordered ABORT. A TRIPPED train stays so, with STATE_MISMATCH at a code that
differs from the last one. The order of effects and the items of notices: logs 11, 14 and 45; the
remembered direction at an entry: log 43. -/
def Obligations.ReportsAdopted : Prop :=
  ∀ (s : State) (h : Passing) (c p3 p2 p1 p0 t1 t0 : Byte) (rest : List Byte) (i : Fin 8) (st : TrainState), s.passes h → rest.length ≤ 236 →
    s.trainNode h.src.toNat i → s.plant.convNode ≠ h.src.toNat → trainStateOf c = some st →
    let body := 1 :: c :: p3 :: p2 :: p1 :: p0 :: t1 :: t0 :: rest
    let f := passingFrame h kStatus body
    let power : Int := (word32 p3 p2 p1 p0).toNat
    let x : Train := { s.train i with lastReport := some ⟨1, c, power⟩ }
    let now := s.countReceived
    let result (u : State) : Prop := exec (.status h body) s = .next (u.forwardOrDrop f)
    let became (u : State) (y : Train) (v : Converter) : State :=
      State.trainNotice { (u.setTrain i y).setTrack i y.setpoint with conv := v } i (.code x.state.num) (.code y.state.num) .adoption
    let at' (new : TrainState) (seconds : Option Nat) (sp : Int) : Train :=
      { x with state := new, entry := s.now, timer := seconds.map (s.now + · * 1000), setpoint := sp }
    let mismatch (u : State) (new : TrainState) : State :=
      u.notify .stateMismatch (.train i) [.fig i.val, .code x.state.num, .code c.toNat, .code new.num]
    let told (u : State) (new : TrainState) : State := if x.state = .unknown then u else mismatch u new
    let ordered (o : Order) (u : State) : State :=
      if s.ring.orders.length < 16 then u.place x.p.node o 0 else u.notify .queueFull (.train i) [.fig i.val, .code o.num]
    (x.state = .unknown ∨ x.state = .offline ∨ x.state = .standby ∨ x.state = .idleRun → x.state ≠ st →
      (st = .offline ∨ st = .standby ∨ st = .idleRun → result (told (became now (at' st none 0) s.conv) st)) ∧
      (st = .stopping → result (told (became now (at' .stopping (some x.p.tStop) 0) s.conv) .stopping)) ∧
      (st = .tripped → result (told (became now { at' .tripped none 0 with
        preState := some x.state, preSetpoint := x.setpoint, tripClear := false } s.conv) .tripped)) ∧
      (∀ d : Direction, x.p.kind = d.kind →
        let taken (u : State) : State :=
          if s.manifold.state = .idle ∨ s.manifold.state = .changeover then u.manifoldTo ⟨d.state, none, none⟩ else u
        (st = .unloading → result (told (taken (became now (at' .unloading (some x.p.tUnload) 0) s.conv)) .unloading)) ∧
        (s.manifold.state = .idle ∨ s.manifold.state = .changeover ∨ s.manifold.state = d.state →
          (st = .loading → result (told (taken (became now (at' .loading (some x.p.tLoad) 0) s.conv)) .loading)) ∧
          (st = .loaded → result (told (taken (became now (at' .loaded none (clampTo x.p.pMin x.p.pMax power)) s.conv)) .loaded))) ∧
        (∀ e : Direction, e ≠ d → s.manifold.state = e.state → st = .loading ∨ st = .loaded →
          result (told (became (ordered .unload (now.setTrain i x)) (at' .unloading (some x.p.tUnload) 0) s.conv) .unloading))) ∧
      (st = .starting → s.conv.state = .free →
        let u := became now (at' .starting (some x.p.tStart) 0) { s.conv with state := .busy i, starts := s.conv.starts + 1, retry := none }
        result (if x.state = .unknown ∨ x.state = .standby then u else mismatch u .starting)) ∧
      (st = .starting → s.conv.state ≠ .free →
        let u := ordered .abort (now.setTrain i x)
        result (mismatch (if x.state = .standby then u else became u (at' .standby none 0) s.conv) .standby))) ∧
    (x.state = .tripped → st ≠ .tripped → result
      (if (s.train i).lastReport.map (·.code) = some c then now.setTrain i x else mismatch (now.setTrain i x) .tripped))

/-- R27, R28, R87, R92, R94, R95: what a report of a valve or of the converter does, and that one of any other node does
nothing but pass on. A valve report moves the valve as the table of R27 states, with VALVE_MISMATCH where it is adopted and
VALVE_RECOVERED out of FAULT; a valve that opens is closed again where the cavern carries a mark, or loses the mark where no
order finds room, and is evaluated for isolation without one; a valve that has closed is evaluated for reopening (CavernsAnswer).
A FAULT of the converter in BUSY aborts the start; AVAILABLE serves the head of the start queue. The order of effects and the
items of notices: logs 11, 14, 44 and 45. -/
def Obligations.ValveAndConverterReports : Prop :=
  ∀ (s : State) (h : Passing) (k c p3 p2 p1 p0 t1 t0 : Byte) (rest : List Byte), s.passes h → rest.length ≤ 236 →
    let body := k :: c :: p3 :: p2 :: p1 :: p0 :: t1 :: t0 :: rest
    let f := passingFrame h kStatus body
    let node := h.src.toNat
    let now := s.countReceived
    (s.unknownNode node → s.plant.convNode ≠ node → exec (.status h body) s = .next (now.forwardOrDrop f)) ∧
    (∀ v, s.valveNode node v → s.plant.convNode ≠ node → k = 1 →
      let x := s.cavern v
      let put (vs : ValveState) := now.setCavern v { x with valve := vs, timer := none }
      let moving (vs : ValveState) := now.setCavern v { x with valve := vs, timer := some (s.now + x.p.travel * 1000) }
      let result (u : State) : Prop := exec (.status h body) s = .next (u.forwardOrDrop f)
      let mismatch (u : State) := u.notify .valveMismatch (.cavern v) [.fig v.val, .code x.valve.num, .code c.toNat]
      let recovered (u : State) := u.notify .valveRecovered (.cavern v) []
      let opens (u : State) : Prop :=
        (x.mark = .none → result (u.isolate v)) ∧
        (x.mark ≠ .none → s.portSound → s.ring.orders.length < 16 → result ((u.place x.p.node .valveClose 0).setCavern v
          { x with valve := .closing, timer := some (s.now + x.p.travel * 1000) })) ∧
        (x.mark ≠ .none → s.portSound → 16 ≤ s.ring.orders.length →
          result ((u.setCavern v { u.cavern v with mark := .none }).notify .queueFull (.cavern v) [.fig v.val, .code 12]))
      (c = 33 → x.valve = .closing → s.mode.mode ≠ .auto → exec (.status h body) s = .next ((put .closed).forwardOrDrop f)) ∧
      (c = 32 → x.valve = .opening → x.mark = .none → s.manifold.state.flow = none →
        exec (.status h body) s = .next ((put .opened).forwardOrDrop f)) ∧
      (c = 33 → x.valve = .unknown ∨ x.valve = .closing → result ((put .closed).reopen v)) ∧
      (c = 33 → x.valve = .opened → result ((mismatch (put .closed)).reopen v)) ∧
      (c = 33 → x.valve = .fault → result ((recovered (put .closed)).reopen v)) ∧
      (c = 33 → x.valve = .closed ∨ x.valve = .opening → result now) ∧
      (c = 32 → x.valve = .unknown ∨ x.valve = .opening → opens (put .opened)) ∧
      (c = 32 → x.valve = .closed → opens (mismatch (put .opened))) ∧
      (c = 32 → x.valve = .fault → opens (recovered (put .opened))) ∧
      (c = 32 → x.valve = .opened ∨ x.valve = .closing → result now) ∧
      (c = 34 → x.valve = .closed → opens (mismatch (moving .opening))) ∧
      (c = 34 → x.valve = .opened → result (mismatch (moving .closing))) ∧
      (c = 35 → x.valve = .fault → result now) ∧
      (c = 35 → x.valve ≠ .fault → exec (.status h body) s =
        .next (((put .fault).notify .valveFault (.cavern v) [.fig v.val, .code x.valve.num]).forwardOrDrop f)) ∧
      (c = 34 → x.valve = .unknown ∨ x.valve = .opening ∨ x.valve = .closing ∨ x.valve = .fault →
        exec (.status h body) s = .next (now.forwardOrDrop f))) ∧
    (s.unknownNode node → s.plant.convNode = node → k = 1 →
      let faulted : State := { now with conv := { s.conv with state := .fault, cooldown := none, retry := none, faults := s.conv.faults + 1 } }
      (c = 48 → s.conv.state = .fault → exec (.status h body) s = .next (now.forwardOrDrop f)) ∧
      (c = 48 → s.conv.state = .free ∨ s.conv.state = .cooldown → exec (.status h body) s =
        .next ((faulted.notify .converterFault .none [.code s.conv.state.num, .none]).forwardOrDrop f)) ∧
      (c = 48 → ∀ i, s.conv.state = .busy i → (s.train i).state = .starting → ∃ t : State, exec (.status h body) s = .next t ∧
        t.conv = faulted.conv ∧ (∀ j, j ≠ i → t.train j = s.train j) ∧ t.train i =
          { s.train i with state := .standby, entry := s.now, timer := none, setpoint := 0 } ∧
        t.disp = (s.setTrack i 0).disp ∧ t.caverns = s.caverns ∧ t.stores = s.stores ∧ t.chans = s.chans ∧ t.manifold = s.manifold ∧
        t.grid = s.grid ∧ t.clock = s.clock ∧ t.sched = s.sched ∧ t.plant = s.plant ∧ t.mgr = s.mgr ∧ t.mode = s.mode ∧ s.abides t) ∧
      (c = 48 → s.portSound → ∀ i, s.conv.state = .busy i → (s.train i).state = .starting →
        let w := faulted.notify .converterFault .none [.code s.conv.state.num, .fig i.val]
        let aborted (u : State) : State := State.notify (State.trainNotice ((u.setTrain i { s.train i with
            state := .standby, entry := s.now, timer := none, setpoint := 0 }).setTrack i 0) i (.code 4) (.code 2) .order)
          .startFailed (.train i) [.fig i.val, .code 4]
        (s.ring.orders.length < 16 →
          exec (.status h body) s = .next ((aborted (w.place (s.train i).p.node .abort 0)).forwardOrDrop f)) ∧
        (16 ≤ s.ring.orders.length →
          exec (.status h body) s = .next ((aborted (w.notify .queueFull (.train i) [.fig i.val, .code 2])).forwardOrDrop f))) ∧
      (c = 49 → s.conv.state ≠ .fault → exec (.status h body) s = .next (now.forwardOrDrop f)) ∧
      (c = 49 → s.conv.state = .fault → s.conv.queue = [] → exec (.status h body) s =
        .next ((State.notify { now with conv := { s.conv with state := .free } } .converterAvailable .none []).forwardOrDrop f)) ∧
      (c = 49 → s.conv.state = .fault → s.portSound → ∀ i rest, s.conv.queue = i :: rest → (s.train i).state = .startWait →
        let w := State.notify { now with conv := { s.conv with state := .free } } .converterAvailable .none []
        (s.ring.orders.length < 16 → exec (.status h body) s = .next (State.forwardOrDrop (State.trainNotice
          { ((w.place (s.train i).p.node .start 0).setTrain i { s.train i with
              state := .starting, entry := s.now, timer := some (s.now + (s.train i).p.tStart * 1000), setpoint := 0 }).setTrack i 0 with
            conv := { s.conv with state := .busy i, queue := rest, retry := none, starts := s.conv.starts + 1 } }
          i (.code 3) (.code 4) .order) f)) ∧
        (16 ≤ s.ring.orders.length → exec (.status h body) s = .next (State.forwardOrDrop
          { w.notify .queueFull (.train i) [.fig i.val, .code 1] with
            conv := { s.conv with state := .free, retry := some (s.now + 1000) } } f))))

/-! ## Tables -/

/-- R168, R169, R102, R172: a CHECK entry replaces the check word, a DISPATCH entry the pending parameter set, a PLANT
entry the plant table, the last only in OFF with the manifold IDLE; each restarts edit-quiet for 10 s. A change of the
interval length empties the schedule; a loss of the grid binding enters FALLBACK (R16), and GRID_DEV is judged where the
binding, f_nom or the alarm threshold changed (R18, log 24). A field out of range, or a node field equal to the part's own node,
is refused RANGE, as are class enables beyond their five bits (log 22). The ANSWER after the effects: log 11; how many entries a
command takes: log 21. -/
def Obligations.PlantSetAndCheckWrites : Prop :=
  ∀ (s : State) (snd : Sender) (bytes : List Byte) (n : Nat), s.mayCommand snd.src → s.mgr.work = none → 1 ≤ n →
    let f (t : TableId) := sentTo s.node snd kTable (tableFrameBody t 0 1 bytes)
    let ws := wordsOf bytes
    let quiet : State := { s.heard with mgr := { s.mgr with quiet := some (s.now + 10000) } }
    (∀ w, bytes.length = 4 → ws = [w] → exec (.checkWrite (.frame snd 0 1 bytes n)) s =
      .next (State.answer { quiet with mgr := { quiet.mgr with checkWord := w } } (f .check) [.done] [])) ∧
    (bytes.length = 36 →
      (dispatchParams ws = none → exec (.dispatchWrite (.frame snd 0 1 bytes n)) s = .next (s.heard.answer (f .dispatch) [.range] [])) ∧
      (∀ p, dispatchParams ws = some p → exec (.dispatchWrite (.frame snd 0 1 bytes n)) s =
        .next (State.answer { quiet with disp := { s.disp with next := p } } (f .dispatch) [.done] []))) ∧
    (bytes.length = 96 →
      (s.mode.mode ≠ .off ∨ s.manifold.state ≠ .idle →
        exec (.plantTableWrite (.frame snd 0 1 bytes n)) s = .next (s.heard.answer (f .plant) [.state] [])) ∧
      (s.mode.mode = .off → s.manifold.state = .idle →
        (plantParams ws = none → exec (.plantTableWrite (.frame snd 0 1 bytes n)) s = .next (s.heard.answer (f .plant) [.range] [])) ∧
        (∀ p, plantParams ws = some p →
          (p.master = s.node.toNat ∨ p.gridNode = s.node.toNat ∨ p.convNode = s.node.toNat →
            exec (.plantTableWrite (.frame snd 0 1 bytes n)) s = .next (s.heard.answer (f .plant) [.range] [])) ∧
          (p.master ≠ s.node.toNat → p.gridNode ≠ s.node.toNat → p.convNode ≠ s.node.toNat →
            ∃ t : State, exec (.plantTableWrite (.frame snd 0 1 bytes n)) s = .next (t.answer (f .plant) [.done] []) ∧
              t.plant = p ∧ t.mgr = quiet.mgr ∧ t.chans = s.chans ∧ t.caverns = s.caverns ∧ t.stores = s.stores ∧
              t.manifold = s.manifold ∧ t.clock = s.clock ∧ t.disp.active = s.disp.active ∧ t.mode = s.mode ∧ s.abides t ∧
              t.grid.lastComp = s.grid.lastComp ∧
              (let lost := s.gridBound ≠ none ∧ t.gridBound = none ∧ s.grid.tracking = true
                let judged := s.gridBound ≠ t.gridBound ∨ p.fNom ≠ s.plant.fNom ∨ p.alarm ≠ s.plant.alarm
                t.grid.tracking = (s.grid.tracking && !decide lost) ∧
                t.grid.timer = (if lost then some (s.now + p.fallbackPeriod) else s.grid.timer) ∧
                t.grid.dev = (if judged then decide (p.alarm < magnitude t.evalDeviation) else s.grid.dev) ∧
                t.grid.seen = (s.grid.seen || (t.grid.dev && !s.grid.dev))) ∧
              (p.convNode ≠ 0 ∨ s.conv.state ≠ .fault → t.conv = s.conv ∧ t.trains = s.trains ∧ t.disp = s.disp) ∧
              (s.clock.state = .invalid → t.sched = s.sched) ∧
              (s.clock.state ≠ .invalid → p.interval ≠ s.plant.interval →
                t.sched = ⟨[], ⟨s.clock.plantMs / 1000 / p.interval, p.fallbackNet, p.fallbackRes, 0, false, .fallback⟩, none, 0⟩) ∧
              (s.clock.state ≠ .invalid → p.interval = s.plant.interval →
                t.sched.table = s.sched.table ∧ t.sched.active = s.sched.active ∧ t.sched.trim = s.sched.trim)))))

/-- R2, R3, R23, R24, R47, R48, R59, R60: what one taken entry of each record table leaves; no other record of its
table changes. A write of the grid channel enters FALLBACK and clears or sets GRID_DEV (R16, R18). The ANSWER after the effects:
log 11; the blank fields of a slot that is absent or newly present: log 31; how many entries a command takes: log 21. -/
def Obligations.RecordWrites : Prop :=
  ∀ (s : State) (snd : Sender) (first : Byte) (bytes : List Byte) (n : Nat), s.mayCommand snd.src → s.mgr.work = none → 1 ≤ n →
    let f (t : TableId) := sentTo s.node snd kTable (tableFrameBody t first 1 bytes)
    let ws := wordsOf bytes
    let own := s.node.toNat
    (∀ (c : Fin 96) (p : ChanParams), first.toNat = c.val → bytes.length = 52 → chanParams ws = some p → p.source ≠ own →
      p.source ≠ 0 → (∃ d, d ≠ c ∧ (s.chan d).present = true ∧ (s.chan d).p.source = p.source ∧ (s.chan d).p.slot = p.slot) →
      exec (.channelWrite (.frame snd first 1 bytes n)) s = .next (s.heard.answer (f .channel) [.duplicate] [])) ∧
    (∀ (c : Fin 96) (p : ChanParams), first.toNat = c.val → bytes.length = 52 → chanParams ws = some p → p.source ≠ own →
      (p.source = 0 ∨ ∀ d, d ≠ c → (s.chan d).present = true → (s.chan d).p.source = p.source → (s.chan d).p.slot ≠ p.slot) →
      ∃ t : State, exec (.channelWrite (.frame snd first 1 bytes n)) s = .next (t.answer (f .channel) [.done] []) ∧
        (∀ d, d ≠ c → t.chan d = s.chan d) ∧ t.chan c =
          { p := p, window := [], inst := clampTo p.rangeLow p.rangeHigh 0, avg := clampTo p.rangeLow p.rangeHigh 0, quality := .none
            timer := some (s.now + p.freshness), last := none, accepted := 0, invalid := 0 } ∧
        (s.plant.gridChannel ≠ some c.val → t.grid = s.grid) ∧
        (s.plant.gridChannel = some c.val → t.grid.tracking = false ∧ t.grid.lastComp = s.grid.lastComp ∧
          t.grid.timer = (if s.grid.tracking then some (s.now + s.plant.fallbackPeriod) else s.grid.timer) ∧
          t.grid.dev = decide (s.plant.alarm < magnitude (if p.kind = .frequency ∧ p.substFlag = true ∧ p.source = s.plant.gridNode ∧
            s.plant.gridNode ≠ 0 then sat32 (p.substitute - s.plant.fNom) else 0)) ∧
          t.grid.seen = (s.grid.seen || (t.grid.dev && !s.grid.dev))) ∧
        t.plant = s.plant ∧ t.trains = s.trains ∧ t.conv = s.conv ∧ t.manifold = s.manifold ∧ t.clock = s.clock ∧
        t.sched = s.sched ∧ t.disp = s.disp ∧ t.mode = s.mode ∧ t.mgr = { s.mgr with quiet := some (s.now + 10000) } ∧ s.abides t) ∧
    (∀ (c : Fin 4) (p : CavernParams), first.toNat = c.val → bytes.length = 40 → cavernParams ws = some p → p.node ≠ own →
      (s.cavern c).p.present = false ∨ (s.cavern c).valve = .closed → s.mode.mode ≠ .auto →
      (p.present = true → ∀ d, d ≠ c → (s.cavern d).p.present = true → (s.cavern d).p.node ≠ p.node) →
      let x := s.cavern c
      ∃ t : State, exec (.cavernWrite (.frame snd first 1 bytes n)) s = .next (t.answer (f .cavern) [.done] []) ∧
        (∀ d, d ≠ c → t.cavern d = s.cavern d) ∧ (t.cavern c).p = p ∧ (t.cavern c).timer = none ∧ (t.cavern c).rates = [] ∧
        (t.cavern c).rateValid = false ∧
        (t.cavern c).valve = (if x.p.present ∧ p.present ∧ x.p.node = p.node then x.valve else .unknown) ∧
        (t.cavern c).mark = (if x.p.present ∧ p.present then x.mark else .none) ∧
        (p.present = false → (t.cavern c).gen = 0 ∧ (t.cavern c).absorb = 0 ∧ (t.cavern c).hold = false) ∧
        t.plant = s.plant ∧ t.chans = s.chans ∧ t.trains = s.trains ∧ t.stores = s.stores ∧ t.conv = s.conv ∧ t.manifold = s.manifold ∧
        t.clock = s.clock ∧ t.sched = s.sched ∧ t.disp = s.disp ∧ t.mode = s.mode ∧ t.grid = s.grid ∧ s.abides t) ∧
    (∀ (m : Fin 3) (p : StoreParams), first.toNat = m.val → bytes.length = 92 → storeParams ws = some p → channelTwice p.layers = false →
      (∀ i, (s.train i).assignedTo m = true → (s.train i).flowing = false) →
      ∃ t : State, exec (.storeWrite (.frame snd first 1 bytes n)) s = .next (t.answer (f .store) [.done] []) ∧
        (∀ d, d ≠ m → t.store d = s.store d) ∧ (t.store m).p = p ∧
        (p.present = true → (t.store m).views = p.layers.map (fun l =>
            ⟨(s.viewOf l.channel .temperature).quality, (s.viewOf l.channel .temperature).avg⟩) ∧
          (t.store m).energy = (t.store m).energyOf ∧ (t.store m).quality = (t.store m).qualityOf) ∧
        (p.present = false → (t.store m).energy = 0 ∧ (t.store m).quality = .unavailable ∧ (t.store m).gen = 0 ∧ (t.store m).absorb = 0) ∧
        t.plant = s.plant ∧ t.chans = s.chans ∧ t.trains = s.trains ∧ t.caverns = s.caverns ∧ t.conv = s.conv ∧
        t.manifold = s.manifold ∧ t.clock = s.clock ∧ t.sched = s.sched ∧ t.disp = s.disp ∧ t.mode = s.mode ∧ t.grid = s.grid ∧
        s.abides t) ∧
    (∀ (i : Fin 8) (p : TrainParams), first.toNat = i.val → bytes.length = 48 → trainParams ws = some p → p.node ≠ own →
      (s.train i).present = false ∨ (s.train i).state = .offline →
      (p.kind ≠ .absent → ∀ j, j ≠ i → (s.train j).present = true →
        (s.train j).p.node ≠ p.node ∧ ((s.train j).p.kind = p.kind → (s.train j).p.position ≠ p.position)) →
      let x := s.train i
      ∃ t : State, exec (.trainWrite (.frame snd first 1 bytes n)) s = .next (t.answer (f .train) [.done] []) ∧
        (∀ j, j ≠ i → t.train j = s.train j) ∧
        (p.kind = .absent → t.train i = { Train.zeroed with p := p, stack := x.stack, overrun := x.overrun }) ∧
        (p.kind ≠ .absent → x.present = true → t.train i = { x with p := p }) ∧
        (p.kind ≠ .absent → x.present = false → t.train i =
          { Train.zeroed with p := p, state := .offline, entry := s.now, stack := x.stack, overrun := x.overrun }) ∧
        t.plant = s.plant ∧ t.chans = s.chans ∧ t.stores = s.stores ∧ t.caverns = s.caverns ∧ t.conv = s.conv ∧
        t.manifold = s.manifold ∧ t.clock = s.clock ∧ t.sched = s.sched ∧ t.disp = s.disp ∧ t.mode = s.mode ∧ t.grid = s.grid ∧
        s.abides t)

/-- R167, and the model's choice (log 21) of how a frame's entries may fall into several events: a frame that is no TABLE
frame of its form is refused RANGE as a whole; a refused entry leaves the state as it was; a frame of m entries is answered
with m codes; and entries taken in two events leave what they leave when taken in one. -/
def Obligations.TableFrames : Prop :=
  (∀ (s : State) (t : TableId) (index : Nat) (ws : List Word), (s.entryAt t index ws).1 ≠ .done → (s.entryAt t index ws).2 = s) ∧
  (∀ (t : TableId) (a b index : Nat) (ws : List (List Word)) (s : State),
    let x := State.takeTable t a index ws s
    let y := State.takeTable t b (index + x.1.length) x.2.1 x.2.2
    State.takeTable t (a + b) index ws s = (x.1 ++ y.1, y.2.1, y.2.2)) ∧
  (∀ (s : State) (t : TableId) (snd : Sender) (first count : Byte) (bytes : List Byte) (n : Nat), s.mayCommand snd.src →
    s.mgr.work = none → bytes.length ≤ 241 →
    let f := sentTo s.node snd kTable (tableFrameBody t first count bytes)
    (count.toNat = 0 ∨ 16 < count.toNat ∨ bytes.length < 4 * t.words * count.toNat →
      exec (t.command (.frame snd first count bytes n)) s = .next (s.heard.answer f [.range] [])) ∧
    (1 ≤ count.toNat → count.toNat ≤ 16 → 4 * t.words * count.toNat ≤ bytes.length → count.toNat ≤ n →
      ∃ (codes : List Code) (u : State), exec (t.command (.frame snd first count bytes n)) s = .next (u.answer f codes []) ∧
        codes.length = count.toNat ∧ u.mgr.work = none)) ∧
  (∀ (s : State) (t : TableId) (n : Nat), s.mgr.work = none → exec (t.command (.more n)) s = .next s)

/-! ## Schedule and clock -/

/-- R104 to R108: one entry of a SCHEDULE frame is checked in the rule's order. Taken, it stands in the table in place of any
entry for its interval, or, as a withdrawal, leaves none there; every other entry stays, in ascending order, and so does
everything else. -/
def Obligations.ScheduleEntries : Prop :=
  ∀ (s : State) (snd : Sender) (bytes rest : List Byte) (r : RawEntry), s.mayCommand snd.src → bytes.length = 15 →
    rest.length ≤ 228 → scheduleEntry bytes = some r →
    let body := 1 :: (bytes ++ rest)
    let f := sentTo s.node snd kSchedule body
    let refused (c : Code) : Prop := exec (.schedule snd body) s = .next (s.heard.answer f [c] [])
    let inRange := r.interval ≤ 4294967295 / s.plant.interval ∧ 1 ≤ r.revision ∧
      (r.withdraw = true ∨ (-2000000 ≤ r.net ∧ r.net ≤ 2000000 ∧ r.reserve ≤ 500000 ∧ r.tag ≤ 2))
    let late := r.interval * s.plant.interval * 1000 ≤ s.clock.plantMs + s.plant.gateLead * 1000
    let held := s.sched.table.find? fun e => e.interval == r.interval
    let stale := ∃ e, held = some e ∧ r.revision ≤ e.revision
    let full := held = none ∧ r.withdraw = false ∧ 192 ≤ s.sched.table.length
    (s.clock.state = .invalid → refused .noTime) ∧
    (s.clock.state ≠ .invalid → ¬ inRange → refused .range) ∧
    (s.clock.state ≠ .invalid → inRange → late → refused .tooLate) ∧
    (s.clock.state ≠ .invalid → inRange → ¬ late → stale → refused .staleRevision) ∧
    (s.clock.state ≠ .invalid → inRange → ¬ late → full → refused .full) ∧
    (s.clock.state ≠ .invalid → inRange → ¬ late → ¬ stale → ¬ full → s.scheduleOrdered → ∃ l : List Entry,
      exec (.schedule snd body) s = .next (State.answer { s.heard with sched := { s.sched with table := l } } f [.done] []) ∧
      l.Pairwise (fun a b => a.interval < b.interval) ∧
      (r.withdraw = true → ∀ e, e ∈ l ↔ e ∈ s.sched.table ∧ e.interval ≠ r.interval) ∧
      (r.withdraw = false → ∀ e, e ∈ l ↔ (e ∈ s.sched.table ∧ e.interval ≠ r.interval) ∨
        (e.interval = r.interval ∧ e.net = r.net ∧ e.reserve = r.reserve ∧ e.revision = r.revision ∧ e.ramp = r.ramp ∧ e.tag.item = .code r.tag)))

/-- R98 to R101, R103, R110: a mark of more than 999 ms is refused RANGE and touches nothing; the first mark sets the
clock and forms the active entry; one before the current interval is refused TIME_BACK; one within it sets the plant
time; one beyond takes every boundary up to it. Every mark restarts the mark timer, and makes an UNSYNCED clock VALID.
The order of effects: logs 11 and 25. -/
def Obligations.TimeMarks : Prop :=
  ∀ (s : State) (all : Bool) (snd : Sender) (a b c d m1 m0 : Byte) (rest : List Byte), s.mayCommand snd.src → rest.length ≤ 238 →
    s.portSound → 0 < s.plant.interval →
    let body := a :: b :: c :: d :: m1 :: m0 :: rest
    let f := sentTo (if all then 255 else s.node) snd kTime body
    let milli := (word16 m1 m0).toNat
    let t := (word32 a b c d).toNat * 1000 + milli
    let mark := some (s.now + s.plant.markTimeout * 1000)
    let k := t / 1000 / s.plant.interval
    let active : Entry := ((s.sched.table.find? fun e => e.interval == k).getD ⟨k, s.plant.fallbackNet, s.plant.fallbackRes, 0, false, .fallback⟩)
    (999 < milli → exec (.time all snd body) s = .next (s.heard.answer f [.range] [])) ∧
    (milli ≤ 999 → s.clock.state = .invalid → ∃ (u : State) (l : List Entry), exec (.time all snd body) s = .next (u.answer f [.done] []) ∧
      ReportsOnly { s.heard with clock := ⟨.valid, t, mark⟩, sched := ⟨l, active, none, 0⟩ } u ∧
      ∀ e, e ∈ l ↔ e ∈ s.sched.table ∧ k < e.interval) ∧
    (milli ≤ 999 → s.clock.state = .valid → t < s.interval * s.plant.interval * 1000 →
      exec (.time all snd body) s = .next (State.answer { s.heard with clock := { s.clock with mark := mark } } f [.timeBack] [])) ∧
    (milli ≤ 999 → s.clock.state = .valid → k = s.interval →
      exec (.time all snd body) s = .next (State.answer { s.heard with
        clock := ⟨.valid, t, mark⟩
        sched := { s.sched with ending := s.sched.ending.filter fun x => decide (t < x.2) } } f [.done] [])) ∧
    (milli ≤ 999 → s.clock.state = .valid → s.interval < k → s.scheduleOrdered → ∃ (u : State) (l : List Entry) (g : Option (Entry × Nat)),
      exec (.time all snd body) s = .next (u.answer f [.done] []) ∧
      ReportsOnly { s.heard with clock := ⟨.valid, t, mark⟩, sched := ⟨l, active, g, 0⟩ } u ∧
      (∀ e, e ∈ l ↔ e ∈ s.sched.table ∧ k < e.interval) ∧
      (∀ x, g = some x → x.2 = (k * s.plant.interval + s.plant.rampHalf) * 1000 ∧ t < x.2)) ∧
    (milli ≤ 999 → s.clock.state = .unsynced → ∃ (u : State) (code : Code), exec (.time all snd body) s = .next (u.answer f [code] []) ∧
      u.clock.state = .valid ∧ u.clock.mark = mark ∧ u.mode.unsynced = false ∧
      (t < s.interval * s.plant.interval * 1000 → code = .timeBack ∧ u.clock.plantMs = s.clock.plantMs ∧ u.sched = s.sched) ∧
      (s.interval * s.plant.interval * 1000 ≤ t → code = .done ∧ u.clock.plantMs = t))

/-- R98, R103, R109 to R111: at a boundary the stored entry for the interval, or the fallback with SCHEDULE_GAP, becomes active
and leaves the table, the one before becomes the ending entry until the end of its ramp, the trim is 0, and the air check
(R42) and then the heat check (R54, log 41) run; at the end of ramp the ending entry is discarded; at its last millisecond the
plant time holds. As commands they happen where they can be next (logs 2 and 3). The items of SCHEDULE_GAP, which are the interval, the
fallback net and the fallback reserve (R111), in that order: log 14. -/
def Obligations.PlantTimeEvents : Prop :=
  ∀ (s : State) (d : Nat), s.held = false →
    let u := s.passTo d
    let k := u.interval
    let stored := s.sched.table.find? fun e => e.interval == k
    let active : Entry := stored.getD ⟨k, s.plant.fallbackNet, s.plant.fallbackRes, 0, false, .fallback⟩
    let v : State := { u with sched :=
      { table := s.sched.table.filter fun e => e.interval != k
        active := active
        ending := if s.plant.rampHalf = 0 then none else some (s.sched.active, (k * s.plant.interval + s.plant.rampHalf) * 1000)
        trim := 0 } }
    let w := if stored = none then v.notify .scheduleGap .none [.fig k, .fig s.plant.fallbackNet, .fig s.plant.fallbackRes] else v
    (s.boundaryAt = some d → s.plantNext d [] [s.rampEndAt] = true →
      exec .boundaryEvent s = .next ((w.airCheck k active.net).heatCheck k active.net) ∧
      (s.portSound → ReportsOnly v ((w.airCheck k active.net).heatCheck k active.net)) ∧
      k = s.interval + 1 ∧ u.clock.plantMs = k * s.plant.interval * 1000) ∧
    (s.rampEndAt = some d → s.plantNext d [s.boundaryAt] [] = true →
      exec .endOfRamp s = .next { u with sched := { s.sched with ending := none } }) ∧
    (s.limitAt = some d → s.plantNext d [s.boundaryAt, s.rampEndAt] [] = true →
      exec .plantTimeLimit s = .next u ∧ u.clock.plantMs = 4294967295999) ∧
    (s.boundaryAt = none → exec .boundaryEvent s = .next s) ∧ (s.rampEndAt = none → exec .endOfRamp s = .next s) ∧
    (s.limitAt = none → exec .plantTimeLimit s = .next s)

/-! ## Directives -/

/-- R139, R141: a MODE directive for OFF or MANUAL is taken at once, one for AUTO gives AUTO without a hold cause and
HOLD with one, and is refused NO_TIME while the clock is INVALID; any other value is refused RANGE; a request for the
present mode changes nothing. The change to OFF adopts a marked parameter set, the change out of OFF or MANUAL starts
the tracks at the setpoints, and the change out of AUTO clears the stop candidate. The ANSWER after the effects, and
its items where the code is not DONE: logs 11 and 27; the argument as one figure of four bytes: log 7; the mark of a Δt of 0:
log 30. -/
def Obligations.ModeDirective : Prop :=
  ∀ (s : State) (snd : Sender) (a3 a2 a1 a0 : Byte) (rest : List Byte), s.mayCommand snd.src → rest.length ≤ 239 → s.portSound →
    let arg := a3 :: a2 :: a1 :: a0 :: rest
    let f := directiveFrame s.node snd 1 arg
    let v := (word32 a3 a2 a1 a0).toNat
    let same (c : Code) : Prop := exec (.mode snd arg) s = .next (s.heard.answer f [c] s.mode.items)
    let becomes (u : State) : Prop := ∃ w, ReportsOnly u w ∧ exec (.mode snd arg) s = .next (w.answer f [.done] u.mode.items)
    let goes (m : Mode) : State := { s.heard with mode := { s.mode with mode := m } }
    let stopped : Commitment := if s.mode.mode = .auto then { s.commit with stop := none } else s.commit
    let afresh : Dispatch := if s.mode.mode.dispatches then s.disp else
      { s.disp with tracks := s.trains.map (fun t => if t.present then t.setpoint else 0), fresh := true }
    (2 < v → same .range) ∧ (v = 2 → s.clock.state = .invalid → same .noTime) ∧
    (v = 0 → s.mode.mode = .off → same .done) ∧ (v = 1 → s.mode.mode = .manual → same .done) ∧
    (v = 2 → s.clock.state ≠ .invalid → s.mode.mode = (if s.mode.clear then .auto else .hold) → same .done) ∧
    (v = 1 → s.mode.mode ≠ .manual → becomes { goes .manual with commit := stopped }) ∧
    (v = 0 → s.mode.mode ≠ .off → becomes { goes .off with
      commit := stopped
      disp := if s.disp.swap then { s.disp with active := s.disp.next, swap := false } else s.disp
      mgr := if s.disp.swap then { s.mgr with quiet := some (s.now + 10000) } else s.mgr }) ∧
    (v = 2 → s.clock.state ≠ .invalid → s.mode.clear = false → s.mode.mode ≠ .hold →
      becomes { goes .hold with commit := stopped, disp := afresh }) ∧
    (v = 2 → s.clock.state ≠ .invalid → s.mode.clear = true → s.mode.mode ≠ .auto → ∃ w : State,
      exec (.mode snd arg) s = .next (w.answer f [.done] (goes .auto).mode.items) ∧ w.mode = (goes .auto).mode ∧ w.disp = afresh ∧
      w.commit = s.commit ∧ w.trains = s.trains ∧ w.manifold = s.manifold ∧ w.sched = s.sched ∧ w.clock = s.clock)

/-- R19, R83, R112, R118, R169, R170: TRIM holds a value within 100,000 kW either way, SWAP marks the pending set and
adopts it at once in OFF, CLEAR_LATCH ends the seen flag unless the deviation stands, TRAIN_AVAIL sets the
availability of a present slot. (The cause its notice carries is not stated: log 16.) The ANSWER after the effects:
log 11; the availability codes of the argument and the notice: log 15; the notice's items: log 14. -/
def Obligations.OtherDirectives : Prop :=
  ∀ (s : State) (snd : Sender) (a3 a2 a1 a0 : Byte) (rest : List Byte), s.mayCommand snd.src → rest.length ≤ 239 →
    let arg := a3 :: a2 :: a1 :: a0 :: rest
    let f (code : Byte) := directiveFrame s.node snd code arg
    let quiet : Manager := { s.mgr with quiet := some (s.now + 10000) }
    (s.clock.state = .invalid → exec (.trim snd arg) s = .next (s.heard.answer (f 2) [.noTime] [])) ∧
    (s.clock.state ≠ .invalid → exec (.trim snd arg) s = .next (State.answer { s.heard with
      sched := { s.sched with trim := max (-100000) (min 100000 (word32 a3 a2 a1 a0).toInt) } } (f 2) [.done] [])) ∧
    (s.mode.mode ≠ .off → exec (.swap snd arg) s =
      .next (State.answer { s.heard with disp := { s.disp with swap := true }, mgr := quiet } (f 3) [.done] [])) ∧
    (s.mode.mode = .off → exec (.swap snd arg) s = .next ((State.notify
      { s.heard with disp := { s.disp with active := s.disp.next, swap := false }, mgr := quiet }
      .dispatchSetAdopted .none [.fig 0]).answer (f 3) [.done] [])) ∧
    (s.grid.dev = true → exec (.clearLatch snd arg) s = .next (s.heard.answer (f 4) [.active] [])) ∧
    (s.grid.dev = false → exec (.clearLatch snd arg) s =
      .next (State.answer { s.heard with grid := { s.grid with seen := false } } (f 4) [.done] [])) ∧
    (8 ≤ a3.toNat ∨ 1 < a2.toNat → exec (.trainAvail snd arg) s = .next (s.heard.answer (f 5) [.range] [])) ∧
    (∀ i : Fin 8, a3.toNat = i.val → a2.toNat ≤ 1 →
      let new := a2 == 0
      ((s.train i).present = false → exec (.trainAvail snd arg) s = .next (s.heard.answer (f 5) [.state] [])) ∧
      ((s.train i).present = true → (s.train i).available = new → exec (.trainAvail snd arg) s = .next (s.heard.answer (f 5) [.done] [])) ∧
      ((s.train i).present = true → (s.train i).available ≠ new → exec (.trainAvail snd arg) s =
        .next (((s.heard.setTrain i { s.train i with available := new }).notify .trainState (.train i)
          [.fig i.val, .code (if new then 1 else 0), .code (if new then 0 else 1), .unstated 7]).answer (f 5) [.done] [])))

/-! ## Queries -/

/-- R180, R20, R43, R55, R84, R96, R113, R135, R164, R181: a QUERY is answered with one reply of its kind, or RANGE
where its kind needs an index and the index is beyond its table, and changes nothing but the counts; the query of
TRIP_CAPTURE reads the older record, takes it off the stack and clears the overrun flag where the reply is taken. The
flag that begins a trip capture or computation reply, and the order and sizes of the items: log 14; the codes of the grid
supervision, the availability, the ring continuity, the check state, a trigger and a direction: log 15; the code of the source tag
FALLBACK, a free value: log 16; the demand figures, none before the first run: log 26; the active entry's interval number, none
while the clock is INVALID: log 28; the runtime items of an absent slot: log 31; the unusable layers of an absent store: log 33; the
pressure of an absent cavern, the class enables, the start instant of the stop candidate and the hold causes as items: logs 36, 37,
38 and 49. -/
def Obligations.Queries : Prop :=
  ∀ (s : State) (snd : Sender) (a b c d : Byte) (rest : List Byte), s.mayCommand snd.src → rest.length ≤ 239 →
    let index := a :: b :: c :: d :: rest
    let n := (word32 a b c d).toNat
    let f (k : RecordKind) := queryFrame s.node snd k index
    let u := s.heard
    (∀ k size, (k, size) ∈ [(RecordKind.channel, 96), (.cavern, 4), (.store, 3), (.train, 8), (.tripCapture, 8)] → size ≤ n →
      exec (k.command snd index) s = .next (u.answer (f k) [.range] [])) ∧
    (∀ i : Fin 96, n = i.val → exec (.queryChannel snd index) s = .next (u.reply (f .channel) .channel (u.channelItems i))) ∧
    (∀ i : Fin 4, n = i.val → exec (.queryCavern snd index) s = .next (u.reply (f .cavern) .cavern (u.cavernItems i))) ∧
    (∀ i : Fin 3, n = i.val → exec (.queryStore snd index) s = .next (u.reply (f .store) .store (u.storeItems i))) ∧
    (∀ i : Fin 8, n = i.val → exec (.queryTrain snd index) s = .next (u.reply (f .train) .train (u.trainItems i))) ∧
    exec (.queryManifold snd index) s = .next (u.reply (f .manifold) .manifold u.manifoldItems) ∧
    exec (.queryConverter snd index) s = .next (u.reply (f .converter) .converter u.converterItems) ∧
    exec (.querySchedule snd index) s = .next (u.reply (f .schedule) .schedule (u.scheduleItems n)) ∧
    exec (.queryComputation snd index) s = .next (u.reply (f .computation) .computation u.computationItems) ∧
    exec (.queryRing snd index) s = .next (u.reply (f .ring) .ring
      [.fig (s.ring.received + 1).toNat, .fig s.ring.forwarded.toNat, .fig (s.ring.consumed + 1).toNat, .fig s.ring.stripped.toNat
       , .fig s.ring.dropped.toNat, .fig s.ring.withheld.toNat, .fig s.ring.forward.length, .fig s.ring.orders.length
       , .fig s.rep.queue.length, .fig s.ring.run, .fig s.ring.seqNo.toNat, .code s.ring.continuity.num, .fig s.ring.returns.length
       , .fig s.oldestAge, .fig s.node.toNat, .fig s.plant.master]) ∧
    exec (.queryPlant snd index) s = .next (u.reply (f .plant) .plant u.plantItems) ∧
    exec (.queryDispatchSet snd index) s = .next (u.reply (f .dispatchSet) .dispatchSet u.dispatchItems) ∧
    (∀ i : Fin 8, n = i.val →
      let x := s.train i
      let w := u.reply (f .tripCapture) .tripCapture
        ((match x.stack with | [] => [flagItem false] | r :: _ => flagItem true :: r.items) ++ [flagItem x.overrun])
      (s.rep.queue.length < 48 → exec (.tripCapture snd index) s = .next (w.setTrain i { x with stack := x.stack.tail, overrun := false })) ∧
      (48 ≤ s.rep.queue.length → exec (.tripCapture snd index) s = .next w))

/-! ## Expiries -/

/-- R10, R14, R16, R28, R39, R40, R76, R116, R143: what the expiries of the channel, grid, valve, manifold and train timers do,
where each can be the next thing to happen (logs 2 and 3). A travel expiry raises VALVE_TIMEOUT alone (R28), and no VALVE_FAULT
beside it (log 23). A channel that goes STALE reaches the caverns and stores that name it; the
bound grid channel: GridSupervision. A fallback expiry computes in MANUAL, AUTO and HOLD, and commitment follows in AUTO alone
(IssueStage, CommitmentRun); while a train is UNKNOWN it keeps the demand figures of the last run that acted (log 26). R90, R93: a
STARTING train that times out releases the converter, with the service of the queue where the cooldown is 0, and an UNLOADING
one leaves the flow, whatever the manifold then is. The order of effects and the items of notices: logs 11, 14 and 45. -/
def Obligations.BlockTimersExpire : Prop :=
  ∀ (s : State) (d : Nat), s.held = false → s.timerNext d = true →
    let u := s.passTo d
    (∀ c, (s.chan c).timer = some d →
      ((s.chan c).quality = .none → exec (.freshnessExpiry c) s = .next (u.setChan c { s.chan c with timer := none })) ∧
      ((s.chan c).quality = .settling ∨ (s.chan c).quality = .good ∨ (s.chan c).quality = .outOfRange →
        ∃ t, exec (.freshnessExpiry c) s = .next t ∧ t.chan c = { s.chan c with timer := none, quality := .stale } ∧
          (∀ e, e ≠ c → t.chan e = s.chan e) ∧ t.plant = s.plant ∧ t.trains = s.trains ∧ t.clock = u.clock ∧
          t.sched = s.sched ∧ t.mode = s.mode ∧ t.disp = s.disp ∧ t.conv = s.conv ∧ t.manifold = s.manifold ∧ t.mgr = s.mgr ∧
          u.abides t ∧
          (let x := s.chan c
            let v : LayerView := if x.p.kind = .temperature then ⟨.stale, x.avg⟩ else ⟨.none, 0⟩
            (x.present = false ∨ x.p.substFlag = true → t = u.setChan c { x with timer := none, quality := .stale }) ∧
            (∀ n, let z := s.cavern n
              (z.p.present = false ∨ z.p.channel ≠ some c.val → t.cavern n = z) ∧
              (z.p.present = true → z.p.channel = some c.val → x.present = true → x.p.substFlag = false → x.p.kind = .pressure →
                let z1 : Cavern := { z with hold := true }
                (∃ vs w k, t.cavern n = { z1 with valve := vs, timer := w, mark := k }) ∧
                (s.ring.orders.length ≤ 12 → t.cavern n = z1.answered .stale s.manifold.state false u.now))) ∧
            (∀ m, let z := s.store m
              let named := x.present = true ∧ x.p.substFlag = false ∧ z.p.present = true ∧ ∃ l ∈ z.p.layers, l.channel = c.val
              (¬ named → t.store m = z) ∧
              (named → t.store m = Store.recomputed { z with views := (z.p.layers.zip z.views).map fun lv =>
                if lv.1.channel = c.val then v else lv.2 }))))) ∧
    (s.grid.timer = some d →
      let v : State := { u with grid := { s.grid with timer := some (u.now + s.plant.fallbackPeriod) } }
      (s.mode.mode = .off ∨ s.clock.state = .invalid → exec .fallbackExpiry s = .next v) ∧
      (s.mode.mode ≠ .off → s.clock.state ≠ .invalid → ∃ t r, exec .fallbackExpiry s = .next t ∧
        t.disp.last = some r ∧ r.trigger = .fallback ∧ r.count = s.disp.count + 1 ∧ t.disp.count = s.disp.count + 1 ∧
        t.grid.lastComp = some u.now ∧ t.grid.timer = v.grid.timer ∧ t.disp.target = r.target ∧ t.disp.swap = false ∧
        r.req = sat32 (r.sched + r.fcr + r.trim) ∧ r.trim = s.sched.trim ∧ r.sched = u.schedAt u.clock.plantMs ∧
        r.plantMs = u.clock.plantMs ∧ t.sched = s.sched ∧ t.chans = s.chans ∧ t.plant = s.plant ∧ t.mode = s.mode ∧ t.clock = u.clock ∧
        t = (if s.mode.mode = .auto then (v.compute .fallback u.fallbackDeviation).commitmentRun r.req
             else v.compute .fallback u.fallbackDeviation) ∧
        r.fDev = u.fallbackDeviation ∧
        (s.mode.mode ≠ .auto → t.commit = s.commit) ∧
        (s.mode.mode = .auto → (∃ j, (s.train j).isIn .unknown = true) →
          t = { v.compute .fallback u.fallbackDeviation with commit := { s.commit with stop := none } }) ∧
        (s.mode.mode = .manual → ∀ i, (t.train i).state = (s.train i).state ∧ (t.train i).setpoint = (s.train i).setpoint))) ∧
    (∀ c, (s.cavern c).timer = some d → (s.cavern c).valve = .opening ∨ (s.cavern c).valve = .closing →
      exec (.travelTimerExpiry c) s = .next ((u.setCavern c { s.cavern c with valve := .fault, timer := none }).notify
        .valveTimeout (.cavern c) [.fig c.val, .code (s.cavern c).valve.num])) ∧
    (s.manifold.timer = some d → s.manifold.state = .changeover →
      exec .deadbandExpiry s = .next (u.manifoldTo ⟨.idle, none, none⟩)) ∧
    (∀ i, (s.train i).timer = some d →
      let x := s.train i
      (16 ≤ s.ring.orders.length → ∀ o, (x.state = .starting ∧ o = .abort) ∨ (x.state = .loading ∧ o = .unload) ∨
          (x.state = .unloading ∧ o = .trip) ∨ (x.state = .stopping ∧ o = Order.trip) →
        exec (.sequenceTimerExpiry i) s = .next ((u.setTrain i { x with timer := some (u.now + 1000) }).notify
          .queueFull (.train i) [.fig i.val, .code o.num])) ∧
      (s.ring.orders.length < 16 →
        (x.state = .starting → s.conv.state = .busy i → s.plant.cooldown ≠ 0 → exec (.sequenceTimerExpiry i) s = .next
          ((State.trainNotice { ((u.place x.p.node .abort 0).setTrain i { x with
            state := .standby, entry := u.now, timer := none, setpoint := 0 }).setTrack i 0 with
              conv := { s.conv with state := .cooldown, cooldown := some (u.now + s.plant.cooldown * 1000) } }
            i (.code 4) (.code 2) .timeout).notify .startFailed (.train i) [.fig i.val, .code 4])) ∧
        (x.state = .starting → s.conv.state = .busy i → s.plant.cooldown = 0 → i ∉ s.conv.queue →
          let freed := State.trainNotice { ((u.place x.p.node .abort 0).setTrain i { x with
            state := .standby, entry := u.now, timer := none, setpoint := 0 }).setTrack i 0 with conv := { s.conv with state := .free } }
            i (.code 4) (.code 2) .timeout
          exec (.sequenceTimerExpiry i) s = .next ((State.serve freed).notify .startFailed (.train i) [.fig i.val, .code 4]) ∧
          (s.conv.queue = [] → exec (.sequenceTimerExpiry i) s = .next (freed.notify .startFailed (.train i) [.fig i.val, .code 4]))) ∧
        (x.state = .unloading → ∀ d : Direction, x.p.kind = d.kind → s.manifold.state = d.state →
          let w := (((u.place x.p.node .trip 0).setTrain i { x with
            state := .tripped, entry := u.now, timer := none, setpoint := 0, preState := some .unloading, preSetpoint := x.setpoint
            tripClear := false }).setTrack i 0).trainNotice i (.code 8) (.code 10) .timeout
          let alone := ∀ j, j ≠ i → (s.train j).flowing = true → (s.train j).p.kind ≠ x.p.kind
          (¬ alone → exec (.sequenceTimerExpiry i) s = .next (w.notify .unloadTimeout (.train i) [.fig i.val, .code 8])) ∧
          (alone →
            exec (.sequenceTimerExpiry i) s = .next ((w.enterChangeover d).notify .unloadTimeout (.train i) [.fig i.val, .code 8]))) ∧
        (x.state = .unloading →
          let w := (((u.place x.p.node .trip 0).setTrain i { x with
            state := .tripped, entry := u.now, timer := none, setpoint := 0, preState := some .unloading, preSetpoint := x.setpoint
            tripClear := false }).setTrack i 0).trainNotice i (.code 8) (.code 10) .timeout
          let left : State := match s.manifold.state.flow with
            | some d => if ∃ j, j ≠ i ∧ (s.train j).flowing = true ∧ (s.train j).p.kind = d.kind then w else w.enterChangeover d
            | none =>
              if s.manifold.state = .changeover ∧ s.manifold.timer = none ∧ ∀ j, j ≠ i → (s.train j).flowing = false then
                if s.plant.deadband = 0 then w.manifoldTo ⟨.idle, none, none⟩
                else { w with manifold := { s.manifold with timer := some (u.now + s.plant.deadband * 1000) } }
              else w
          exec (.sequenceTimerExpiry i) s = .next (left.notify .unloadTimeout (.train i) [.fig i.val, .code 8])) ∧
        (x.state = .stopping → exec (.sequenceTimerExpiry i) s = .next
          (((((u.place x.p.node .trip 0).setTrain i { x with
            state := .tripped, entry := u.now, timer := none, setpoint := 0, preState := some .stopping, preSetpoint := x.setpoint
            tripClear := false }).setTrack i 0).trainNotice i (.code 9) (.code 10) .timeout).notify
              .stopTimeout (.train i) [.fig i.val, .code 9])) ∧
        (x.state = .loading → exec (.sequenceTimerExpiry i) s = .next
          (((((u.place x.p.node .unload 0).setTrain i { x with
            state := .unloading, entry := u.now, timer := some (u.now + x.p.tUnload * 1000), setpoint := 0 }).setTrack i 0).trainNotice
              i (.code 6) (.code 8) .timeout).notify .loadTimeout (.train i) [.fig i.val, .code 6]))))

/-- R91, R92, R101, R163, R172: what the expiries of the converter, clock, ring and configuration timers do, where
each can be the next thing to happen (logs 2 and 3). A FREE converter serves the head of its start queue, or tries again in 1
s where the order queue is full. A pass 10 s after the last edit is judged (R172, log 3). The order of effects and the items
of notices: logs 11, 14 and 46. -/
def Obligations.PartTimersExpire : Prop :=
  ∀ (s : State) (d : Nat), s.held = false → s.timerNext d = true →
    let u := s.passTo d
    let started (i : Fin 8) (c : Converter) : State :=
      State.trainNotice { (((u.place (s.train i).p.node .start 0).setTrain i { s.train i with
        state := .starting, entry := u.now, timer := some (u.now + (s.train i).p.tStart * 1000), setpoint := 0 }).setTrack i 0) with
          conv := c } i (.code 3) (.code 4) .order
    (s.conv.cooldown = some d → s.conv.state = .cooldown →
      (s.conv.queue = [] → exec .cooldownExpiry s = .next { u with conv := { s.conv with state := .free, cooldown := none } }) ∧
      (∀ i rest, s.conv.queue = i :: rest → (s.train i).state = .startWait → s.ring.orders.length < 16 →
        exec .cooldownExpiry s = .next (started i
          { s.conv with state := .busy i, queue := rest, cooldown := none, retry := none, starts := s.conv.starts + 1 }))) ∧
    (s.conv.retry = some d → s.conv.state = .free → ∀ i rest, s.conv.queue = i :: rest →
      ((s.train i).state = .startWait → s.ring.orders.length < 16 → exec .serviceRetryExpiry s = .next (started i
        { s.conv with state := .busy i, queue := rest, retry := none, starts := s.conv.starts + 1 })) ∧
      (16 ≤ s.ring.orders.length → s.portSound → ∃ t, exec .serviceRetryExpiry s = .next t ∧
        ReportsOnly { u with conv := { s.conv with retry := some (u.now + 1000) } } t)) ∧
    (s.clock.mark = some d → s.clock.state = .valid → ∃ t, exec .markTimerExpiry s = .next t ∧ t.clock = { u.clock with state := .unsynced, mark := none } ∧
      t.mode.unsynced = true ∧ (s.mode.unsynced = false → s.mode.mode = .auto → t.mode.mode = .hold) ∧
      (s.mode.mode ≠ .auto → s.mode.mode ≠ .hold → t.mode.mode = s.mode.mode) ∧ t.trains = s.trains ∧ t.sched = s.sched ∧
      t.chans = s.chans ∧ t.caverns = s.caverns ∧ t.stores = s.stores ∧ t.conv = s.conv ∧ t.manifold = s.manifold ∧ t.disp = s.disp ∧
      t.grid = s.grid ∧ t.mgr = s.mgr ∧ t.plant = s.plant ∧ t.now = u.now) ∧
    (s.ring.watch = some d →
      let stopped : State := { u with ring := { s.ring with watch := none } }
      (s.ring.continuity = .ringOpen ∨ s.ring.returns = [] → exec .returnWatchExpiry s = .next stopped) ∧
      (s.ring.continuity ≠ .ringOpen → ∀ e rest, s.ring.returns = e :: rest → exec .returnWatchExpiry s = .next
        ((State.notify { stopped with ring := { stopped.ring with continuity := .ringOpen } } .ringOpen .none
          [.fig e.seq.toNat, .fig (rest.length + 1)]).causeRing true))) ∧
    (s.mgr.periodTimer = some d →
      let again : Manager := { s.mgr with periodTimer := some (u.now + 2000) }
      let sum := s.imageSum
      let quiet : Prop := ∃ e, s.mgr.quiet = some e ∧ u.now < e
      (quiet → exec .periodTimerExpiry s = .next { u with mgr := again }) ∧
      (¬ quiet → sum = 0xFFFFFFFF#32 →
        let v : State := { u with mgr := { again with lastSum := some sum, check := .isMatch } }
        exec .periodTimerExpiry s =
          .next (if s.mgr.check = .isMatch then v else (v.notify .configMatch .none [.fig sum.toNat]).causeConfig false)) ∧
      (¬ quiet → sum ≠ 0xFFFFFFFF#32 →
        let v : State := { u with mgr := { again with lastSum := some sum, check := .mismatch } }
        exec .periodTimerExpiry s =
          .next (if s.mgr.check = .mismatch then v else (v.notify .configMismatch .none [.fig sum.toNat]).causeConfig true))) ∧
    (s.mgr.quiet = some d → exec .editQuietExpiry s = .next { u with mgr := { s.mgr with quiet := none } })
end

