-- ==== Sys2Proof/Laws/State.lean ====
section
/-!
SUPPORT. What the record updates leave: one lemma for each field of State and each update, and what reading a record
after writing one gives.
-/

namespace Sys2Proof.Machine

/-! ## setChan -/

@[simp] theorem State.setChan_pending (s : State) (c : Fin 96) (x : Channel) : (s.setChan c x).pending = s.pending := rfl
@[simp] theorem State.setChan_held (s : State) (c : Fin 96) (x : Channel) : (s.setChan c x).held = s.held := rfl
@[simp] theorem State.setChan_node (s : State) (c : Fin 96) (x : Channel) : (s.setChan c x).node = s.node := rfl
@[simp] theorem State.setChan_now (s : State) (c : Fin 96) (x : Channel) : (s.setChan c x).now = s.now := rfl
@[simp] theorem State.setChan_ring (s : State) (c : Fin 96) (x : Channel) : (s.setChan c x).ring = s.ring := rfl
@[simp] theorem State.setChan_rep (s : State) (c : Fin 96) (x : Channel) : (s.setChan c x).rep = s.rep := rfl
@[simp] theorem State.setChan_grid (s : State) (c : Fin 96) (x : Channel) : (s.setChan c x).grid = s.grid := rfl
@[simp] theorem State.setChan_caverns (s : State) (c : Fin 96) (x : Channel) : (s.setChan c x).caverns = s.caverns := rfl
@[simp] theorem State.setChan_manifold (s : State) (c : Fin 96) (x : Channel) : (s.setChan c x).manifold = s.manifold := rfl
@[simp] theorem State.setChan_stores (s : State) (c : Fin 96) (x : Channel) : (s.setChan c x).stores = s.stores := rfl
@[simp] theorem State.setChan_trains (s : State) (c : Fin 96) (x : Channel) : (s.setChan c x).trains = s.trains := rfl
@[simp] theorem State.setChan_conv (s : State) (c : Fin 96) (x : Channel) : (s.setChan c x).conv = s.conv := rfl
@[simp] theorem State.setChan_clock (s : State) (c : Fin 96) (x : Channel) : (s.setChan c x).clock = s.clock := rfl
@[simp] theorem State.setChan_sched (s : State) (c : Fin 96) (x : Channel) : (s.setChan c x).sched = s.sched := rfl
@[simp] theorem State.setChan_disp (s : State) (c : Fin 96) (x : Channel) : (s.setChan c x).disp = s.disp := rfl
@[simp] theorem State.setChan_mode (s : State) (c : Fin 96) (x : Channel) : (s.setChan c x).mode = s.mode := rfl
@[simp] theorem State.setChan_commit (s : State) (c : Fin 96) (x : Channel) : (s.setChan c x).commit = s.commit := rfl
@[simp] theorem State.setChan_plant (s : State) (c : Fin 96) (x : Channel) : (s.setChan c x).plant = s.plant := rfl
@[simp] theorem State.setChan_mgr (s : State) (c : Fin 96) (x : Channel) : (s.setChan c x).mgr = s.mgr := rfl

/-! ## setCavern -/

@[simp] theorem State.setCavern_pending (s : State) (c : Fin 4) (x : Cavern) : (s.setCavern c x).pending = s.pending := rfl
@[simp] theorem State.setCavern_held (s : State) (c : Fin 4) (x : Cavern) : (s.setCavern c x).held = s.held := rfl
@[simp] theorem State.setCavern_node (s : State) (c : Fin 4) (x : Cavern) : (s.setCavern c x).node = s.node := rfl
@[simp] theorem State.setCavern_now (s : State) (c : Fin 4) (x : Cavern) : (s.setCavern c x).now = s.now := rfl
@[simp] theorem State.setCavern_ring (s : State) (c : Fin 4) (x : Cavern) : (s.setCavern c x).ring = s.ring := rfl
@[simp] theorem State.setCavern_rep (s : State) (c : Fin 4) (x : Cavern) : (s.setCavern c x).rep = s.rep := rfl
@[simp] theorem State.setCavern_chans (s : State) (c : Fin 4) (x : Cavern) : (s.setCavern c x).chans = s.chans := rfl
@[simp] theorem State.setCavern_grid (s : State) (c : Fin 4) (x : Cavern) : (s.setCavern c x).grid = s.grid := rfl
@[simp] theorem State.setCavern_manifold (s : State) (c : Fin 4) (x : Cavern) : (s.setCavern c x).manifold = s.manifold := rfl
@[simp] theorem State.setCavern_stores (s : State) (c : Fin 4) (x : Cavern) : (s.setCavern c x).stores = s.stores := rfl
@[simp] theorem State.setCavern_trains (s : State) (c : Fin 4) (x : Cavern) : (s.setCavern c x).trains = s.trains := rfl
@[simp] theorem State.setCavern_conv (s : State) (c : Fin 4) (x : Cavern) : (s.setCavern c x).conv = s.conv := rfl
@[simp] theorem State.setCavern_clock (s : State) (c : Fin 4) (x : Cavern) : (s.setCavern c x).clock = s.clock := rfl
@[simp] theorem State.setCavern_sched (s : State) (c : Fin 4) (x : Cavern) : (s.setCavern c x).sched = s.sched := rfl
@[simp] theorem State.setCavern_disp (s : State) (c : Fin 4) (x : Cavern) : (s.setCavern c x).disp = s.disp := rfl
@[simp] theorem State.setCavern_mode (s : State) (c : Fin 4) (x : Cavern) : (s.setCavern c x).mode = s.mode := rfl
@[simp] theorem State.setCavern_commit (s : State) (c : Fin 4) (x : Cavern) : (s.setCavern c x).commit = s.commit := rfl
@[simp] theorem State.setCavern_plant (s : State) (c : Fin 4) (x : Cavern) : (s.setCavern c x).plant = s.plant := rfl
@[simp] theorem State.setCavern_mgr (s : State) (c : Fin 4) (x : Cavern) : (s.setCavern c x).mgr = s.mgr := rfl

/-! ## setStore -/

@[simp] theorem State.setStore_pending (s : State) (m : Fin 3) (x : Store) : (s.setStore m x).pending = s.pending := rfl
@[simp] theorem State.setStore_held (s : State) (m : Fin 3) (x : Store) : (s.setStore m x).held = s.held := rfl
@[simp] theorem State.setStore_node (s : State) (m : Fin 3) (x : Store) : (s.setStore m x).node = s.node := rfl
@[simp] theorem State.setStore_now (s : State) (m : Fin 3) (x : Store) : (s.setStore m x).now = s.now := rfl
@[simp] theorem State.setStore_ring (s : State) (m : Fin 3) (x : Store) : (s.setStore m x).ring = s.ring := rfl
@[simp] theorem State.setStore_rep (s : State) (m : Fin 3) (x : Store) : (s.setStore m x).rep = s.rep := rfl
@[simp] theorem State.setStore_chans (s : State) (m : Fin 3) (x : Store) : (s.setStore m x).chans = s.chans := rfl
@[simp] theorem State.setStore_grid (s : State) (m : Fin 3) (x : Store) : (s.setStore m x).grid = s.grid := rfl
@[simp] theorem State.setStore_caverns (s : State) (m : Fin 3) (x : Store) : (s.setStore m x).caverns = s.caverns := rfl
@[simp] theorem State.setStore_manifold (s : State) (m : Fin 3) (x : Store) : (s.setStore m x).manifold = s.manifold := rfl
@[simp] theorem State.setStore_trains (s : State) (m : Fin 3) (x : Store) : (s.setStore m x).trains = s.trains := rfl
@[simp] theorem State.setStore_conv (s : State) (m : Fin 3) (x : Store) : (s.setStore m x).conv = s.conv := rfl
@[simp] theorem State.setStore_clock (s : State) (m : Fin 3) (x : Store) : (s.setStore m x).clock = s.clock := rfl
@[simp] theorem State.setStore_sched (s : State) (m : Fin 3) (x : Store) : (s.setStore m x).sched = s.sched := rfl
@[simp] theorem State.setStore_disp (s : State) (m : Fin 3) (x : Store) : (s.setStore m x).disp = s.disp := rfl
@[simp] theorem State.setStore_mode (s : State) (m : Fin 3) (x : Store) : (s.setStore m x).mode = s.mode := rfl
@[simp] theorem State.setStore_commit (s : State) (m : Fin 3) (x : Store) : (s.setStore m x).commit = s.commit := rfl
@[simp] theorem State.setStore_plant (s : State) (m : Fin 3) (x : Store) : (s.setStore m x).plant = s.plant := rfl
@[simp] theorem State.setStore_mgr (s : State) (m : Fin 3) (x : Store) : (s.setStore m x).mgr = s.mgr := rfl

/-! ## setTrain -/

@[simp] theorem State.setTrain_pending (s : State) (i : Fin 8) (x : Train) : (s.setTrain i x).pending = s.pending := rfl
@[simp] theorem State.setTrain_held (s : State) (i : Fin 8) (x : Train) : (s.setTrain i x).held = s.held := rfl
@[simp] theorem State.setTrain_node (s : State) (i : Fin 8) (x : Train) : (s.setTrain i x).node = s.node := rfl
@[simp] theorem State.setTrain_now (s : State) (i : Fin 8) (x : Train) : (s.setTrain i x).now = s.now := rfl
@[simp] theorem State.setTrain_ring (s : State) (i : Fin 8) (x : Train) : (s.setTrain i x).ring = s.ring := rfl
@[simp] theorem State.setTrain_rep (s : State) (i : Fin 8) (x : Train) : (s.setTrain i x).rep = s.rep := rfl
@[simp] theorem State.setTrain_chans (s : State) (i : Fin 8) (x : Train) : (s.setTrain i x).chans = s.chans := rfl
@[simp] theorem State.setTrain_grid (s : State) (i : Fin 8) (x : Train) : (s.setTrain i x).grid = s.grid := rfl
@[simp] theorem State.setTrain_caverns (s : State) (i : Fin 8) (x : Train) : (s.setTrain i x).caverns = s.caverns := rfl
@[simp] theorem State.setTrain_manifold (s : State) (i : Fin 8) (x : Train) : (s.setTrain i x).manifold = s.manifold := rfl
@[simp] theorem State.setTrain_stores (s : State) (i : Fin 8) (x : Train) : (s.setTrain i x).stores = s.stores := rfl
@[simp] theorem State.setTrain_conv (s : State) (i : Fin 8) (x : Train) : (s.setTrain i x).conv = s.conv := rfl
@[simp] theorem State.setTrain_clock (s : State) (i : Fin 8) (x : Train) : (s.setTrain i x).clock = s.clock := rfl
@[simp] theorem State.setTrain_sched (s : State) (i : Fin 8) (x : Train) : (s.setTrain i x).sched = s.sched := rfl
@[simp] theorem State.setTrain_disp (s : State) (i : Fin 8) (x : Train) : (s.setTrain i x).disp = s.disp := rfl
@[simp] theorem State.setTrain_mode (s : State) (i : Fin 8) (x : Train) : (s.setTrain i x).mode = s.mode := rfl
@[simp] theorem State.setTrain_commit (s : State) (i : Fin 8) (x : Train) : (s.setTrain i x).commit = s.commit := rfl
@[simp] theorem State.setTrain_plant (s : State) (i : Fin 8) (x : Train) : (s.setTrain i x).plant = s.plant := rfl
@[simp] theorem State.setTrain_mgr (s : State) (i : Fin 8) (x : Train) : (s.setTrain i x).mgr = s.mgr := rfl

/-! ## setTrack -/

@[simp] theorem State.setTrack_pending (s : State) (i : Fin 8) (v : Int) : (s.setTrack i v).pending = s.pending := rfl
@[simp] theorem State.setTrack_held (s : State) (i : Fin 8) (v : Int) : (s.setTrack i v).held = s.held := rfl
@[simp] theorem State.setTrack_node (s : State) (i : Fin 8) (v : Int) : (s.setTrack i v).node = s.node := rfl
@[simp] theorem State.setTrack_now (s : State) (i : Fin 8) (v : Int) : (s.setTrack i v).now = s.now := rfl
@[simp] theorem State.setTrack_ring (s : State) (i : Fin 8) (v : Int) : (s.setTrack i v).ring = s.ring := rfl
@[simp] theorem State.setTrack_rep (s : State) (i : Fin 8) (v : Int) : (s.setTrack i v).rep = s.rep := rfl
@[simp] theorem State.setTrack_chans (s : State) (i : Fin 8) (v : Int) : (s.setTrack i v).chans = s.chans := rfl
@[simp] theorem State.setTrack_grid (s : State) (i : Fin 8) (v : Int) : (s.setTrack i v).grid = s.grid := rfl
@[simp] theorem State.setTrack_caverns (s : State) (i : Fin 8) (v : Int) : (s.setTrack i v).caverns = s.caverns := rfl
@[simp] theorem State.setTrack_manifold (s : State) (i : Fin 8) (v : Int) : (s.setTrack i v).manifold = s.manifold := rfl
@[simp] theorem State.setTrack_stores (s : State) (i : Fin 8) (v : Int) : (s.setTrack i v).stores = s.stores := rfl
@[simp] theorem State.setTrack_trains (s : State) (i : Fin 8) (v : Int) : (s.setTrack i v).trains = s.trains := rfl
@[simp] theorem State.setTrack_conv (s : State) (i : Fin 8) (v : Int) : (s.setTrack i v).conv = s.conv := rfl
@[simp] theorem State.setTrack_clock (s : State) (i : Fin 8) (v : Int) : (s.setTrack i v).clock = s.clock := rfl
@[simp] theorem State.setTrack_sched (s : State) (i : Fin 8) (v : Int) : (s.setTrack i v).sched = s.sched := rfl
@[simp] theorem State.setTrack_mode (s : State) (i : Fin 8) (v : Int) : (s.setTrack i v).mode = s.mode := rfl
@[simp] theorem State.setTrack_commit (s : State) (i : Fin 8) (v : Int) : (s.setTrack i v).commit = s.commit := rfl
@[simp] theorem State.setTrack_plant (s : State) (i : Fin 8) (v : Int) : (s.setTrack i v).plant = s.plant := rfl
@[simp] theorem State.setTrack_mgr (s : State) (i : Fin 8) (v : Int) : (s.setTrack i v).mgr = s.mgr := rfl

/-! ## Reading a record after an update -/

@[simp] theorem State.chan_setChan_same (s : State) (i : Fin 96) (x : Channel) : (s.setChan i x).chan i = x := by
  simp [State.chan, State.setChan, Vector.get_eq_getElem]
@[simp] theorem State.chan_setChan_other (s : State) (i j : Fin 96) (x : Channel) (h : i ≠ j) : (s.setChan i x).chan j = s.chan j := by
  have : i.val ≠ j.val := fun e => h (Fin.ext e)
  simp [State.chan, State.setChan, Vector.get_eq_getElem, Vector.getElem_set_ne, this]
@[simp] theorem State.chan_setCavern (s : State) (i : Fin 4) (j : Fin 96) (x : Cavern) : (s.setCavern i x).chan j = s.chan j := rfl
@[simp] theorem State.chan_setStore (s : State) (i : Fin 3) (j : Fin 96) (x : Store) : (s.setStore i x).chan j = s.chan j := rfl
@[simp] theorem State.chan_setTrain (s : State) (i : Fin 8) (j : Fin 96) (x : Train) : (s.setTrain i x).chan j = s.chan j := rfl
@[simp] theorem State.chan_setTrack (s : State) (i : Fin 8) (j : Fin 96) (v : Int) : (s.setTrack i v).chan j = s.chan j := rfl

@[simp] theorem State.cavern_setCavern_same (s : State) (i : Fin 4) (x : Cavern) : (s.setCavern i x).cavern i = x := by
  simp [State.cavern, State.setCavern, Vector.get_eq_getElem]
@[simp] theorem State.cavern_setCavern_other (s : State) (i j : Fin 4) (x : Cavern) (h : i ≠ j) : (s.setCavern i x).cavern j = s.cavern j := by
  have : i.val ≠ j.val := fun e => h (Fin.ext e)
  simp [State.cavern, State.setCavern, Vector.get_eq_getElem, Vector.getElem_set_ne, this]
@[simp] theorem State.cavern_setChan (s : State) (i : Fin 96) (j : Fin 4) (x : Channel) : (s.setChan i x).cavern j = s.cavern j := rfl
@[simp] theorem State.cavern_setStore (s : State) (i : Fin 3) (j : Fin 4) (x : Store) : (s.setStore i x).cavern j = s.cavern j := rfl
@[simp] theorem State.cavern_setTrain (s : State) (i : Fin 8) (j : Fin 4) (x : Train) : (s.setTrain i x).cavern j = s.cavern j := rfl
@[simp] theorem State.cavern_setTrack (s : State) (i : Fin 8) (j : Fin 4) (v : Int) : (s.setTrack i v).cavern j = s.cavern j := rfl

@[simp] theorem State.store_setStore_same (s : State) (i : Fin 3) (x : Store) : (s.setStore i x).store i = x := by
  simp [State.store, State.setStore, Vector.get_eq_getElem]
@[simp] theorem State.store_setStore_other (s : State) (i j : Fin 3) (x : Store) (h : i ≠ j) : (s.setStore i x).store j = s.store j := by
  have : i.val ≠ j.val := fun e => h (Fin.ext e)
  simp [State.store, State.setStore, Vector.get_eq_getElem, Vector.getElem_set_ne, this]
@[simp] theorem State.store_setChan (s : State) (i : Fin 96) (j : Fin 3) (x : Channel) : (s.setChan i x).store j = s.store j := rfl
@[simp] theorem State.store_setCavern (s : State) (i : Fin 4) (j : Fin 3) (x : Cavern) : (s.setCavern i x).store j = s.store j := rfl
@[simp] theorem State.store_setTrain (s : State) (i : Fin 8) (j : Fin 3) (x : Train) : (s.setTrain i x).store j = s.store j := rfl
@[simp] theorem State.store_setTrack (s : State) (i : Fin 8) (j : Fin 3) (v : Int) : (s.setTrack i v).store j = s.store j := rfl

@[simp] theorem State.train_setTrain_same (s : State) (i : Fin 8) (x : Train) : (s.setTrain i x).train i = x := by
  simp [State.train, State.setTrain, Vector.get_eq_getElem]
@[simp] theorem State.train_setTrain_other (s : State) (i j : Fin 8) (x : Train) (h : i ≠ j) : (s.setTrain i x).train j = s.train j := by
  have : i.val ≠ j.val := fun e => h (Fin.ext e)
  simp [State.train, State.setTrain, Vector.get_eq_getElem, Vector.getElem_set_ne, this]
@[simp] theorem State.train_setChan (s : State) (i : Fin 96) (j : Fin 8) (x : Channel) : (s.setChan i x).train j = s.train j := rfl
@[simp] theorem State.train_setCavern (s : State) (i : Fin 4) (j : Fin 8) (x : Cavern) : (s.setCavern i x).train j = s.train j := rfl
@[simp] theorem State.train_setStore (s : State) (i : Fin 3) (j : Fin 8) (x : Store) : (s.setStore i x).train j = s.train j := rfl
@[simp] theorem State.train_setTrack (s : State) (i : Fin 8) (j : Fin 8) (v : Int) : (s.setTrack i v).train j = s.train j := rfl

end Sys2Proof.Machine
end

