-- ==== Sys2Proof/Laws/Ops.lean ====
section
/-!
SUPPORT. What each shared operation over the queues and reports can do: the port, the forward, order and report
queues, answers and notices.
-/

namespace Sys2Proof.Machine

/-! ## The relation of a state to one that differs in ring and reports -/

theorem RingOnly.refl (s : State) : RingOnly s s := ⟨s.ring, s.rep, rfl, rfl⟩

theorem RingOnly.trans {a b c : State} (h : RingOnly a b) (k : RingOnly b c) : RingOnly a c := by
  obtain ⟨r, p, rfl, e⟩ := h
  obtain ⟨r', p', rfl, e'⟩ := k
  exact ⟨r', p', rfl, e'.trans e⟩

theorem ReportsOnly.refl (s : State) : ReportsOnly s s := ⟨_, _, _, _, _, _, rfl⟩

theorem ReportsOnly.trans {a b c : State} (h : ReportsOnly a b) (k : ReportsOnly b c) : ReportsOnly a c := by
  obtain ⟨_, _, _, _, _, _, rfl⟩ := h
  obtain ⟨_, _, _, _, _, _, rfl⟩ := k
  exact ⟨_, _, _, _, _, _, rfl⟩

theorem ReportsOnly.ringOnly {a b : State} (h : ReportsOnly a b) : RingOnly a b := by
  obtain ⟨_, _, _, _, _, _, rfl⟩ := h
  exact ⟨_, _, rfl, rfl⟩

/-! ## The arbiter -/

@[simp] theorem Ring.remember_forward (r : Ring) (n t : Nat) (k : Byte) : (r.remember n t k).forward = r.forward := by
  unfold Ring.remember; split <;> rfl
@[simp] theorem Ring.remember_continuity (r : Ring) (n t : Nat) (k : Byte) : (r.remember n t k).continuity = r.continuity := by
  unfold Ring.remember; split <;> rfl

/-- What the return list and its watch become leaves every queue and count of the ring. -/
theorem Ring.remember_shape (r : Ring) (n t : Nat) (k : Byte) :
    ∃ q l w, r.remember n t k = { r with seqNo := q, returns := l, watch := w } := by
  unfold Ring.remember; split <;> exact ⟨_, _, _, rfl⟩

theorem State.sendForward_ringOnly (s : State) : RingOnly s s.sendForward := by
  unfold State.sendForward; split
  · exact .refl s
  · exact ⟨_, _, rfl, rfl⟩

theorem State.sendOrder_ringOnly (s : State) : RingOnly s s.sendOrder := by
  unfold State.sendOrder; split
  · exact .refl s
  · exact ⟨_, _, rfl, by simp⟩

theorem State.sendReport_ringOnly (s : State) : RingOnly s s.sendReport := by
  unfold State.sendReport; split
  · exact .refl s
  · exact ⟨_, _, rfl, by simp⟩

theorem State.chooseNext_ringOnly (s : State) : RingOnly s s.chooseNext := by
  unfold State.chooseNext; split
  · exact s.sendForward_ringOnly
  · split
    · exact s.sendOrder_ringOnly
    · exact s.sendReport_ringOnly

theorem State.pump_ringOnly (s : State) : RingOnly s s.pump := by
  unfold State.pump; split
  · exact .refl s
  · exact s.chooseNext_ringOnly

/-- A busy port sends nothing more. -/
theorem State.pump_busy {s : State} (h : s.ring.sending ≠ none) : s.pump = s := by
  unfold State.pump; split
  · rfl
  · contradiction

/-- After a choice the port is sound: it sends, or nothing waits. -/
theorem State.chooseNext_portSound (s : State) : s.chooseNext.portSound := by
  intro h
  unfold State.chooseNext at h ⊢
  split at h
  · rename_i c; obtain ⟨c, -⟩ := c
    unfold State.sendForward at h
    split at h
    · contradiction
    · simp at h
  · rename_i c
    split at h
    · unfold State.sendOrder at h
      split at h
      · contradiction
      · simp at h
    · rename_i c'
      rw [if_neg c, if_neg c']
      unfold State.sendReport at h ⊢
      split at h
      · rename_i e
        simp only [e]
        refine ⟨?_, by simpa using c', trivial⟩
        by_contra f
        exact c ⟨f, .inr ⟨by simpa using c', e⟩⟩
      · simp at h

theorem State.pump_portSound (s : State) : s.pump.portSound := by
  unfold State.pump; split
  · rename_i e; intro h; rw [e] at h; contradiction
  · exact s.chooseNext_portSound

/-! ## Joining the queues -/

theorem State.enqueue_ringOnly (s : State) (f : Frame) : RingOnly s (s.enqueue f) :=
  RingOnly.trans ⟨_, _, rfl, rfl⟩ (State.pump_ringOnly _)

theorem State.enqueue_portSound (s : State) (f : Frame) : (s.enqueue f).portSound := State.pump_portSound _

/-- At a busy port a frame waits at the tail of the forward queue. -/
theorem State.enqueue_busy {s : State} (f : Frame) (h : s.ring.sending ≠ none) :
    s.enqueue f = { s with ring := { s.ring with forward := s.ring.forward ++ [f] } } :=
  State.pump_busy (by simpa using h)

theorem State.place_ringOnly (s : State) (n : Nat) (o : Order) (v : Int) : RingOnly s (s.place n o v) :=
  RingOnly.trans ⟨_, _, rfl, rfl⟩ (State.pump_ringOnly _)

theorem State.place_portSound (s : State) (n : Nat) (o : Order) (v : Int) : (s.place n o v).portSound := State.pump_portSound _

/-- A report that joins the queue of a sound port changes reports only. -/
theorem State.joinReports_reportsOnly {s : State} (h : s.portSound) (r : Report) : ReportsOnly s (s.joinReports r) := by
  unfold State.joinReports State.pump
  split
  · exact ⟨_, _, _, _, _, _, rfl⟩
  · rename_i e
    obtain ⟨hf, ho, hr⟩ := h e
    unfold State.chooseNext
    rw [if_neg (by simp [hf]), if_neg (by simp [ho])]
    simp only [hr, List.nil_append, State.sendReport]
    obtain ⟨q, l, w, k⟩ := Ring.remember_shape s.ring s.now s.plant.returnTimeout kReport
    rw [k]
    exact ⟨_, _, _, _, _, _, rfl⟩

theorem State.joinReports_portSound (s : State) (r : Report) : (s.joinReports r).portSound := State.pump_portSound _

theorem State.joinReports_ringOnly (s : State) (r : Report) : RingOnly s (s.joinReports r) :=
  RingOnly.trans ⟨_, _, rfl, rfl⟩ (State.pump_ringOnly _)

/-- Changing counts of the report side alone. -/
theorem ReportsOnly.rep (s : State) (p : Reports) : ReportsOnly s { s with rep := p } := ⟨_, _, _, _, _, _, rfl⟩

theorem State.portSound_rep {s : State} {p : Reports} (h : s.portSound) (e : p.queue = s.rep.queue) :
    ({ s with rep := p } : State).portSound := fun g => e ▸ h g

/-! ## Offers, answers and notices -/

theorem State.offerReply_reportsOnly {s : State} (h : s.portSound) (r : Report) :
    ReportsOnly s (s.offerReply r) ∧ (s.offerReply r).portSound := by
  unfold State.offerReply; split
  · exact ⟨s.joinReports_reportsOnly h r, s.joinReports_portSound r⟩
  · exact ⟨.rep s _, s.portSound_rep h rfl⟩

theorem State.offerNotice_reportsOnly {s : State} (h : s.portSound) (n : Notice) :
    ReportsOnly s (s.offerNotice n) ∧ (s.offerNotice n).portSound := by
  unfold State.offerNotice; split
  · refine ⟨(ReportsOnly.rep s { s.rep with lostNotice := 0 }).trans (State.joinReports_reportsOnly ?_ _), State.joinReports_portSound _ _⟩
    exact State.portSound_rep h rfl
  · exact ⟨.rep s _, s.portSound_rep h rfl⟩

/-- A notice changes reports only, and leaves a sound port. -/
theorem State.notifyAs_reportsOnly {s : State} (h : s.portSound) (c : NoticeClass) (n : NoticeName) (x : SourceRecord) (l : List Item) :
    ReportsOnly s (s.notifyAs c n x l) ∧ (s.notifyAs c n x l).portSound := by
  unfold State.notifyAs; split
  · exact s.offerNotice_reportsOnly h _
  · exact ⟨.refl s, h⟩

theorem State.notify_reportsOnly {s : State} (h : s.portSound) (n : NoticeName) (x : SourceRecord) (l : List Item) :
    ReportsOnly s (s.notify n x l) ∧ (s.notify n x l).portSound := s.notifyAs_reportsOnly h n.cls n x l

/-- An answer changes reports only, and leaves a sound port. -/
theorem State.answer_reportsOnly {s : State} (h : s.portSound) (f : Frame) (cs : List Code) (l : List Item) :
    ReportsOnly s (s.answer f cs l) ∧ (s.answer f cs l).portSound := s.offerReply_reportsOnly h _

/-- A reply changes reports only, and leaves a sound port. -/
theorem State.reply_reportsOnly {s : State} (h : s.portSound) (f : Frame) (k : RecordKind) (l : List Item) :
    ReportsOnly s (s.reply f k l) ∧ (s.reply f k l).portSound := s.offerReply_reportsOnly h _

/-- A notice of any port changes the ring and the reports only. -/
theorem State.notifyAs_ringOnly (s : State) (c : NoticeClass) (n : NoticeName) (x : SourceRecord) (l : List Item) :
    RingOnly s (s.notifyAs c n x l) := by
  unfold State.notifyAs State.offerNotice
  split
  · split
    · exact RingOnly.trans ⟨_, _, rfl, rfl⟩ (State.joinReports_ringOnly _ _)
    · exact ⟨_, _, rfl, rfl⟩
  · exact .refl s

theorem State.notify_ringOnly (s : State) (n : NoticeName) (x : SourceRecord) (l : List Item) : RingOnly s (s.notify n x l) :=
  s.notifyAs_ringOnly n.cls n x l

theorem State.answer_ringOnly (s : State) (f : Frame) (cs : List Code) (l : List Item) : RingOnly s (s.answer f cs l) := by
  unfold State.answer State.offerReply
  split
  · exact s.joinReports_ringOnly _
  · exact ⟨_, _, rfl, rfl⟩

end Sys2Proof.Machine
end

