-- ==== Sys2Proof/Laws/Reception.lean ====
section
/-!
SUPPORT. What the reception of a frame comes to, by the disposition it meets (R155 to R157, R165): each command's
meaning is read off these.
-/

namespace Sys2Proof.Machine

/-- A checked frame of a listening part from another node: tapped, then disposed of. -/
theorem State.receiveSome_foreign {s : State} {f : Frame} (n : Nat) (h : s.listens) (hf : s.foreign f.src)
    (hb : f.body.length ≤ 244) : s.receiveSome f n = (s.countReceived.tap f).dispose f n := by
  obtain ⟨h1, h2⟩ := h
  have h3 : s.countReceived.passive = false := h2
  have h4 : ¬ f.src = s.countReceived.node := hf.1
  simp [State.receiveSome, State.checked, h1, h3, h4, Nat.not_lt.mpr hb]

/-- A management frame the part accepts. -/
theorem State.receiveSome_management {s : State} {f : Frame} (n : Nat) (h : s.mayCommand f.src) (hb : f.body.length ≤ 244)
    (hd : f.dest = s.node ∨ (f.dest = 255 ∧ f.kind = kTime)) (hk : isManagement f.kind = true) :
    s.receiveSome f n = s.heard.management f n := by
  obtain ⟨hl, hf, ha⟩ := h
  rw [s.receiveSome_foreign n hl hf hb]
  have k1 : f.kind ≠ kSample := by intro e; rw [e] at hk; revert hk; decide
  have k2 : f.kind ≠ kStatus := by intro e; rw [e] at hk; revert hk; decide
  have a : s.countReceived.countConsumed.accepts f.src = true := ha
  have d : f.dest = s.countReceived.node ∨ (f.dest = 255 ∧ f.kind = kTime) := hd
  simp only [State.tap, if_neg k1, if_neg k2, State.dispose, if_neg (not_or.mpr hf.2), if_pos d, State.consume, hk, a, if_true]
  rfl

/-- A management frame of another source than the master node. -/
theorem State.receiveSome_refused {s : State} {f : Frame} (n : Nat) (h : s.listens) (hf : s.foreign f.src)
    (ha : s.accepts f.src = false) (hb : f.body.length ≤ 244)
    (hd : f.dest = s.node ∨ (f.dest = 255 ∧ f.kind = kTime)) (hk : isManagement f.kind = true) :
    s.receiveSome f n = s.heard.answer f [.source] [] := by
  rw [s.receiveSome_foreign n h hf hb]
  have k1 : f.kind ≠ kSample := by intro e; rw [e] at hk; revert hk; decide
  have k2 : f.kind ≠ kStatus := by intro e; rw [e] at hk; revert hk; decide
  have a : s.countReceived.countConsumed.accepts f.src = false := ha
  have d : f.dest = s.countReceived.node ∨ (f.dest = 255 ∧ f.kind = kTime) := hd
  simp only [State.tap, if_neg k1, if_neg k2, State.dispose, if_neg (not_or.mpr hf.2), if_pos d, State.consume, hk, a, if_true]
  rfl

/-- An ORDER frame that passes the part goes to the guard. -/
theorem State.receive_guard {s : State} {f : Frame} (h : s.listens) (hf : s.foreign f.src) (hd : f.dest ≠ s.node)
    (hk : f.kind = kOrder) (hb : f.body.length ≤ 244) : s.receive f = s.countReceived.guard f := by
  have d : ¬ (f.dest = s.countReceived.node ∨ (f.dest = 255 ∧ f.kind = kTime)) := by
    rw [hk]; rintro (e | ⟨-, e⟩)
    · exact hd e
    · revert e; decide
  have k1 : f.kind ≠ kSample := by rw [hk]; decide
  have k2 : f.kind ≠ kStatus := by rw [hk]; decide
  unfold State.receive
  rw [s.receiveSome_foreign 256 h hf hb]
  simp only [State.tap, if_neg k1, if_neg k2, State.dispose, if_neg (not_or.mpr hf.2), if_neg d, if_pos hk]

/-- A tapped frame that passes the part is forwarded after its readings or its report are taken. -/
theorem State.receive_tapped {s : State} {f : Frame} (h : s.listens) (hf : s.foreign f.src)
    (hk : f.kind = kSample ∨ f.kind = kStatus) (hd : f.dest ≠ s.node) (hb : f.body.length ≤ 244)
    (hn : (s.countReceived.tap f).node = s.node) :
    s.receive f = (s.countReceived.tap f).forwardOrDrop f := by
  have d : ¬ (f.dest = (s.countReceived.tap f).node ∨ (f.dest = 255 ∧ f.kind = kTime)) := by
    rw [hn]; rintro (e | ⟨-, e⟩)
    · exact hd e
    · rcases hk with k | k <;> rw [k] at e <;> revert e <;> decide
  have k3 : f.kind ≠ kOrder := by rcases hk with k | k <;> rw [k] <;> decide
  unfold State.receive
  rw [s.receiveSome_foreign 256 h hf hb]
  simp only [State.dispose, if_neg (not_or.mpr hf.2), if_neg d, if_neg k3]

end Sys2Proof.Machine
end

