-- ==== Sys2Proof/WellFormed.lean ====
section
/-!
DEFINITION. Well-formed commands: a command whose operands can stand in the frame its row describes, whatever the
state (sections 9.1, 11.1, 11.2). `exec` gives an ill-formed command the meaning of the bytes it spells all the same.
-/

namespace Sys2Proof

open Sys2Proof.Machine

/-- A body fits a frame: at most 244 bytes (section 11.1). -/
def bodyFits (body : List Byte) : Bool := decide (body.length ≤ 244)

/-- A source that names a node: 1 to 254 (R156). -/
def sourceNamed (src : Byte) : Bool := src != 0 && src != 255

/-- A frame's own fields are in range: a named source, and a body that fits. -/
def frameFits (src : Byte) (body : List Byte) : Bool := sourceNamed src && bodyFits body

/-- An order to one node: its destination is not 255, and its body holds the order code and a value (section 11.2). -/
def orderFits (h : Passing) (tail : List Byte) : Bool :=
  sourceNamed h.src && h.dest != 255 && decide (4 ≤ tail.length) && decide (tail.length ≤ 243)

/-- A directive or query has its four operand bytes (section 11.2). -/
def argFits (snd : Sender) (arg : List Byte) : Bool :=
  sourceNamed snd.src && decide (4 ≤ arg.length) && decide (arg.length ≤ 243)

/-- A TABLE frame holds 1 to 16 entries of its table's size; going on takes at least one entry (R167, log 21). -/
def tableFits (t : TableId) : TableArrival → Bool
  | .frame snd _ count entries now =>
    sourceNamed snd.src && decide (1 ≤ count.toNat) && decide (count.toNat ≤ 16)
      && decide (entries.length = 4 * t.words * count.toNat) && decide (entries.length ≤ 241) && decide (1 ≤ now)
  | .more now => decide (1 ≤ now)

/-- A kind code the part does not know (section 11.2). -/
def kindUnknown (k : Byte) : Bool := k == 0 || decide (9 < k.toNat)

/-- Well-formedness of a command. -/
def Instr.wellFormed : Instr → Bool
  | .powerOnReset _ => true
  | .pinReset _ => true
  | .frameDropped bytes => (checkedFrame bytes).isNone
  | .strip _ _ _ _ body => bodyFits body
  | .sourceDrop _ _ _ _ _ body => bodyFits body
  | .forwardFrame f => frameFits f.src f.body
  | .unknownKind snd kind body => frameFits snd.src body && kindUnknown kind
  | .sample h body => frameFits h.src body && (sampleBody body).isSome
  | .status h body => frameFits h.src body && (statusBody body).isSome
  | .start h tail => orderFits h tail
  | .abort h tail => orderFits h tail
  | .load h tail => orderFits h tail
  | .unload h tail => orderFits h tail
  | .stop h tail => orderFits h tail
  | .setpoint h tail => orderFits h tail
  | .trip h tail => orderFits h tail
  | .enable h tail => orderFits h tail
  | .disable h tail => orderFits h tail
  | .tripReset h tail => orderFits h tail
  | .valveOpen h tail => orderFits h tail
  | .valveClose h tail => orderFits h tail
  | .mismatchedOrder h body => frameFits h.src body && h.dest != 255
  | .broadcastOrder snd body => frameFits snd.src body && (orderBody body).isSome
  | .plantTableWrite a => tableFits .plant a
  | .dispatchWrite a => tableFits .dispatch a
  | .channelWrite a => tableFits .channel a
  | .cavernWrite a => tableFits .cavern a
  | .storeWrite a => tableFits .store a
  | .trainWrite a => tableFits .train a
  | .checkWrite a => tableFits .check a
  | .schedule snd body => frameFits snd.src body && (scheduleBody body).isSome
  | .time _ snd body => frameFits snd.src body && (timeBody body).isSome
  | .mode snd arg => argFits snd arg
  | .trim snd arg => argFits snd arg
  | .swap snd arg => argFits snd arg
  | .clearLatch snd arg => argFits snd arg
  | .trainAvail snd arg => argFits snd arg
  | .reset snd arg => argFits snd arg
  | .queryChannel snd index => argFits snd index
  | .queryCavern snd index => argFits snd index
  | .queryManifold snd index => argFits snd index
  | .queryStore snd index => argFits snd index
  | .queryTrain snd index => argFits snd index
  | .queryConverter snd index => argFits snd index
  | .querySchedule snd index => argFits snd index
  | .queryComputation snd index => argFits snd index
  | .queryRing snd index => argFits snd index
  | .tripCapture snd index => argFits snd index
  | .queryPlant snd index => argFits snd index
  | .queryDispatchSet snd index => argFits snd index
  | .freshnessExpiry _ => true
  | .fallbackExpiry => true
  | .travelTimerExpiry _ => true
  | .deadbandExpiry => true
  | .sequenceTimerExpiry _ => true
  | .cooldownExpiry => true
  | .serviceRetryExpiry => true
  | .markTimerExpiry => true
  | .boundaryEvent => true
  | .endOfRamp => true
  | .plantTimeLimit => true
  | .returnWatchExpiry => true
  | .periodTimerExpiry => true
  | .editQuietExpiry => true
  | .sendingEnd => true
  | .consumedWithoutAnswer _ snd body => frameFits snd.src body
  | .resetPinRelease => true

end Sys2Proof
end

