-- ==== Sys2Proof/Tests/Slice0.lean ====
section
/-!
SUPPORT. Small tests: ill-formed commands refused by `wellFormed`, figures of the spec's worked examples, one step of each
family of commands, and for every statement with hypotheses a concrete state and operands that meet them.
-/

namespace Sys2Proof.Tests

-- Each test is small; elaborating them one after the other keeps their threads few.
set_option Elab.async false

open Sys2Proof Sys2Proof.Machine

/-! ## A small site -/

/-- A header of an order from node 5 to node 20, which the trains below have. -/
def toTrain : Passing := ⟨20, 5, 0, 7⟩

/-- A header to node 40, which the cavern below has. -/
def toValve : Passing := ⟨40, 5, 0, 7⟩

/-- A sender that every accepted command below has. -/
def master : Sender := ⟨5, 0, 7⟩

/-- The pressure channel of the worked example of section 1.3, with node 50 as its source. -/
def chanP : ChanParams where
  source := 50
  slot := 3
  kind := .pressure
  offset := -4000
  gain := 107374182
  scale := 4096
  zero := -10000
  rangeLow := 0
  rangeHigh := 80000
  freshness := 2000
  length := 4
  substitute := 0
  substFlag := false

/-- A cavern at node 40 on channel 0. -/
def cavernP : CavernParams where
  present := true
  channel := some 0
  node := 40
  pMin := 45000
  pMax := 75000
  taper := 10000
  rateLimit := 600
  stiffness := 40
  travel := 60
  notify := true

/-- A store of one layer on channel 1. -/
def storeP : StoreParams where
  present := true
  layers := [⟨1, 2000000⟩]
  tRef := 5000
  eFloor := 300000
  eCeiling := 2600000
  band := 500000
  notify := true

/-- A train at a node, of a kind, in a loading position. -/
def trainP (k : TrainKind) (node position : Nat) : TrainParams where
  kind := k
  node := node
  pMax := 160000
  pMin := 40000
  ramp := 1500
  tStart := 300
  tLoad := 300
  tUnload := 300
  tStop := 300
  store := 0
  position := position
  notify := true

/-- A part at node 1 whose port sends, with the master at node 5, the converter at node 30, the clock VALID, channel 0,
cavern 0 in the valve state `v`, store 0 and train 0 of kind `k` in the state `st`. -/
def site (k : TrainKind) (st : TrainState) (v : ValveState) : State :=
  let s := State.unconfigured 1 .powerOn none
  { s with
    ring := { s.ring with sending := some (.forwarded ⟨9, 8, 1, 0, 0, []⟩) }
    chans := s.chans.set 0 { clearedChannel chanP 0 with quality := .good }
    caverns := s.caverns.set 0 { Cavern.zeroed with p := cavernP, valve := v }
    stores := s.stores.set 0 { Store.zeroed with p := storeP, quality := .good, gen := 1000, absorb := 600 }
    trains := s.trains.set 0 { Train.zeroed with p := trainP k 20 1, state := st }
    clock := { state := .valid, plantMs := 900000, mark := some 300000 }
    sched := { s.sched with active := { s.sched.active with interval := 1 } }
    plant := { s.plant with master := 5, convNode := 30 } }

/-- The same with the manifold in a state. -/
def siteFlow (k : TrainKind) (st : TrainState) (v : ValveState) (m : Manifold) : State := { site k st v with manifold := m }

/-- A frame's field of a next state, none where the step stops. -/
def after (o : Host.Outcome State Fault Refusal) : Option State :=
  match o with
  | .next t => some t
  | _ => none

/-! ## Well-formed commands: each check refuses an ill-formed term -/

theorem test_good_frame_is_not_dropped : (Instr.frameDropped (frameBytes ⟨9, 8, 1, 0, 0, []⟩)).wellFormed = false := by
  decide +kernel
theorem test_strip_body_too_long : (Instr.strip 9 1 0 0 (List.replicate 245 0)).wellFormed = false := by decide +kernel
theorem test_source_drop_body_too_long : (Instr.sourceDrop true 9 1 0 0 (List.replicate 245 0)).wellFormed = false := by
  decide +kernel
theorem test_forward_of_unnamed_source : (Instr.forwardFrame ⟨9, 255, 1, 0, 0, []⟩).wellFormed = false := by decide
theorem test_known_kind_is_not_unknown : (Instr.unknownKind master 9 []).wellFormed = false := by decide
theorem test_sample_of_no_readings : (Instr.sample toTrain []).wellFormed = false := by decide
theorem test_status_too_short : (Instr.status toTrain [1, 2]).wellFormed = false := by decide
theorem test_order_to_all_is_no_order : (Instr.start { toTrain with dest := 255 } [0, 0, 0, 0]).wellFormed = false := by decide
theorem test_order_without_value : (Instr.setpoint toTrain [0, 0, 0]).wellFormed = false := by decide
theorem test_mismatched_order_to_all : (Instr.mismatchedOrder { toTrain with dest := 255 } []).wellFormed = false := by decide
theorem test_broadcast_order_too_short : (Instr.broadcastOrder master [1]).wellFormed = false := by decide
theorem test_table_of_no_entries : (Instr.checkWrite (.frame master 0 0 [] 1)).wellFormed = false := by decide
theorem test_table_of_seventeen : (Instr.checkWrite (.frame master 0 17 (List.replicate 68 0) 17)).wellFormed = false := by decide
theorem test_table_entry_too_short : (Instr.trainWrite (.frame master 0 1 (List.replicate 47 0) 1)).wellFormed = false := by decide
theorem test_no_entries_left : (Instr.plantTableWrite (.more 0)).wellFormed = false := by decide
theorem test_schedule_of_no_entries : (Instr.schedule master [0]).wellFormed = false := by decide
theorem test_time_too_short : (Instr.time true master [0, 0, 0, 1]).wellFormed = false := by decide
theorem test_directive_too_short : (Instr.mode master [0, 0, 2]).wellFormed = false := by decide
theorem test_query_of_unnamed_source : (Instr.queryRing ⟨0, 0, 0⟩ [0, 0, 0, 0]).wellFormed = false := by decide
theorem test_consumed_body_too_long : (Instr.consumedWithoutAnswer true master (List.replicate 245 0)).wellFormed = false := by
  decide +kernel

/-! ## Worked examples of the spec -/

/-- Section 1.3: one pressure reading, and the one of a transmitter that failed high. -/
theorem test_conditioning : conditioned chanP 1000000 = 55362 ∧ conditioned chanP 8388607 = 80000
    ∧ outOfRange chanP 1000000 = false ∧ outOfRange chanP 8388607 = true := by decide
/-- Section 1.5: four averages of the channel's history. -/
theorem test_averages : meanOf [55362, 55370, 55381] = 55371 ∧ meanOf [55362, 55370, 55381, 55390] = 55375
    ∧ meanOf [55381, 55390, 55400, 80000] = 61542 ∧ meanOf [55390, 55400, 80000, 55410] = 61550 := by decide
/-- Section 2.3: three rates of the falling cavern. -/
theorem test_rates : rateOf [(52400, 0), (52390, 50000)] = (0, false) ∧ rateOf [(52400, 0), (52388, 60000)] = (-720, true)
    ∧ rateOf [(52400, 0), (52381, 130000)] = (-526, true) := by decide
/-- Section 2.3: two factors of the falling cavern. -/
theorem test_factors : cavernP.genFactor 52400 = 740 ∧ cavernP.genFactor 52381 = 738 := by decide
/-- Section 2.7: the predicted pressures of a short interval. -/
theorem test_air_prediction : intervalEnergy 150000 900 = 37 ∧ predicted cavernP 45500 150000 37 2 = 44760
    ∧ predicted cavernP 60000 150000 37 2 = 59260 := by decide
/-- Section 3.3: the heat of the layers. -/
theorem test_layer_heat : layerHeat 5000 ⟨1, 2000000⟩ ⟨.good, 55000⟩ = 100000000000
    ∧ layerHeat 5000 ⟨1, 2000000⟩ ⟨.good, 4000⟩ = 0 := by decide
/-- Section 7.3: the ramp window of the table under R120. -/
theorem test_ramp : rampPower 150000 250000 600000 900000 300000 = 150000 ∧ rampPower 150000 250000 700000 900000 300000 = 166666
    ∧ rampPower 150000 250000 900000 900000 300000 = 200000 ∧ rampPower 150000 250000 1199999 900000 300000 = 249999 := by decide
/-- Section 7.12: the reserve response. -/
theorem test_reserve : reserveResponse { DispatchSet.default' with deadband := 10, fFull := 200 } 20000 (-80) = 7368 := by decide
/-- Section 7.12: the shares of the worked case and of the same computation in HOLD. -/
theorem test_shares : (shares 174034 [⟨0, 40000, 116800⟩, ⟨1, 40000, 104000⟩]).map (·.2) = [91292, 82742]
    ∧ (shares 172000 [⟨0, 40000, 116800⟩, ⟨1, 40000, 104000⟩]).map (·.2) = [90182, 81818] := by decide
/-- Section 7.12: the ramped values. -/
theorem test_ramped : ramped 90000 91292 (rampStep 1500 250) = 90375 ∧ ramped 82000 82742 (rampStep 1000 250) = 82250 := by decide
/-- Section 11.1 names the CRC; its value on the digits 1 to 9 is the algorithm's well-known check value. -/
theorem test_crc : crc32 [0x31, 0x32, 0x33, 0x34, 0x35, 0x36, 0x37, 0x38, 0x39] = 0xCBF43926#32 := by decide +kernel

/-! ## One step of each family -/

/-- Section 1.5: the first reading of the channel's history, and one marked invalid. -/
theorem test_sample : (after (exec (.sample ⟨9, 50, 0, 0⟩ [1, 3, 0x0F, 0x42, 0x40]) (site .expander .standby .closed))).map
    (fun t => ((t.chan 0).inst, (t.chan 0).window, (t.chan 0).quality)) = some (55362, [55362], .settling) := by decide +kernel
theorem test_sample_invalid : (after (exec (.sample ⟨9, 50, 0, 0⟩ [1, 3, 0x80, 0, 0]) (site .expander .standby .closed))).map
    (fun t => ((t.chan 0).inst, (t.chan 0).invalid)) = some (0, 1) := by decide +kernel
theorem test_status_at_speed : (after (exec (.status ⟨9, 20, 0, 0⟩ [2, 16, 0, 0, 0, 0, 0, 0])
    { site .expander .starting .closed with conv := ⟨.busy 0, [], none, none, 1, 0⟩ })).map
    (fun t => ((t.train 0).state, t.conv.state)) = some (.idleRun, .cooldown) := by decide +kernel
theorem test_start : (after (exec (.start toTrain [0, 0, 0, 0]) (site .expander .standby .closed))).map
    (fun t => ((t.train 0).state, t.conv.state)) = some (.starting, .busy 0) := by decide +kernel
theorem test_load : (after (exec (.load toTrain [0, 0, 0, 0]) (site .expander .idleRun .opened))).map
    (fun t => ((t.train 0).state, t.manifold.state)) = some (.loading, .discharge) := by decide +kernel
theorem test_load_misdirected : (after (exec (.load toTrain [0, 0, 0, 0])
    (siteFlow .compressor .idleRun .opened ⟨.changeover, some .discharge, some 5000⟩))).map
    (fun t => ((t.train 0).state, t.ring.withheld)) = some (.idleRun, 1) := by decide +kernel
theorem test_setpoint_of_an_intermediate_state : ∀ st ∈ [TrainState.starting, .unloading, .stopping],
    admission st .setpoint = some .state ∧ admission st .load = some .busy := by decide
theorem test_setpoint_clamped : (after (exec (.setpoint toTrain [0, 0, 0, 1])
    (siteFlow .expander .loaded .opened ⟨.discharge, none, none⟩))).map
    (fun t => ((t.train 0).setpoint, t.ring.forward.map (fun f => (f.flags, f.body)))) =
      some (40000, [(1, [6, 0, 0, 0x9C, 0x40])]) := by decide +kernel
theorem test_trip_starts_the_deadband : (after (exec (.trip toTrain [0, 0, 0, 0])
    (siteFlow .expander .loaded .opened ⟨.discharge, none, none⟩))).map
    (fun t => ((t.train 0).state, t.manifold)) = some (.tripped, ⟨.changeover, some .discharge, some 120000⟩) := by decide +kernel
theorem test_valve_open : (after (exec (.valveOpen toValve [0, 0, 0, 0]) (site .expander .standby .closed))).map
    (fun t => ((t.cavern 0).valve, (t.cavern 0).timer)) = some (.opening, some 60000) := by decide +kernel
theorem test_valve_open_while_closing : (after (exec (.valveOpen toValve [0, 0, 0, 0]) (site .expander .standby .closing))).map
    (fun t => ((t.cavern 0).valve, t.ring.withheld)) = some (.closing, 1) := by decide +kernel
theorem test_broadcast_order : (after (exec (.broadcastOrder master [1, 0, 0, 0, 0]) (site .expander .standby .closed))).map
    (fun t => ((t.train 0).state, t.ring.withheld)) = some (.standby, 1) := by decide +kernel
theorem test_check_write : (after (exec (.checkWrite (.frame master 0 1 [1, 2, 3, 4] 1)) (site .expander .standby .closed))).map
    (fun t => (t.mgr.checkWord, t.mgr.quiet)) = some (0x01020304#32, some 10000) := by decide +kernel
theorem test_time_sets_the_clock : (after (exec (.time true master [0, 0x0D, 0xBB, 0xA0, 0, 5]) State.reset)).map
    (fun t => (t.clock, t.sched.active.interval)) = some (⟨.valid, 900000005, some 300000⟩, 1000) := by decide +kernel
theorem test_mode_without_time : (after (exec (.mode ⟨5, 0, 7⟩ [0, 0, 0, 2]) State.reset)).map (fun t => t.mode.mode) = some .off := by
  decide +kernel
theorem test_trim_clamped : (after (exec (.trim master [0x7F, 0xFF, 0xFF, 0xFF]) (site .expander .standby .closed))).map
    (fun t => t.sched.trim) = some 100000 := by decide +kernel
theorem test_schedule_too_late : (after (exec (.schedule master ([1] ++ [0, 0, 0, 2] ++ [0, 0, 0, 9] ++ [0, 0, 0, 0] ++ [1, 0, 0]))
    (site .expander .standby .closed))).map (fun t => t.sched.table) = some [] := by decide +kernel
theorem test_schedule_taken : (after (exec (.schedule master ([1] ++ [0, 0, 0, 3] ++ [0, 0, 0, 9] ++ [0, 0, 0, 0] ++ [1, 1, 0]))
    (site .expander .standby .closed))).map (fun t => t.sched.table) = some [⟨3, 9, 0, 1, true, .dayAhead⟩] := by decide +kernel
theorem test_travel_expiry : (after (exec (.travelTimerExpiry 0)
    (let s := site .expander .standby .opening; s.setCavern 0 { s.cavern 0 with timer := some 400 }))).map
    (fun t => ((t.cavern 0).valve, t.now)) = some (.fault, 400) := by decide +kernel
theorem test_capture_query : (after (exec (.tripCapture master [0, 0, 0, 0])
    (let s := site .expander .tripped .closed
     s.setTrain 0 { s.train 0 with stack := [⟨0, .valid, .loaded, 75000, 17, .changeover, 820⟩], overrun := true }))).map
    (fun t => ((t.train 0).stack, (t.train 0).overrun)) = some ([], false) := by decide +kernel
theorem test_step_takes_the_front : (after (step { State.reset with pending := [.sendingEnd, .swap master [0, 0, 0, 0]] })).map
    (fun t => (t.pending, t.ring.sending)) = some ([.swap master [0, 0, 0, 0]], none) := by decide +kernel

/-! ## Witnesses: the hypotheses of the statements, met -/

/-- IdleStepPassesTime: nothing due, with the clock stopped and with it running. -/
theorem witness_idle : (∀ s ∈ [{ State.reset with ring := { State.reset.ring with watch := none, returns := [] } },
    site .expander .standby .closed], s.pending = [] ∧ s.held = false ∧ s.firstDue = none ∧ s.boundaryAt ≠ some (s.now + 1) ∧
      s.rampEndAt ≠ some (s.now + 1)) := by decide +kernel

/-- A loaded expander in discharge under AUTO, with a reading waiting: a state for the invariants. -/
def running : State :=
  let s := siteFlow .expander .loaded .opened ⟨.discharge, none, none⟩
  { s with
    pending := [.sample ⟨9, 50, 0, 0⟩ [1, 3, 0x0F, 0x42, 0x40]]
    trains := s.trains.set 0 { s.train 0 with setpoint := 90000 }
    disp := { s.disp with tracks := s.disp.tracks.set 0 90000 }
    mode := { s.mode with mode := .auto } }

theorem witness_step : ∃ t, step running = .next t := ⟨_, rfl⟩
theorem witness_counts : running.ringConserved := by unfold State.ringConserved; decide +kernel
theorem witness_queues : running.queuesBounded := by constructor <;> decide +kernel
theorem witness_port : running.portSound := by unfold State.portSound; decide +kernel
theorem witness_schedule : running.scheduleOrdered := by constructor <;> decide +kernel
theorem witness_tap_map : running.tapMapUnique := by
  have one : ∀ c, (running.chan c).present = true → c = 0 := by decide +kernel
  intro c d hc hd _ _
  rw [one c hc, one d hd]
theorem witness_mode : running.modeSound := by constructor <;> decide +kernel
theorem witness_converter : running.converterSound := by constructor <;> decide +kernel
theorem witness_manifold : running.manifoldFollows := by unfold State.manifoldFollows; decide +kernel
theorem witness_marks : running.marksSound := by unfold State.marksSound; decide +kernel
theorem witness_factors : running.factorsBounded := by constructor <;> (unfold isFactor; decide +kernel)
theorem witness_tables : running.tablesInRange := by constructor <;> decide +kernel
theorem witness_channels : running.channelsInRange := by
  have one : ∀ c, (running.chan c).present = true → c = 0 := by decide +kernel
  intro c hc
  rw [one c hc]
  constructor <;> decide +kernel
theorem witness_setpoints : running.setpointsInRange := by unfold State.setpointsInRange; decide +kernel

/-- FramesRoundTrip: the longest body, and bytes that pass the checks. -/
theorem witness_frame : (List.replicate 244 (7 : Byte)).length ≤ 244 ∧
    checkedFrame (frameBytes ⟨9, 8, 1, 0, 513, [1, 2, 3]⟩) = some ⟨9, 8, 1, 0, 513, [1, 2, 3]⟩ := by decide +kernel
/-- TableWordsRoundTrip: an entry of each table. -/
theorem witness_words : (plantParams PlantTable.default'.toWords).isSome ∧ (dispatchParams DispatchSet.default'.toWords).isSome ∧
    (chanParams chanP.toWords).isSome ∧ (cavernParams cavernP.toWords).isSome ∧ (storeParams storeP.toWords).isSome ∧
    (trainParams (trainP .expander 20 1).toWords).isSome := by decide +kernel
/-- RampInterpolates: a window at the boundary 900 s with a half width of 300 s, at both ends. -/
theorem witness_ramp : (0 < 300000 ∧ 300000 ≤ 900000 ∧ 900000 - 300000 ≤ 600000 ∧ 600000 ≤ 1199999 ∧ 1199999 < 900000 + 300000) ∧
    (∀ s ∈ [site .expander .standby .closed], s.plant.rampHalf * 2 ≤ s.plant.interval ∧
      s.plant.rampHalf * 1000 < s.plant.interval * 1000) := by decide +kernel
/-- ResponseAndRampBounded: the default set, at the deadband, at the full deviation and on both signs. -/
theorem witness_reserve : (0 ≤ DispatchSet.default'.deadband ∧ DispatchSet.default'.deadband < DispatchSet.default'.fFull) ∧
    magnitude (-10) ≤ DispatchSet.default'.deadband ∧ DispatchSet.default'.deadband < magnitude 11 ∧
    magnitude (-200) ≤ DispatchSet.default'.fFull ∧ DispatchSet.default'.fFull ≤ magnitude 200 := by decide
/-- TargetBounded: an open cavern with a train and a store of its kind; a loaded train that takes part, in each direction and with the
no-increase condition; a request below, in and above the envelope. -/
theorem witness_target : (∀ s ∈ [running], (s.cavern 0).isOpen = true ∧ (s.train 0).p.kind = Direction.discharge.kind ∧
      (s.train 0).p.store = (0 : Fin 3).val) ∧
    (∀ d ∈ [Direction.charge, .discharge], ∀ hold ∈ [true, false],
      ∀ s ∈ [let s := siteFlow d.kind .loaded .opened ⟨d.state, none, none⟩
             s.setCavern 0 { s.cavern 0 with gen := 1000, absorb := 1000, hold := hold }],
      (slotNumbers.filter fun i => (s.train i).isIn .loaded && decide ((s.train i).p.pMin ≤ s.availMax i)) = [0] ∧
        s.manifold.state = d.state ∧ (s.cavern 0).hold = hold) := by decide +kernel
/-- TargetBounded: the target at the least of the envelope, 40,000 of 160,000 kW, in discharge for a request of 0 and in charge for
one of the other sign, as R124 and R125 have it. -/
theorem test_target : (∀ x ∈ [(Direction.discharge, (0 : Int), (40000 : Int)), (.discharge, 50000, 50000), (.discharge, 500000, 160000),
      (.charge, 50000, -40000), (.charge, -90000, -90000)],
    (let s := siteFlow x.1.kind .loaded .opened ⟨x.1.state, none, none⟩
     let s := s.setStore 0 { s.store 0 with gen := 1000, absorb := 1000 }
     let s : State := { s.setCavern 0 { s.cavern 0 with gen := 1000, absorb := 1000 } with
       sched := { s.sched with active := { s.sched.active with net := x.2.1 } } }
     (s.compute .reading 0).disp.target) = x.2.2) := by decide +kernel
/-- SharesPlaceTheTarget: the two trains of section 7.12, at both ends of their envelope. -/
theorem witness_shares : ∀ m ∈ [(80000 : Int), 220800], ∀ ps ∈ [[(⟨0, 40000, 116800⟩ : Part), ⟨1, 40000, 104000⟩]],
    ps ≠ [] ∧ (∀ p ∈ ps, p.lo ≤ p.hi) ∧ minSum ps ≤ m ∧ m ≤ maxSum ps := by decide

/-- ResponseAndRampBounded: the least and a usual ramp rate; a track at the share, below it and above it. -/
theorem witness_ramp_limit : (0 : Int) ≤ 0 ∧ 0 ≤ (trainP .expander 20 1).ramp ∧ magnitude (90375 - 90000) ≤ rampStep 1500 250 ∧
    1000 ≤ (trainP .expander 20 1).ramp * 250 := by decide
/-- ReportQueue: a notice of every class. -/
theorem witness_classes : NoticeName.valveFault.cls = .safety ∧ NoticeName.started.cls = .config ∧ NoticeName.rateHold.cls = .limit ∧
    NoticeName.scheduleGap.cls = .schedule ∧ NoticeName.ringOpen.cls = .ring ∧ NoticeName.trainState.cls = .sequence ∧
    NoticeName.guardRefused.cls = .guard ∧ State.reset.passive = false ∧
    (State.unconfigured 0 .pin none).passive = true := by decide +kernel
/-- OrdersRefused: the ten train orders. -/
theorem witness_train_orders : ∀ o ∈ [Order.start, .abort, .load, .unload, .stop, .setpoint, .trip, .enable, .disable, .tripReset],
    o.isValve = false := by decide

/-! The port, the ring and the reports -/

theorem witness_master (k : TrainKind) (st : TrainState) (v : ValveState) : (site k st v).mayCommand master.src :=
  ⟨⟨rfl, rfl⟩, ⟨(by decide : (5 : Byte) ≠ 1), by decide, by decide⟩, rfl⟩
theorem witness_listens (k : TrainKind) (st : TrainState) (v : ValveState) :
    (site k st v).listens ∧ (site k st v).foreign 5 ∧ (site k st v).portSound ∧ (site k st v).ring.sending ≠ none :=
  ⟨⟨rfl, rfl⟩, ⟨(by decide : (5 : Byte) ≠ 1), by decide, by decide⟩, nofun, nofun⟩
/-- PinReset: held, and held with an idle port. -/
theorem witness_held : ∀ s ∈ [{ State.unconfigured 1 .pin none with held := true }], s.held = true ∧ s.mgr.work = none ∧
    s.ring.sending = none ∧ s.passive = false ∧ s.rep.queue = [] ∧ s.ring.forward = [] ∧ s.ring.orders = [] ∧
    s.rep.lostNotice = 0 := by decide +kernel
/-- WarmReset, ModeDirective: the kinds 3 and 4, the modes 0 to 3. -/
theorem witness_kinds : (word32 0 0 0 3).toNat = 3 ∧ (word32 0 0 0 4).toNat ≠ 2 ∧ (word32 0 0 0 4).toNat ≠ 3 ∧
    2 < (word32 0 0 0 3).toNat ∧ (word32 0 0 0 2).toNat = 2 ∧ (word32 0 0 0 1).toNat = 1 ∧ (word32 0 0 0 0).toNat = 0 := by decide
/-- FramesEndHere: bytes that fail a check, an unknown kind at both ends, a source that is not the master. -/
theorem witness_frames_end : checkedFrame [] = none ∧ (9 < (10 : Byte).toNat) ∧ (9 < (255 : Byte).toNat) ∧
    (∀ s ∈ [site .expander .standby .closed], s.plant.master ≠ 0 ∧ s.plant.master ≠ (6 : Byte).toNat) := by decide +kernel
/-- StripAndReturn: a return list whose second entry returns. -/
theorem witness_strip : ∀ l ∈ [[(⟨3, 2, 0⟩ : Return), ⟨4, 2, 0⟩, ⟨5, 9, 10⟩]], l = [⟨3, 2, 0⟩] ++ ⟨4, 2, 0⟩ :: [⟨5, 9, 10⟩] ∧
    (∀ x ∈ [(⟨3, 2, 0⟩ : Return)], x.seq ≠ 4) ∧ (∀ e ∈ l, e.seq ≠ 6) := by decide
/-- FramesForwarded: a PASSIVE part, and a frame for another node at a part that is not. -/
theorem witness_forwarded : (∀ s ∈ [State.unconfigured 0 .powerOn none, State.unconfigured 255 .powerOn none],
      s.held = false ∧ s.passive = true) ∧
    (∀ s ∈ [site .expander .standby .closed], ∀ f ∈ [(⟨9, 8, 8, 0, 0, []⟩ : Frame), ⟨255, 8, 6, 0, 0, []⟩], f.dest ≠ s.node ∧
      f.kind ≠ kSample ∧ f.kind ≠ kStatus ∧ f.kind ≠ kOrder ∧ ¬ (f.dest = 255 ∧ f.kind = kTime)) := by decide +kernel

/-! Orders -/

theorem witness_order (k : TrainKind) (st : TrainState) (v : ValveState) (hk : k ≠ .absent) :
    (site k st v).ordered toTrain [0, 0, 0, 0] ∧ (site k st v).trainNode toTrain.dest.toNat 0 ∧
      (site k st v).ring.forward.length < 24 ∧ ((site k st v).train 0).state = st ∧ (site k st v).conv.state = .free ∧
      (site k st v).conv.queue = [] := by
  refine ⟨⟨⟨⟨rfl, rfl⟩, ⟨(by decide : (5 : Byte) ≠ 1), by decide, by decide⟩, (by decide : (20 : Byte) ≠ 1)⟩, by decide, by decide, by decide⟩,
    ⟨?_, rfl⟩, (by decide : 0 < 24), rfl, rfl, rfl⟩
  cases k
  · rfl
  · rfl
  · exact absurd rfl hk
theorem witness_valve (k : TrainKind) (st : TrainState) (v : ValveState) :
    (site k st v).ordered toValve [0, 0, 0, 0] ∧ (site k st v).valveNode toValve.dest.toNat 0 ∧ ((site k st v).cavern 0).valve = v := by
  refine ⟨⟨⟨⟨rfl, rfl⟩, ⟨(by decide : (5 : Byte) ≠ 1), by decide, by decide⟩, (by decide : (40 : Byte) ≠ 1)⟩, by decide, by decide, by decide⟩,
    ⟨?_, rfl⟩, rfl⟩
  cases k <;> rfl
/-- StartTaken: an expander whose store's factor is above 0, and a converter in use. -/
theorem witness_start : (site .expander .standby .closed).storeFactor ((site .expander .standby .closed).train 0) .discharge ≠ 0 ∧
    ({ site .expander .standby .closed with conv := ⟨.cooldown, [], some 5, none, 0, 0⟩ } : State).conv.state ≠ .free := by
  decide +kernel
/-- LoadTaken: a manifold in each state that takes the LOAD. -/
theorem witness_load : ∀ m ∈ [(⟨.discharge, none, none⟩ : Manifold), ⟨.idle, none, none⟩, ⟨.changeover, some .discharge, some 5⟩],
    (siteFlow .expander .idleRun .opened m).someUnknown = false ∧
    ((siteFlow .expander .idleRun .opened m).train 0).p.kind = Direction.discharge.kind ∧
    (m.state = Direction.discharge.state ∨ m.state = .idle ∨ (m.state = .changeover ∧ m.remembered = some .discharge)) := by
  decide +kernel
/-- TripTaken, ManifoldMoves: a train that flows alone, and one that flows beside another. -/
theorem witness_trip : (∀ j, j ≠ 0 → ((siteFlow .expander .loaded .opened ⟨.discharge, none, none⟩).train j).flowing = false) ∧
    ((let s := siteFlow .expander .loaded .opened ⟨.discharge, none, none⟩
      s.setTrain 1 { s.train 0 with p := trainP .expander 21 2 }).train 1).flowing = true := by decide +kernel
/-- SetpointGuarded: the bounds of the last clause. -/
theorem witness_setpoint : 0 ≤ (trainP .expander 20 1).pMin ∧ (trainP .expander 20 1).pMin ≤ (trainP .expander 20 1).pMax ∧
    (trainP .expander 20 1).pMax ≤ 500000 := by decide
/-- OrdersRefused: a refusal by the table, by the heat test, by the manifold, and of a TRIP_RESET. -/
theorem witness_refused : admission .offline .load = some .state ∧
    (∀ s ∈ [let s := site .expander .standby .closed; s.setStore 0 { s.store 0 with gen := 0 }], s.heatLow 0 = true) ∧
    (∀ s ∈ [siteFlow .compressor .idleRun .opened ⟨.discharge, none, none⟩], s.someUnknown = false ∧
      s.manifold.loadCheck (s.train 0).p.kind = some .direction) ∧
    ((site .expander .tripped .closed).train 0).tripClear = false := by decide +kernel
/-- OrdersRefused: admitted orders of a train, an order of a valve that opens and one to another node, at a full forward queue. -/
theorem witness_full_forward : ∀ full ∈ [List.replicate 24 (⟨9, 8, 1, 0, 0, []⟩ : Frame)], 24 ≤ full.length ∧
    (∀ x ∈ [(TrainState.standby, Order.start), (.idleRun, .load), (.tripped, .tripReset), (.loaded, .setpoint), (.loaded, .trip)],
      ∀ s ∈ [let s := site .expander x.1 .closed
             { s.setTrain 0 { s.train 0 with tripClear := true } with ring := { s.ring with forward := full } }],
      admission (s.train 0).state x.2 = none ∧ s.heatLow 0 = false ∧ s.conv.state = .free ∧ s.conv.queue = [] ∧ s.someUnknown = false ∧
        s.manifold.loadCheck (s.train 0).p.kind = none ∧ (s.train 0).tripClear = true ∧ s.mode.mode = .off ∧
        (s.cavern 0).valve = .closed ∧ (s.cavern 0).mark = .none ∧ s.trainAt 77 = none ∧ s.cavernAt 77 = none) := by decide +kernel
theorem test_full_forward : (let s := site .expander .standby .closed
    (after (exec (.start toTrain [0, 0, 0, 0]) { s with ring := { s.ring with forward := List.replicate 24 ⟨9, 8, 1, 0, 0, []⟩ } })).map
      fun t => ((t.train 0).state, t.conv.state, t.ring.dropped, t.ring.withheld, t.rep.queue.length)) =
    some (.standby, .free, 1, 0, 0) := by decide +kernel
/-- OrdersMisdirected: a train order at a valve, a valve order at a train, an order to another node, an unknown code. -/
theorem witness_misdirected : ∀ s ∈ [site .expander .standby .closed], s.trainAt 20 = some 0 ∧ s.cavernAt 20 = none ∧
    s.trainAt 40 = none ∧ s.cavernAt 40 = some 0 ∧ s.trainAt 77 = none ∧ s.cavernAt 77 = none ∧ s.node = 1 ∧
    orderBody [13, 0, 0, 0, 0] = some (13, 0) ∧ Machine.orderOf 13 = none ∧ orderBody [1, 0, 0, 0] = none := by decide +kernel
/-- ValveOrders: a mark of the present direction and of the other. -/
theorem witness_mark : (Mark.low).dir = (⟨.discharge, none, none⟩ : Manifold).present ∧
    (Mark.high).dir ≠ (⟨.changeover, some .discharge, none⟩ : Manifold).present ∧ (Mark.low).dir ≠ (⟨.idle, none, none⟩ : Manifold).present := by
  decide

/-! Readings, reports and tables -/

/-- ReadingsTaken: a key the tap map holds and one it does not, the invalid value and the one above it. -/
theorem witness_reading : ∀ s ∈ [site .expander .standby .closed], s.tapMap 50 3 = some 0 ∧ s.tapMap 50 4 = none ∧
    int24 0x80 0 0 = -8388608 ∧ int24 0x80 0 1 = -8388607 ∧ int24 0x7F 0xFF 0xFF = 8388607 := by decide +kernel
/-- TrainReportsTaken, ValveAndConverterReports: reports of the train, the valve, the converter and another node. -/
theorem witness_status : ∀ s ∈ [site .expander .stopping .closing], s.trainAt 20 = some 0 ∧ s.cavernAt 20 = none ∧
    s.plant.convNode ≠ 20 ∧ s.plant.convNode = 30 ∧ s.trainAt 30 = none ∧ s.cavernAt 30 = none ∧ s.trainAt 40 = none ∧
    s.cavernAt 40 = some 0 ∧ s.plant.convNode ≠ 40 ∧ (s.cavern 0).mark = .none ∧ s.manifold.state.flow = none := by decide +kernel
theorem witness_status_passes (k : TrainKind) (st : TrainState) (v : ValveState) :
    (∀ h ∈ [(⟨9, 20, 0, 0⟩ : Passing), ⟨9, 40, 0, 0⟩, ⟨9, 30, 0, 0⟩, ⟨9, 77, 0, 0⟩],
      (site k st v).passes h) ∧ ((site k st v).train 0).p.kind = k := by
  refine ⟨fun h hh => ?_, rfl⟩
  have src : ∀ h ∈ [(⟨9, 20, 0, 0⟩ : Passing), ⟨9, 40, 0, 0⟩, ⟨9, 30, 0, 0⟩, ⟨9, 77, 0, 0⟩],
      h.src ≠ 1 ∧ h.src ≠ 0 ∧ h.src ≠ 255 ∧ h.dest ≠ 1 := by decide
  exact ⟨⟨rfl, rfl⟩, ⟨(src h hh).1, (src h hh).2.1, (src h hh).2.2.1⟩, (src h hh).2.2.2⟩
/-- TrainReportsTaken: a train that trips out of the start queue, out of the converter with a cooldown and with none, alone in the
flow, beside another train, in a changeover that its leaving ends, and once more. -/
theorem witness_trips : (∀ s ∈ [{ site .expander .startWait .closed with conv := ⟨.cooldown, [0], some 5, none, 0, 0⟩ }],
      (s.train 0).state = .startWait ∧ s.conv.queue.erase 0 = []) ∧
    (∀ cool ∈ [0, 60], ∀ s ∈ [let s := site .expander .starting .closed
        { s with conv := ⟨.busy 0, [], none, none, 1, 0⟩, plant := { s.plant with cooldown := cool } }],
      (s.train 0).state = .starting ∧ s.conv.state = .busy 0 ∧ 0 ∉ s.conv.queue ∧ s.plant.cooldown = cool) ∧
    (∀ m ∈ [(⟨.discharge, none, none⟩ : Manifold), ⟨.changeover, some .discharge, none⟩], ∀ st ∈ [TrainState.loading, .loaded, .unloading],
      ∀ s ∈ [siteFlow .expander st .opened m], (s.train 0).state = st ∧ ∀ j, j ≠ 0 → (s.train j).flowing = false) ∧
    ((site .expander .tripped .closed).train 0).state = .tripped := by decide +kernel
/-- Section 4.7: the first event of its worked example, the trip of a loaded train that was the last to flow. -/
theorem test_trip_of_a_loaded_train : (let s := siteFlow .compressor .loaded .opened ⟨.charge, none, none⟩
    let s := (s.setTrain 0 { s.train 0 with setpoint := 75000 }).setCavern 0 { s.cavern 0 with absorb := 820 }
    (after (exec (.status ⟨9, 20, 0, 0⟩ [2, 20, 0, 0, 0, 0, 0, 17]) s)).map
      fun t => ((t.train 0).state, (t.train 0).setpoint, t.manifold.state, (t.train 0).stack, (t.train 0).overrun)) =
    some (.tripped, 0, .changeover, [⟨900000, .valid, .loaded, 75000, 17, .changeover, 820⟩], false) := by decide +kernel
/-- ValveAndConverterReports: valves in every state, marked and unmarked, with room for an order and with none; a converter at work
with its train, and one in FAULT with a train that waits. -/
theorem witness_valve_reports : (∀ v ∈ [ValveState.unknown, .closed, .opening, .opened, .closing, .fault], ∀ mk ∈ [Mark.none, .low],
      ∀ n ∈ [15, 16], ∀ s ∈ [let s := site .expander .standby v
        { s.setCavern 0 { s.cavern 0 with mark := mk } with ring := { s.ring with orders := List.replicate n ⟨20, .trip, 0⟩ } }],
      (s.cavern 0).valve = v ∧ (s.cavern 0).mark = mk ∧ s.ring.orders.length = n ∧ s.ring.sending ≠ none) ∧
    (∀ s ∈ [{ site .expander .starting .closed with conv := ⟨.busy 0, [], none, none, 1, 0⟩ }],
      s.conv.state = .busy 0 ∧ (s.train 0).state = .starting) ∧
    (∀ s ∈ [{ site .expander .startWait .closed with conv := ⟨.fault, [0], none, none, 1, 1⟩ }],
      s.conv.state = .fault ∧ s.conv.queue = 0 :: [] ∧ (s.train 0).state = .startWait) := by decide +kernel
/-- R27, R28: a marked cavern that is reported OPEN is closed again, and a CLOSED one reported OPEN is adopted. -/
theorem test_valve_reports : (∀ x ∈ [(ValveState.opening, Mark.low, ValveState.closing, 1), (.closed, .none, .opened, 0),
      (.fault, .none, .opened, 0)],
    (let s := site .expander .standby x.1
     (after (exec (.status ⟨9, 40, 0, 0⟩ [1, 32, 0, 0, 0, 0, 0, 0]) (s.setCavern 0 { s.cavern 0 with mark := x.2.1 }))).map
       fun t => ((t.cavern 0).valve, (t.cavern 0).mark, t.ring.orders.length)) = some (x.2.2.1, x.2.1, x.2.2.2)) := by decide +kernel
/-- PlantSetAndCheckWrites, RecordWrites: an entry of each table of its length, out of range and in range. -/
theorem witness_table_bytes : ((PlantTable.default'.toWords.flatMap bytes32).length = 96 ∧ (List.replicate 96 (0 : Byte)).length = 96 ∧
      plantParams (wordsOf (List.replicate 96 0)) = none ∧ plantParams (wordsOf (PlantTable.default'.toWords.flatMap bytes32)) = some PlantTable.default') ∧
    ((DispatchSet.default'.toWords.flatMap bytes32).length = 36 ∧
      dispatchParams (wordsOf (DispatchSet.default'.toWords.flatMap bytes32)) = some DispatchSet.default' ∧
      dispatchParams (wordsOf (List.replicate 36 255)) = none) ∧
    ((chanP.toWords.flatMap bytes32).length = 52 ∧ chanParams (wordsOf (chanP.toWords.flatMap bytes32)) = some chanP) ∧
    ((cavernP.toWords.flatMap bytes32).length = 40 ∧ cavernParams (wordsOf (cavernP.toWords.flatMap bytes32)) = some cavernP) ∧
    ((storeP.toWords.flatMap bytes32).length = 92 ∧ storeParams (wordsOf (storeP.toWords.flatMap bytes32)) = some storeP ∧
      channelTwice storeP.layers = false) ∧
    (((trainP .expander 20 1).toWords.flatMap bytes32).length = 48 ∧
      trainParams (wordsOf ((trainP .expander 20 1).toWords.flatMap bytes32)) = some (trainP .expander 20 1)) := by decide +kernel
/-- RecordWrites: a second channel with the key of channel 0; a closed cavern; a store whose train does not flow; an OFFLINE train. -/
theorem witness_records : ∀ s ∈ [site .expander .offline .closed], (s.chan 0).present = true ∧ (s.chan 0).p.source = chanP.source ∧
    (s.chan 0).p.slot = chanP.slot ∧ (s.cavern 0).valve = .closed ∧ s.mode.mode ≠ .auto ∧
    (∀ i, (s.train i).assignedTo 0 = true → (s.train i).flowing = false) ∧ (s.train 0).state = .offline ∧ s.node.toNat = 1 ∧
    s.mgr.work = none ∧ s.mode.mode = .off ∧ s.manifold.state = .idle ∧ s.conv.state ≠ .fault := by decide +kernel

/-! The grid, the caverns, the stores and adoption -/

/-- A site whose channel 1 is bound as the grid frequency, at node 60, with the store's layer away from it. -/
def gridSite (m : Mode) (g : Grid) : State :=
  let s := site .expander .standby .closed
  { s with
    chans := s.chans.set 1 { clearedChannel { chanP with source := 60, kind := .frequency, scale := 65536, zero := 0, offset := 0, gain := 0 } 0
      with quality := .good }
    stores := s.stores.set 0 { s.store 0 with p := { storeP with layers := [⟨2, 2000000⟩] } }
    plant := { s.plant with gridNode := 60, gridChannel := some 1, fNom := 50000, alarm := 200, spacing := 250 }
    grid := g
    mode := ⟨m, false, false, false⟩ }

/-- GridSupervision: a reading that triggers, at the spacing and at first, one that comes a millisecond early, and the
deviation on both sides of the alarm threshold. -/
theorem witness_grid : ∀ m ∈ [Mode.off, .manual, .hold, .auto], ∀ g ∈ [(⟨false, some 500, none, false, false⟩ : Grid), ⟨true, none, some 750, true, true⟩,
      ⟨true, none, some 751, false, true⟩],
    ∀ s ∈ [({ gridSite m g with now := 1000 } : State)], s.tapMap 60 3 = some 1 ∧ s.gridBound = some (1 : Fin 96).val ∧
      int24 0 0xC4 0x18 = 50200 ∧ ((s.chan 1).accept 50200 s.now).inst = 50200 ∧ ((s.chan 1).accept 50201 s.now).inst = 50201 ∧
      (s.chan 1).p.substFlag = false ∧ s.clock.state ≠ .invalid := by decide +kernel
/-- GridSupervision: the freshness of a substituted grid channel runs out. -/
theorem witness_grid_substituted : ∀ s ∈ [let s := gridSite .manual ⟨false, some 500, none, false, false⟩
      s.setChan 1 { s.chan 1 with timer := some 7, p := { (s.chan 1).p with substFlag := true } }],
    (s.chan 1).timer = some 7 ∧ s.timerNext 7 = true ∧ s.held = false ∧ s.gridBound = some 1 ∧ (s.chan 1).quality = .good ∧
      (s.chan 1).p.substFlag = true := by decide +kernel
theorem test_grid_reading : (∀ x ∈ [(0x18, false, false), (0x19, true, true)],
      (after (exec (.sample ⟨9, 60, 0, 0⟩ [1, 3, 0, 0xC4, x.1]) (gridSite .manual ⟨false, some 500, none, false, false⟩))).map
        (fun t => (t.grid, t.disp.count)) = some (⟨true, none, some 0, x.2.1, x.2.2⟩, 1)) := by decide +kernel
/-- GridSupervision: the freshness of the grid channel runs out, in TRACKING with a deviation and in FALLBACK. -/
theorem witness_grid_stale : ∀ g ∈ [(⟨true, none, some 0, true, true⟩ : Grid), ⟨false, some 500, none, false, false⟩],
    ∀ s ∈ [let s := gridSite .manual g
           { s with chans := s.chans.set 1 { s.chan 1 with timer := some 7 } }],
      (s.chan 1).timer = some 7 ∧ s.timerNext 7 = true ∧ s.held = false ∧ s.gridBound = some 1 ∧ (s.chan 1).quality = .good ∧ 0 ≤ s.plant.alarm ∧
      (∀ n, (s.cavern n).p.present = true → (s.cavern n).p.channel ≠ some 1) ∧
      (∀ m, (s.store m).p.present = true → ∀ l ∈ (s.store m).p.layers, l.channel ≠ 1) := by decide +kernel
/-- CavernsAnswer: a cavern that shuts, in each direction; one that reopens, from each mark; a full order queue. -/
theorem witness_caverns :
    (∀ d ∈ [Direction.charge, .discharge], ∀ v ∈ [ValveState.opened, .opening], ∀ s ∈ [siteFlow .expander .standby v ⟨d.state, none, none⟩],
      s.manifold.state = d.state ∧ (s.cavern 0).p.present = true ∧ (s.cavern 0).factor d = 0 ∧ (s.pressure 0).quality ≠ .none ∧
      (s.cavern 0).mark = .none ∧ s.ring.orders.length < 16) ∧
    (∀ x ∈ [(Mark.low, ManifoldState.charge), (.high, .discharge)], ∀ v ∈ [ValveState.closed, .unknown],
      ∀ s ∈ [let s := siteFlow .expander .standby v ⟨x.2, none, none⟩
             { s.setCavern 0 { s.cavern 0 with mark := x.1 } with mode := ⟨.auto, false, false, false⟩ }],
      s.mode.mode = .auto ∧ (s.cavern 0).p.present = true ∧ (s.cavern 0).valve = v ∧ (s.cavern 0).mark = x.1) ∧
    16 ≤ (List.replicate 16 (⟨40, .valveClose, 0⟩ : OwnOrder)).length := by decide +kernel
/-- CavernsAnswer: rate lists of a minute and of a millisecond less. -/
theorem witness_rates : ∀ l ∈ [[((52400 : Int), 0), (52388, 60000)], [(52400, 0), (52388, 59999)], [(52400, 0)]],
    l.head? = some (52400, 0) ∧ l.getLast?.isSome := by decide
/-- A site with its cavern open and a heat ratio above 0. -/
def needySite : State :=
  let s := site .expander .standby .opened
  { s with plant := { s.plant with genRatio := 1000, enSchedule := true } }

/-- StoresAndAdequacy: a layer event of the store's channel and of another, and heat short of what an interval needs. -/
theorem witness_stores : ∀ s ∈ [needySite], ((s.store 0).p.present = true ∧ ∃ l ∈ (s.store 0).p.layers, l.channel = 1) ∧
    (¬ ∃ l ∈ (s.store 0).p.layers, l.channel = 2) ∧ s.passive = false ∧
    0 < ((magnitude 150000 * s.plant.interval).tdiv 3600000) * s.plant.genRatio ∧
    (cavernNumbers.filter fun c => (s.cavern c).p.present && (s.cavern c).valve == .opened) = [0] := by decide +kernel
theorem test_adequacy : ∀ s ∈ [needySite], (s.heatCheck 5 0).rep.queue.length = 0 ∧
    (s.heatCheck 5 150000).rep.queue.length = 1 ∧ (s.airCheck 5 150000).rep.queue.length = 1 := by decide +kernel
/-- ReadingsTaken: readings of a pressure channel that a cavern names, with room for every order. -/
theorem witness_reading_consumers : ∀ s ∈ [siteFlow .expander .standby .opened ⟨.discharge, none, none⟩], (s.chan 0).p.kind = .pressure ∧
    (s.cavern 0).p.channel = some (0 : Fin 96).val ∧ s.ring.orders.length ≤ 8 ∧ (s.cavern 0).rates = [] := by decide +kernel
/-- ReportsAdopted, TrainReportsTaken: every state code names its state. -/
theorem witness_state_codes : ∀ x ∈ [((1 : Byte), TrainState.offline), (2, .standby), (3, .starting), (4, .idleRun), (5, .loading), (6, .loaded),
    (7, .unloading), (8, .stopping), (9, .tripped)], trainStateOf x.1 = some x.2 := by decide
theorem test_adoption : (after (exec (.status ⟨9, 20, 0, 0⟩ [1, 6, 0, 0, 0, 1, 0, 0]) (site .expander .unknown .opened))).map
    (fun t => ((t.train 0).state, (t.train 0).setpoint, t.manifold.state)) = some (.loaded, 40000, .discharge) := by decide +kernel
theorem test_adoption_against_the_flow : (after (exec (.status ⟨9, 20, 0, 0⟩ [1, 6, 0, 0, 0, 1, 0, 0])
    (siteFlow .expander .idleRun .opened ⟨.charge, none, none⟩))).map
    (fun t => ((t.train 0).state, t.ring.orders, t.manifold.state)) = some (.unloading, [⟨20, .unload, 0⟩], .charge) := by decide +kernel

/-! The issue stage and commitment -/

/-- IssueStage: the state is sound in each mode, with a train that takes part and one that starves. -/
theorem witness_issue : ∀ m ∈ [Mode.auto, .hold, .manual],
    ∀ s ∈ [({ running with mode := ⟨m, false, false, false⟩ } : State)], s.ring.sending ≠ none ∧ s.mode.mode = m ∧
      (s.loadingOrder .expander) = [0] ∧ (s.train 0).isIn .loaded = true ∧ (s.train 1).isIn .loaded = false := by decide +kernel
/-- CommitmentRun: a demand beyond the capacity, no train starting, and the first train of the kind ready, at a free converter, at a
busy one, and with a cold store. -/
theorem witness_start_step : ∀ c ∈ [(⟨.free, [], none, none, 0, 0⟩ : Converter), ⟨.cooldown, [], some 5, none, 0, 0⟩],
    ∀ s ∈ [({ site .expander .standby .opened with conv := c } : State)], ∀ f ∈ [(⟨0, 50000, 50000, some .discharge, 0, 0⟩ : Demand)],
      (f.c * s.disp.active.startPm).tdiv 1000 < f.demand ∧ s.loadingOrder Direction.discharge.kind = [] ++ 0 :: [] ∧
      (s.train 0).state = .standby ∧ (s.train 0).available = true ∧ s.someUnknown = false ∧ s.storeFactor (s.train 0) .discharge ≠ 0 ∧
      (s.setStore 0 { s.store 0 with gen := 0 }).storeFactor (s.train 0) .discharge = 0 ∧ s.ring.orders.length < 16 := by decide +kernel
theorem test_start_step : (let s := site .expander .standby .opened
    let t := s.startStep ⟨0, 50000, 50000, some .discharge, 0, 0⟩
    ((t.train 0).state, t.conv.state, t.ownOrders)) = (.starting, .busy 0, [⟨20, .start, 0⟩]) := by decide +kernel
/-- CommitmentMoves: a manifold that flows against the demand, one that is IDLE with an IDLE_RUN train, the last LOADED train at the
instant of the stop delay, and a train that idled to the idle limit. -/
theorem witness_commitment :
    (∀ s ∈ [running], s.manifold.state = Direction.discharge.state ∧ s.ring.sending ≠ none ∧ s.grid.seen = false ∧
      s.loadingOrder Direction.discharge.kind = [] ++ 0 :: [] ∧ (s.train 0).isIn .loaded = true ∧
      (1 : Int) < ((200000 - (s.train 0).p.pMax) * s.disp.active.stopPm).tdiv 1000) ∧
    (∀ s ∈ [site .expander .idleRun .opened], (∀ i, (s.train i).isIn .unknown = false) ∧ s.manifold.state = .idle ∧
      (0 * s.disp.active.startPm).tdiv 1000 < 50000 ∧
      ((s.loadingOrder Direction.discharge.kind).filter fun i => (s.train i).isIn .idleRun) = 0 :: [] ∧
      (s.train 0).entry + s.disp.active.idleLimit * 1000 ≤ s.disp.active.idleLimit * 1000) := by decide +kernel
theorem test_stop_step : (let s : State := { running with now := 5000000, commit := { running.commit with stop := some (0, 5000000 - 1000 * running.disp.active.stopDelay) } }
    let f : Demand := ⟨0, 1, 1, some .discharge, 200000, 160000⟩
    (((s.stopStep f).train 0).state, (s.stopStep f).commit.stop, (({ s with now := s.now - 1 }.stopStep f).train 0).state)) =
      (.unloading, none, .loaded) := by decide +kernel

/-! Schedule, clock and timers -/

/-- ScheduleEntries: an entry of 15 bytes, the first interval past the gate and the last before it, both ends of a revision. -/
theorem witness_schedule_entry : (scheduleEntry ([0, 0, 0, 3] ++ [0, 0, 0, 9] ++ [0, 0, 0, 0] ++ [1, 0, 0])).isSome ∧
    (∀ s ∈ [site .expander .standby .closed], s.clock.state ≠ .invalid ∧
      2 * s.plant.interval * 1000 ≤ s.clock.plantMs + s.plant.gateLead * 1000 ∧
      ¬ 3 * s.plant.interval * 1000 ≤ s.clock.plantMs + s.plant.gateLead * 1000 ∧ 3 ≤ 4294967295 / s.plant.interval ∧
      s.interval = 1) := by decide +kernel
/-- ScheduleEntries: a full table, and one that holds a later revision of the entry. -/
theorem witness_schedule_full : (List.replicate 192 (⟨4, 0, 0, 1, false, .dayAhead⟩ : Entry)).length = 192 ∧
    (List.replicate 192 (⟨4, 0, 0, 1, false, .dayAhead⟩ : Entry)).find? (fun e => e.interval == 3) = none ∧
    ([(⟨3, 0, 0, 2, false, .dayAhead⟩ : Entry)].find? fun e => e.interval == 3) = some ⟨3, 0, 0, 2, false, .dayAhead⟩ := by decide +kernel
/-- TimeMarks: the milliseconds 999 and 1000; marks before, in and beyond the interval; the clock in each state. -/
theorem witness_marks_of_time : (word16 0x03 0xE7).toNat = 999 ∧ (word16 0x03 0xE8).toNat = 1000 ∧
    (∀ s ∈ [site .expander .standby .closed], s.clock.state = .valid ∧ 899999 < s.interval * s.plant.interval * 1000 ∧
      900000 / 1000 / s.plant.interval = s.interval ∧ s.interval < 1800000 / 1000 / s.plant.interval ∧ 0 < s.plant.interval) ∧
    State.reset.clock.state = .invalid ∧ 0 < State.reset.plant.interval := by decide +kernel
theorem witness_time_schedule (k : TrainKind) (st : TrainState) (v : ValveState) : (site k st v).scheduleOrdered :=
  ⟨(by decide : 0 ≤ 192), List.Pairwise.nil, nofun⟩

/-- A site just before a boundary, an end of ramp, or the last millisecond of plant time, with no timer due before. -/
def lateSite (ms : Nat) (ending : Option (Entry × Nat)) : State :=
  let s := site .expander .standby .closed
  { s with
    clock := ⟨.valid, ms, none⟩
    sched := { s.sched with ending := ending }
    grid := { s.grid with timer := none }
    mgr := { s.mgr with periodTimer := none } }

/-- PlantTimeEvents: the three events, each the next thing to happen. -/
theorem witness_plant_time :
    (∀ s ∈ [lateSite 1799900 none], s.boundaryAt = some 100 ∧ s.plantNext 100 [] [s.rampEndAt] = true ∧ s.held = false) ∧
    (∀ s ∈ [lateSite 900000 (some (⟨0, 0, 0, 0, false, .fallback⟩, 900100))], s.rampEndAt = some 100 ∧
      s.plantNext 100 [s.boundaryAt] [] = true) ∧
    (∀ s ∈ [lateSite 4294967295900 none], s.limitAt = some 99 ∧ s.plantNext 99 [s.boundaryAt, s.rampEndAt] [] = true) := by
  decide +kernel

/-- IdleStepPassesTime: a boundary on the next millisecond, an end of ramp on it, and an expiry that has fallen due. -/
theorem witness_idle_events :
    (∀ s ∈ [lateSite 1799999 none], s.pending = [] ∧ s.held = false ∧ s.firstDue = none ∧ s.boundaryAt = some (s.now + 1)) ∧
    (∀ s ∈ [lateSite 900000 (some (⟨0, 0, 0, 0, false, .fallback⟩, 900001))], s.firstDue = none ∧ s.boundaryAt ≠ some (s.now + 1) ∧
      s.rampEndAt = some (s.now + 1)) ∧
    (∀ s ∈ [{ lateSite 900000 none with manifold := ⟨.changeover, some .charge, some 0⟩ }], s.firstDue = some .deadband) := by
  decide +kernel

/-- A site with the fallback and period timers stopped. -/
def quietSite (st : TrainState) (v : ValveState) : State := { lateSite 900000 none with
  trains := (site .expander st v).trains
  caverns := (site .expander st v).caverns }

/-- BlockTimersExpire: each timer of the first five kinds, the next thing to happen. -/
theorem witness_block_timers :
    (∀ s ∈ [let s := quietSite .standby .closed; s.setChan 0 { s.chan 0 with timer := some 7 }],
      (s.chan 0).timer = some 7 ∧ s.timerNext 7 = true ∧ s.held = false ∧ (s.chan 0).quality = .good) ∧
    (∀ s ∈ [({ quietSite .standby .closed with grid := ⟨false, some 7, none, false, false⟩ } : State)],
      s.grid.timer = some 7 ∧ s.timerNext 7 = true) ∧
    (∀ s ∈ [let s := quietSite .standby .opening; s.setCavern 0 { s.cavern 0 with timer := some 7 }],
      (s.cavern 0).timer = some 7 ∧ s.timerNext 7 = true ∧ (s.cavern 0).valve = .opening) ∧
    (∀ s ∈ [({ quietSite .standby .closed with manifold := ⟨.changeover, some .charge, some 7⟩ } : State)],
      s.manifold.timer = some 7 ∧ s.timerNext 7 = true) ∧
    (∀ s ∈ [let s := quietSite .stopping .closed; s.setTrain 0 { s.train 0 with timer := some 7 }],
      (s.train 0).timer = some 7 ∧ s.timerNext 7 = true ∧ s.ring.orders.length < 16) := by decide +kernel
/-- BlockTimersExpire: a STARTING train with its converter, and an UNLOADING one alone in a direction and beside another. -/
theorem witness_sequence_timers :
    (∀ s ∈ [let s := quietSite .starting .closed
            { s.setTrain 0 { s.train 0 with timer := some 7 } with conv := ⟨.busy 0, [], none, none, 1, 0⟩ }],
      (s.train 0).timer = some 7 ∧ s.timerNext 7 = true ∧ (s.train 0).state = .starting ∧ s.conv.state = .busy 0 ∧ s.plant.cooldown ≠ 0) ∧
    (∀ s ∈ [let s := quietSite .unloading .closed
            { s.setTrain 0 { s.train 0 with timer := some 7 } with manifold := ⟨.discharge, none, none⟩ }],
      (s.train 0).timer = some 7 ∧ s.timerNext 7 = true ∧ (s.train 0).state = .unloading ∧ s.manifold.state = Direction.discharge.state ∧
      (∀ j, j ≠ 0 → (s.train j).flowing = false) ∧
      ((s.setTrain 1 { s.train 0 with p := trainP .expander 21 2, timer := none }).train 1).flowing = true ∧
      (s.setTrain 1 { s.train 0 with p := trainP .expander 21 2, timer := none }).timerNext 7 = true) := by decide +kernel
/-- BlockTimersExpire: a STARTING train at a cooldown of 0, and an UNLOADING one against the flow and in both kinds of changeover. -/
theorem witness_sequence_timers_released :
    (∀ s ∈ [let s := quietSite .starting .closed
            { s.setTrain 0 { s.train 0 with timer := some 7 } with
              conv := ⟨.busy 0, [], none, none, 1, 0⟩, plant := { s.plant with cooldown := 0 } }],
      (s.train 0).timer = some 7 ∧ s.timerNext 7 = true ∧ s.conv.state = .busy 0 ∧ 0 ∉ s.conv.queue ∧ s.plant.cooldown = 0) ∧
    (∀ m ∈ [(⟨.charge, none, none⟩ : Manifold), ⟨.changeover, some .discharge, none⟩, ⟨.changeover, some .charge, some 9⟩],
      ∀ s ∈ [let s := quietSite .unloading .closed
             { s.setTrain 0 { s.train 0 with timer := some 7 } with manifold := m }],
      (s.train 0).timer = some 7 ∧ s.timerNext 7 = true ∧ (s.train 0).state = .unloading ∧ s.manifold = m) := by decide +kernel
/-- BlockTimersExpire: fallback expiries in AUTO with and without an UNKNOWN train, in HOLD, in MANUAL and in OFF. -/
theorem witness_fallback : ∀ m ∈ [(Mode.auto), .hold, .manual, .off], ∀ st ∈ [TrainState.loaded, .unknown],
    ∀ s ∈ [({ quietSite st .closed with grid := ⟨false, some 7, none, false, false⟩, mode := ⟨m, false, false, false⟩ } : State)],
      s.grid.timer = some 7 ∧ s.timerNext 7 = true ∧ s.clock.state ≠ .invalid ∧ ((s.train 0).isIn .unknown = true ↔ st = .unknown) := by
  decide +kernel
/-- BlockTimersExpire: the channel that goes STALE is a cavern's; one that is substituted reaches nothing. -/
theorem witness_stale : ∀ s ∈ [site .expander .standby .opened], (s.cavern 0).p.channel = some (0 : Fin 96).val ∧ (s.chan 0).present = true ∧
    (s.chan 0).p.substFlag = false ∧ (s.chan 0).p.kind = .pressure ∧ s.ring.orders.length ≤ 12 ∧ (s.cavern 1).p.present = false := by
  decide +kernel
/-- PartTimersExpire: each timer of the other kinds, the next thing to happen. -/
theorem witness_part_timers :
    (∀ s ∈ [({ quietSite .startWait .closed with conv := ⟨.cooldown, [0], some 7, none, 0, 0⟩ } : State)],
      s.conv.cooldown = some 7 ∧ s.timerNext 7 = true ∧ (s.train 0).state = .startWait) ∧
    (∀ s ∈ [({ quietSite .startWait .closed with conv := ⟨.free, [0], none, some 7, 0, 0⟩ } : State)],
      s.conv.retry = some 7 ∧ s.timerNext 7 = true) ∧
    (∀ s ∈ [({ quietSite .standby .closed with clock := ⟨.valid, 900000, some 7⟩ } : State)],
      s.clock.mark = some 7 ∧ s.timerNext 7 = true) ∧
    (∀ s ∈ [let s := quietSite .standby .closed
            { s with ring := { s.ring with returns := [⟨0, 9, 0⟩], watch := some 7 } }],
      s.ring.watch = some 7 ∧ s.timerNext 7 = true) ∧
    (∀ s ∈ [let s := quietSite .standby .closed
            { s with mgr := { s.mgr with periodTimer := some 7, quiet := some 7 } }],
      s.mgr.periodTimer = some 7 ∧ s.mgr.quiet = some 7 ∧ s.timerNext 7 = true) := by decide +kernel
/-- R172: a pass at the instant edit-quiet ends is judged, in either order of the two expiries; one a millisecond before is not. -/
theorem test_pass_at_the_end_of_quiet : (∀ l ∈ [[Instr.periodTimerExpiry], [.editQuietExpiry, .periodTimerExpiry]],
      (l.foldl (fun o c => o.bind fun s => after (exec c s)) (some (let s := quietSite .standby .closed
        { s with mgr := { s.mgr with periodTimer := some 7, quiet := some 7 } }))).map (fun t => t.mgr.check) = some .mismatch) ∧
    (after (exec .periodTimerExpiry (let s := quietSite .standby .closed
      { s with mgr := { s.mgr with periodTimer := some 7, quiet := some 8 } }))).map (fun t => t.mgr.check) = some .unchecked := by
  decide +kernel

end Sys2Proof.Tests
end

section
/-!
PROOFS. SCHEDULE entries (R104 to R108): the checks of one entry, the table it leaves, and the frame that carries it.
-/

namespace Sys2Proof.Machine

/-! ## The parts of the range and gate checks -/

theorem isSome_tagOf_iff (n : Nat) : (tagOf n).isSome = true ↔ n ≤ 2 := by
  match n with
  | 0 | 1 | 2 => simp [tagOf]
  | n + 3 => simp [tagOf]

theorem State.entryInRange_iff (s : State) (e : RawEntry) : s.entryInRange e = true ↔
    e.interval ≤ 4294967295 / s.plant.interval ∧ 1 ≤ e.revision ∧
      (e.withdraw = true ∨ (-2000000 ≤ e.net ∧ e.net ≤ 2000000 ∧ e.reserve ≤ 500000 ∧ e.tag ≤ 2)) := by
  simp only [State.entryInRange, Bool.and_eq_true, Bool.or_eq_true, decide_eq_true_eq, isSome_tagOf_iff, and_assoc]
  rfl

theorem State.gateClosed_iff (s : State) (j : Nat) : s.gateClosed j = true ↔
    j * s.plant.interval * 1000 ≤ s.clock.plantMs + s.plant.gateLead * 1000 := by
  simp [State.gateClosed]

/-! ## The first failing check (R105) -/

section
variable {s : State} {e : RawEntry}

theorem State.entryRefusal_of_invalid (hc : s.clock.state = .invalid) : s.entryRefusal e = some .noTime := by
  simp [State.entryRefusal, hc]

theorem State.entryRefusal_of_outOfRange (hc : s.clock.state ≠ .invalid) (hr : s.entryInRange e = false) :
    s.entryRefusal e = some .range := by
  simp [State.entryRefusal, hc, hr]

theorem State.entryRefusal_of_gateClosed (hc : s.clock.state ≠ .invalid) (hr : s.entryInRange e = true)
    (hg : s.gateClosed e.interval = true) : s.entryRefusal e = some .tooLate := by
  simp [State.entryRefusal, hc, hr, hg]

/-- An entry that reaches the table is judged against the stored one, or against the table's room. -/
theorem State.entryRefusal_of_gateOpen (hc : s.clock.state ≠ .invalid) (hr : s.entryInRange e = true)
    (hg : s.gateClosed e.interval = false) : s.entryRefusal e =
      (s.sched.stored e.interval).elim
        (if e.withdraw = false ∧ 192 ≤ s.sched.table.length then some .full else none)
        (fun x => if e.revision ≤ x.revision then some .staleRevision else none) := by
  simp only [State.entryRefusal, hc, hr, hg, if_false, Bool.false_eq_true, Bool.true_eq_false]
  cases s.sched.stored e.interval <;> rfl

end

/-! ## The table a taken entry leaves (R104, R107, R108) -/

/-- In an ascending table insertion takes the place of the entry for its interval and leaves every other. -/
theorem mem_insertEntry {n e : Entry} {l : List Entry} (h : l.Pairwise fun a b => a.interval < b.interval) :
    e ∈ insertEntry n l ↔ (e ∈ l ∧ e.interval ≠ n.interval) ∨ e = n := by
  induction l with
  | nil => simp [insertEntry]
  | cons x rest ih =>
    obtain ⟨hx, hrest⟩ := List.pairwise_cons.mp h
    have later (hn : n.interval ≤ x.interval) : e ∈ rest → e.interval ≠ n.interval := fun m => by
      have := hx e m; omega
    rcases lt_trichotomy n.interval x.interval with hlt | heq | hgt
    · have keep : e = x → e.interval ≠ n.interval := by rintro rfl; omega
      simp only [insertEntry, if_pos hlt, List.mem_cons]
      have := later hlt.le
      tauto
    · have drop : e = x → e.interval = n.interval := by rintro rfl; exact heq.symm
      simp only [insertEntry, if_neg heq.not_lt, if_pos heq, List.mem_cons]
      have := later heq.le
      tauto
    · have keep : e = x → e.interval ≠ n.interval := by rintro rfl; omega
      simp only [insertEntry, if_neg hgt.not_gt, if_neg hgt.ne', List.mem_cons, ih hrest]
      tauto

theorem insertEntry_ascending {n : Entry} {l : List Entry} (h : l.Pairwise fun a b => a.interval < b.interval) :
    (insertEntry n l).Pairwise fun a b => a.interval < b.interval := by
  induction l with
  | nil => simp [insertEntry]
  | cons x rest ih =>
    obtain ⟨hx, hrest⟩ := List.pairwise_cons.mp h
    rcases lt_trichotomy n.interval x.interval with hlt | heq | hgt
    · rw [insertEntry, if_pos hlt]
      exact List.pairwise_cons.mpr ⟨List.forall_mem_cons.mpr ⟨hlt, fun y m => hlt.trans (hx y m)⟩, h⟩
    · rw [insertEntry, if_neg heq.not_lt, if_pos heq]
      exact List.pairwise_cons.mpr ⟨fun y m => heq ▸ hx y m, hrest⟩
    · rw [insertEntry, if_neg hgt.not_gt, if_neg hgt.ne']
      refine List.pairwise_cons.mpr ⟨fun y m => ?_, ih hrest⟩
      rcases (mem_insertEntry hrest).mp m with ⟨m, -⟩ | rfl
      · exact hx y m
      · exact hgt

theorem SourceTag.item_eq_code_iff {t : SourceTag} {n : Nat} (h : n ≤ 2) :
    t.item = .code n ↔ t = (tagOf n).getD .dayAhead := by
  interval_cases n <;> cases t <;> decide

/-- The stored form of an entry whose tag is one of section 6.3, field by field. -/
theorem RawEntry.eq_stored_iff {r : RawEntry} (h : r.tag ≤ 2) (e : Entry) : e = r.stored ↔
    e.interval = r.interval ∧ e.net = r.net ∧ e.reserve = r.reserve ∧ e.revision = r.revision ∧ e.ramp = r.ramp ∧
      e.tag.item = .code r.tag := by
  rw [SourceTag.item_eq_code_iff h]
  cases e
  simp [RawEntry.stored]

/-- The table that holds the schedule once an entry is taken. -/
def Schedule.tableWith (x : Schedule) (r : RawEntry) : List Entry :=
  if r.withdraw then x.table.filter (·.interval != r.interval) else insertEntry r.stored x.table

theorem Schedule.tableWith_ascending {x : Schedule} (r : RawEntry)
    (h : x.table.Pairwise fun a b => a.interval < b.interval) :
    (x.tableWith r).Pairwise fun a b => a.interval < b.interval := by
  unfold Schedule.tableWith
  split
  · exact h.filter _
  · exact insertEntry_ascending h

theorem Schedule.mem_tableWith_withdrawal (x : Schedule) {r : RawEntry} (h : r.withdraw = true) (e : Entry) :
    e ∈ x.tableWith r ↔ e ∈ x.table ∧ e.interval ≠ r.interval := by
  simp [Schedule.tableWith, h]

theorem Schedule.mem_tableWith_entry {x : Schedule} {r : RawEntry} (ha : x.table.Pairwise fun a b => a.interval < b.interval)
    (h : r.withdraw = false) (e : Entry) :
    e ∈ x.tableWith r ↔ (e ∈ x.table ∧ e.interval ≠ r.interval) ∨ e = r.stored := by
  rw [Schedule.tableWith, if_neg (by simp [h]), mem_insertEntry ha]
  rfl

/-! ## One entry taken or refused -/

theorem State.takeEntry_refused {s : State} {r : RawEntry} {c : Code} (h : s.entryRefusal r = some c) :
    s.takeEntry r = (c, s) := by
  simp [State.takeEntry, h]

theorem State.takeEntry_taken {s : State} {r : RawEntry} (h : s.entryRefusal r = none) :
    s.takeEntry r = (.done, { s with sched := { s.sched with table := s.sched.tableWith r } }) := by
  simp [State.takeEntry, h, Schedule.tableWith]

/-! ## The frame of one entry -/

/-- The bytes beyond the last entry are no part of the body (R182). -/
theorem scheduleBody_one {bytes : List Byte} (rest : List Byte) {r : RawEntry} (hb : bytes.length = 15)
    (hr : scheduleEntry bytes = some r) : scheduleBody (1 :: (bytes ++ rest)) = some [r] := by
  have first : (bytes ++ rest).take 15 = bytes := List.take_left' hb
  have room : 15 ≤ bytes.length + rest.length := by omega
  simp [scheduleBody, pieces, first, room, hr]

theorem exec_schedule {s : State} {snd : Sender} {body : List Byte} (h : s.mayCommand snd.src) (hb : body.length ≤ 244) :
    exec (.schedule snd body) s = .next (s.heard.scheduleTaken (sentTo s.node snd kSchedule body)) :=
  congrArg Host.Outcome.next (s.receiveSome_management 256 h hb (.inl rfl) rfl)

/-- A frame of one entry is answered with the entry's code, in the state the entry leaves. -/
theorem exec_schedule_one {s : State} {snd : Sender} {bytes rest : List Byte} {r : RawEntry} (h : s.mayCommand snd.src)
    (hb : bytes.length = 15) (hl : rest.length ≤ 228) (hr : scheduleEntry bytes = some r) :
    exec (.schedule snd (1 :: (bytes ++ rest))) s = .next ((s.heard.takeEntry r).2.answer
      (sentTo s.node snd kSchedule (1 :: (bytes ++ rest))) [(s.heard.takeEntry r).1] []) := by
  rw [exec_schedule h (by simp [hb]; omega), State.scheduleTaken]
  simp only [sentTo, scheduleBody_one rest hb hr, State.takeEntries]

@[simp] theorem State.heard_entryRefusal (s : State) (r : RawEntry) : s.heard.entryRefusal r = s.entryRefusal r := rfl

/-- Settles O53: the checks of R105 in their order, and the table a taken entry leaves. -/
theorem scheduleEntries : Obligations.ScheduleEntries := by
  intro s snd bytes rest r hcmd hlen hrest hentry body f refused inRange late held stale full
  have hexec := exec_schedule_one hcmd hlen hrest hentry
  have hrange : s.entryInRange r = true ↔ inRange := s.entryInRange_iff r
  have hlate : s.gateClosed r.interval = true ↔ late := s.gateClosed_iff r.interval
  have refuse {c : Code} (h : s.entryRefusal r = some c) : refused c := by
    rw [State.takeEntry_refused ((s.heard_entryRefusal r).trans h)] at hexec
    exact hexec
  have judged (hc : s.clock.state ≠ .invalid) (hr : inRange) (hl : ¬ late) : s.entryRefusal r = held.elim
      (if r.withdraw = false ∧ 192 ≤ s.sched.table.length then some .full else none)
      (fun x => if r.revision ≤ x.revision then some .staleRevision else none) :=
    State.entryRefusal_of_gateOpen hc (hrange.mpr hr) (Bool.eq_false_iff.mpr fun g => hl (hlate.mp g))
  refine ⟨fun hc => ?noTime, fun hc hr => ?range, fun hc hr hl => ?tooLate, fun hc hr hl hs => ?staleRevision,
    fun hc hr hl hf => ?full, fun hc hr hl hs hf hord => ?taken⟩
  case noTime => exact refuse (State.entryRefusal_of_invalid hc)
  case range => exact refuse (State.entryRefusal_of_outOfRange hc (Bool.eq_false_iff.mpr fun g => hr (hrange.mp g)))
  case tooLate => exact refuse (State.entryRefusal_of_gateClosed hc (hrange.mpr hr) (hlate.mpr hl))
  case staleRevision =>
    obtain ⟨e, he, hrev⟩ := hs
    exact refuse (by simp [judged hc hr hl, he, hrev])
  case full =>
    obtain ⟨hnone, hfull⟩ := hf
    exact refuse (by simp [judged hc hr hl, hnone, hfull])
  case taken =>
    have hnone : s.entryRefusal r = none := by
      rw [judged hc hr hl]
      cases he : held with
      | none => exact if_neg fun h => hf ⟨he, h⟩
      | some e => exact if_neg fun h => hs ⟨e, he, h⟩
    rw [State.takeEntry_taken ((s.heard_entryRefusal r).trans hnone)] at hexec
    refine ⟨s.sched.tableWith r, hexec, Schedule.tableWith_ascending r hord.ascending,
      fun hw => s.sched.mem_tableWith_withdrawal hw, fun hw e => ?_⟩
    obtain ⟨-, -, hwithdraw | ⟨-, -, -, htag⟩⟩ := hr
    · simp [hw] at hwithdraw
    · rw [Schedule.mem_tableWith_entry hord.ascending hw, RawEntry.eq_stored_iff htag]

end Sys2Proof.Machine
end

section
/-!
PROOFS. The scheduled power (R119, R120): the interpolation inside a ramp window, and which window an instant lies in.
-/

namespace Sys2Proof.Machine

/-! ## The interpolation of a window -/

section
variable {before after : Int} {u v tb h : Nat}

/-- `n` is the time since the window opened, at `tb - h`. -/
theorem rampPower_eq_of_elapsed {n : Nat} (hn : u + h = tb + n) :
    rampPower before after u tb h = before + ((after - before) * n).tdiv (2 * h) := by
  have elapsed : (u : Int) - (tb - h) = n := by omega
  rw [rampPower, elapsed]

/-- Truncation toward zero treats a falling ramp as the mirror image of a rising one. -/
theorem rampPower_neg : rampPower (-before) (-after) u tb h = -rampPower before after u tb h := by
  have mirrored : -after - -before = -(after - before) := by ring
  rw [rampPower, rampPower, mirrored, Int.neg_mul, Int.neg_tdiv, Int.neg_add]

theorem rampPower_opening (hu : u + h = tb) : rampPower before after u tb h = before := by
  simp [rampPower_eq_of_elapsed (n := 0) hu]

theorem le_rampPower_of_rising (hr : before ≤ after) (hu : tb ≤ u + h) : before ≤ rampPower before after u tb h := by
  rw [rampPower_eq_of_elapsed (n := u + h - tb) (by omega)]
  have climbed : 0 ≤ ((after - before) * (u + h - tb : Nat)).tdiv (2 * h) :=
    Int.tdiv_nonneg (Int.mul_nonneg (by omega) (by omega)) (by omega)
  omega

theorem rampPower_mono_of_rising (hh : 0 < h) (hr : before ≤ after) (hu : tb ≤ u + h) (huv : u ≤ v) :
    rampPower before after u tb h ≤ rampPower before after v tb h := by
  rw [rampPower_eq_of_elapsed (n := u + h - tb) (by omega), rampPower_eq_of_elapsed (n := v + h - tb) (by omega)]
  have rise : 0 ≤ after - before := by omega
  have later : (after - before) * (u + h - tb : Nat) ≤ (after - before) * (v + h - tb : Nat) :=
    Int.mul_le_mul_of_nonneg_left (by omega) rise
  exact Int.add_le_add_left (Int.tdiv_le_tdiv (by omega) later) before

/-- The formula, carried on to the first instant outside the window, gives `after` there. -/
theorem rampPower_le_of_rising (hh : 0 < h) (hr : before ≤ after) (hu : tb ≤ u + h) (hv : u ≤ tb + h) :
    rampPower before after u tb h ≤ after :=
  calc rampPower before after u tb h
      ≤ rampPower before after (tb + h) tb h := rampPower_mono_of_rising hh hr hu hv
    _ = after := by
      rw [rampPower_eq_of_elapsed (n := 2 * h) (by omega), Nat.cast_mul, Nat.cast_ofNat, Int.mul_tdiv_cancel _ (by omega)]
      omega

theorem windowPower_of_ramp {ending starting : Entry} {flat : Int} (hf : starting.ramp = true) :
    windowPower ending starting flat u tb h = rampPower ending.net starting.net u tb h := if_pos hf

end

/-! ## The window of an instant -/

section
variable {s : State} {j x : Nat}

/-- R119 at the instant `x` ms into interval `j`. -/
theorem State.schedAt_into (hx : x < s.plant.interval * 1000) : s.schedAt (j * (s.plant.interval * 1000) + x) =
    if x < s.plant.rampHalf * 1000 then
      windowPower (s.entryEndingAt j) (s.entryInForce j) (s.entryInForce j).net (j * (s.plant.interval * 1000) + x)
        (j * (s.plant.interval * 1000)) (s.plant.rampHalf * 1000)
    else if s.plant.interval * 1000 ≤ x + s.plant.rampHalf * 1000 then
      windowPower (s.entryInForce j) (s.entryInForce (j + 1)) (s.entryInForce j).net (j * (s.plant.interval * 1000) + x)
        ((j + 1) * (s.plant.interval * 1000)) (s.plant.rampHalf * 1000)
    else (s.entryInForce j).net := by
  have nextStart : (j + 1) * (s.plant.interval * 1000) = j * (s.plant.interval * 1000) + s.plant.interval * 1000 := by ring
  have number : (j * (s.plant.interval * 1000) + x) / (s.plant.interval * 1000) = j :=
    Nat.div_eq_of_lt_le (by omega) (by omega)
  have late : (j + 1) * (s.plant.interval * 1000) ≤ j * (s.plant.interval * 1000) + x + s.plant.rampHalf * 1000 ↔
      s.plant.interval * 1000 ≤ x + s.plant.rampHalf * 1000 := by omega
  simp only [State.schedAt, number, Nat.add_sub_cancel_left, late]

/-- The window about the start of interval `j`, after the start. -/
theorem State.schedAt_early (hfit : s.plant.rampHalf * 2 ≤ s.plant.interval) (hx : x < s.plant.rampHalf * 1000)
    (hf : (s.entryInForce j).ramp = true) : s.schedAt (j * (s.plant.interval * 1000) + x) =
      rampPower (s.entryEndingAt j).net (s.entryInForce j).net (j * (s.plant.interval * 1000) + x)
        (j * (s.plant.interval * 1000)) (s.plant.rampHalf * 1000) := by
  have inside : x < s.plant.interval * 1000 := hx.trans_le (Nat.mul_le_mul_right 1000 (by omega))
  rw [State.schedAt_into inside, if_pos hx, windowPower_of_ramp hf]

/-- The window about the end of interval `j`, before the end. -/
theorem State.schedAt_late (hfit : s.plant.rampHalf * 2 ≤ s.plant.interval) (hx : 0 < x) (hh : x ≤ s.plant.rampHalf * 1000)
    (hf : (s.entryInForce (j + 1)).ramp = true) : s.schedAt ((j + 1) * (s.plant.interval * 1000) - x) =
      rampPower (s.entryInForce j).net (s.entryInForce (j + 1)).net ((j + 1) * (s.plant.interval * 1000) - x)
        ((j + 1) * (s.plant.interval * 1000)) (s.plant.rampHalf * 1000) := by
  have into : (j + 1) * (s.plant.interval * 1000) - x =
      j * (s.plant.interval * 1000) + (s.plant.interval * 1000 - x) := by
    rw [Nat.add_one_mul]
    omega
  have inside : s.plant.interval * 1000 - x < s.plant.interval * 1000 := by omega
  rw [into, State.schedAt_into inside, if_neg (by omega), if_pos (by omega), windowPower_of_ramp hf]

/-- The first instant after a window. Where the next one opens there (at `H = L/2`), it opens at the net in force. -/
theorem State.schedAt_windowEnd (hfit : s.plant.rampHalf * 2 ≤ s.plant.interval)
    (hh : s.plant.rampHalf * 1000 < s.plant.interval * 1000) :
    s.schedAt (j * (s.plant.interval * 1000) + s.plant.rampHalf * 1000) = (s.entryInForce j).net := by
  rw [State.schedAt_into hh, if_neg (Nat.lt_irrefl _)]
  split
  case isTrue abut =>
    have opening : j * (s.plant.interval * 1000) + s.plant.rampHalf * 1000 + s.plant.rampHalf * 1000 =
        (j + 1) * (s.plant.interval * 1000) := by
      rw [Nat.add_one_mul]
      omega
    rw [windowPower, rampPower_opening opening, ite_self]
  case isFalse => rfl

end

/-- Settles O20: the formula and its bounds for any window, then the two windows an interval can hold. -/
theorem rampInterpolates : Obligations.RampInterpolates := by
  refine ⟨fun before after u v tb h hpos hopen hu huv hv => ⟨?opening, fun hrise => ?rising, fun hfall => ?falling⟩,
    fun s j x hfit => ⟨fun hx hf => ?early, fun hx hh hf => ?late, State.schedAt_windowEnd hfit, rfl⟩⟩
  case opening => exact rampPower_opening (by omega)
  case rising =>
    exact ⟨le_rampPower_of_rising hrise (by omega), rampPower_mono_of_rising hpos hrise (by omega) huv,
      rampPower_le_of_rising hpos hrise (by omega) (by omega)⟩
  case falling =>
    have hrise : -before ≤ -after := by omega
    have first := le_rampPower_of_rising (u := u) (tb := tb) (h := h) hrise (by omega)
    have mono := rampPower_mono_of_rising (tb := tb) hpos hrise (by omega) huv
    have last := rampPower_le_of_rising (u := v) (tb := tb) hpos hrise (by omega) (by omega)
    simp only [rampPower_neg, Int.neg_le_neg_iff] at first mono last
    exact ⟨last, mono, first⟩
  case early =>
    rw [State.schedAt_early hfit hx hf, rampPower_eq_of_elapsed (n := s.plant.rampHalf * 1000 + x) (by omega),
      State.entryEndingAt]
    cases s.sched.ending <;> rfl
  case late =>
    have inside : x ≤ (j + 1) * (s.plant.interval * 1000) := by
      rw [Nat.add_one_mul]
      omega
    rw [State.schedAt_late hfit hx hh hf, rampPower_eq_of_elapsed (n := s.plant.rampHalf * 1000 - x) (by omega)]

end Sys2Proof.Machine
end
section
/-!
PROOFS. The statements of the family 'other' (chapters 1 to 11). What follows is elaborated one declaration after another: side by
side the proofs of one long text hold more threads, and with them more memory, than the check grants.
-/

set_option Elab.async false

section
/-!
PROOFS. What the words of a table entry give, field by field and table by table (sections 10.1, 11.2), and O19.
-/

namespace Sys2Proof.Machine

/-! ## Fields -/

theorem natIn_eq_some {lo hi n : Nat} {w : Word} : natIn lo hi w = some n ↔ (lo ≤ n ∧ n ≤ hi) ∧ w.toNat = n := by
  unfold natIn
  split
  case isTrue h => rw [Option.some.injEq]; exact ⟨fun e => ⟨e ▸ h, e⟩, And.right⟩
  case isFalse h => simp only [reduceCtorEq, false_iff]; rintro ⟨h', rfl⟩; exact h h'

theorem natIn_word {lo hi n : Nat} {w : Word} (h : natIn lo hi w = some n) : wordOfNat n = w := by
  rw [← (natIn_eq_some.mp h).2, wordOfNat, BitVec.ofNat_toNat, BitVec.setWidth_eq]

theorem figIn_eq_some {lo hi : Nat} {v : Int} {w : Word} :
    figIn lo hi w = some v ↔ ∃ n : Nat, ((lo ≤ n ∧ n ≤ hi) ∧ w.toNat = n) ∧ v = n := by
  simp only [figIn, Option.map_eq_some_iff, natIn_eq_some, Int.ofNat_eq_natCast, eq_comm (a := v)]

theorem figIn_word {lo hi : Nat} {v : Int} {w : Word} (h : figIn lo hi w = some v) : wordOf v = w := by
  obtain ⟨n, ⟨-, hn⟩, rfl⟩ := figIn_eq_some.mp h
  rw [wordOf, ← hn, BitVec.ofInt_natCast, BitVec.ofNat_toNat, BitVec.setWidth_eq]

theorem figIn_bounds {lo hi : Nat} {v : Int} {w : Word} (h : figIn lo hi w = some v) : (lo : Int) ≤ v ∧ v ≤ hi := by
  obtain ⟨n, ⟨hn, -⟩, rfl⟩ := figIn_eq_some.mp h
  omega

theorem wordOf_toInt (w : Word) : wordOf w.toInt = w := BitVec.ofInt_toInt

theorem intIn_word {lo hi v : Int} {w : Word} (h : intIn lo hi w = some v) : wordOf v = w := by
  unfold intIn at h
  split at h
  · rw [← Option.some.inj h, wordOf_toInt]
  · cases h

theorem flagOf_word {w : Word} {b : Bool} (h : flagOf w = some b) : wordOfFlag b = w := by
  unfold flagOf at h
  split at h
  case isTrue e => rw [← Option.some.inj h, e]; rfl
  case isFalse =>
    split at h
    case isTrue e => rw [← Option.some.inj h, e]; rfl
    case isFalse => cases h

theorem channelOrNone_word {w : Word} {n : Option Nat} (h : channelOrNone w = some n) : wordOfChannel n = w := by
  unfold channelOrNone at h
  split at h
  case isTrue e => rw [← Option.some.inj h, e]; rfl
  case isFalse =>
    obtain ⟨k, hk, rfl⟩ := Option.map_eq_some_iff.mp h
    exact natIn_word hk

/-- A word whose number is known. -/
theorem wordOfNat_of_toNat {w : Word} {n : Nat} (h : w.toNat = n) : wordOfNat n = w := by
  rw [← h, wordOfNat, BitVec.ofNat_toNat, BitVec.setWidth_eq]

theorem chanKindOf_word {w : Word} {k : ChanKind} (h : chanKindOf w = some k) : wordOfNat k.num = w := by
  unfold chanKindOf at h
  split at h <;> first | (cases h; exact wordOfNat_of_toNat ‹_›) | cases h

theorem trainKindOf_word {w : Word} {k : TrainKind} (h : trainKindOf w = some k) : wordOfNat k.num = w := by
  unfold trainKindOf at h
  split at h <;> first | (cases h; exact wordOfNat_of_toNat ‹_›) | cases h

theorem fNomOf_word {w : Word} {v : Int} (h : fNomOf w = some v) : wordOf v = w := by
  unfold fNomOf at h
  split at h
  case isTrue e => rw [← Option.some.inj h, e]; rfl
  case isFalse =>
    split at h
    case isTrue e => rw [← Option.some.inj h, e]; rfl
    case isFalse => cases h

theorem intervalOf_eq_some {w : Word} {n : Nat} (h : intervalOf w = some n) : w.toNat = n ∧ n ∈ [300, 900, 1800, 3600] := by
  unfold intervalOf at h
  split at h
  case isTrue e => exact ⟨Option.some.inj h, Option.some.inj h ▸ e⟩
  case isFalse => cases h

/-! ## Tables -/

theorem chanParams_sound {ws : List Word} {p : ChanParams} (h : chanParams ws = some p) :
    p.toWords = ws ∧ p.rangeLow ≤ p.rangeHigh ∧ 1 ≤ p.length := by
  unfold chanParams at h
  split at h
  case h_2 => cases h
  case h_1 =>
    simp only [Option.bind_eq_bind, Option.bind_eq_some_iff, Option.ite_none_left_eq_some, Option.some.injEq, not_lt] at h
    obtain ⟨source, h0, slot, h1, kind, h2, offset, h3, freshness, h9, length, h10, flag, h12, range, rfl⟩ := h
    refine ⟨?_, range, (natIn_eq_some.mp h10).1.1⟩
    simp only [ChanParams.toWords, natIn_word h0, natIn_word h1, chanKindOf_word h2, intIn_word h3, natIn_word h9,
      natIn_word h10, flagOf_word h12, wordOf_toInt]

theorem cavernParams_words {ws : List Word} {p : CavernParams} (h : cavernParams ws = some p) : p.toWords = ws := by
  unfold cavernParams at h
  split at h
  case h_2 => cases h
  case h_1 =>
    simp only [Option.bind_eq_bind, Option.bind_eq_some_iff, Option.ite_none_right_eq_some, Option.some.injEq] at h
    obtain ⟨present, h0, channel, h1, node, h2, pMin, h3, pMax, h4, taper, h5, rateLimit, h6, stiffness, h7, travel, h8, flag,
      h9, -, rfl⟩ := h
    simp only [CavernParams.toWords, flagOf_word h0, channelOrNone_word h1, natIn_word h2, figIn_word h3, figIn_word h4,
      figIn_word h5, figIn_word h6, figIn_word h7, natIn_word h8, flagOf_word h9]

theorem trainParams_sound {ws : List Word} {p : TrainParams} (h : trainParams ws = some p) :
    p.toWords = ws ∧ 0 ≤ p.pMin ∧ p.pMin ≤ p.pMax ∧ 1 ≤ p.ramp := by
  unfold trainParams at h
  split at h
  case h_2 => cases h
  case h_1 =>
    simp only [Option.bind_eq_bind, Option.bind_eq_some_iff, Option.ite_none_right_eq_some, Option.some.injEq] at h
    obtain ⟨kind, h0, node, h1, pMax, h2, pMin, h3, ramp, h4, tStart, h5, tLoad, h6, tUnload, h7, tStop, h8, store, h9,
      position, h10, flag, h11, range, rfl⟩ := h
    refine ⟨?_, by exact_mod_cast (figIn_bounds h3).1, range, by exact_mod_cast (figIn_bounds h4).1⟩
    simp only [TrainParams.toWords, trainKindOf_word h0, natIn_word h1, figIn_word h2, figIn_word h3, figIn_word h4,
      natIn_word h5, natIn_word h6, natIn_word h7, natIn_word h8, natIn_word h9, natIn_word h10, flagOf_word h11]

theorem dispatchParams_words {ws : List Word} {p : DispatchSet} (h : dispatchParams ws = some p) : p.toWords = ws := by
  unfold dispatchParams at h
  split at h
  case h_2 => cases h
  case h_1 =>
    simp only [Option.bind_eq_bind, Option.bind_eq_some_iff, Option.ite_none_right_eq_some, Option.some.injEq] at h
    obtain ⟨deadband, h0, fFull, h1, quantum, h2, startPm, h3, stopPm, h4, stopDelay, h5, idleLimit, h6, startLead, h7,
      threshold, h8, -, rfl⟩ := h
    simp only [DispatchSet.toWords, figIn_word h0, figIn_word h1, figIn_word h2, figIn_word h3, figIn_word h4, natIn_word h5,
      natIn_word h6, natIn_word h7, figIn_word h8]

/-- The five class enables, written as a word again. -/
theorem enableBits_testBit {n : Nat} (h : n ≤ 31) :
    (if n.testBit 0 then 1 else 0) + (if n.testBit 1 then 2 else 0) + (if n.testBit 2 then 4 else 0)
      + (if n.testBit 3 then 8 else 0) + (if n.testBit 4 then 16 else 0) = n := by
  revert n; decide

theorem plantParams_sound {ws : List Word} {p : PlantTable} (h : plantParams ws = some p) :
    p.toWords = ws ∧ p.interval ∈ [300, 900, 1800, 3600] := by
  unfold plantParams at h
  split at h
  case h_2 => cases h
  case h_1 =>
    obtain ⟨master, h0, h⟩ := Option.bind_eq_some_iff.mp h
    obtain ⟨gridNode, h1, h⟩ := Option.bind_eq_some_iff.mp h
    obtain ⟨gridChannel, h2, h⟩ := Option.bind_eq_some_iff.mp h
    obtain ⟨fNom, h3, h⟩ := Option.bind_eq_some_iff.mp h
    obtain ⟨interval, h4, h⟩ := Option.bind_eq_some_iff.mp h
    obtain ⟨rampHalf, h5, h⟩ := Option.bind_eq_some_iff.mp h
    obtain ⟨gateLead, h6, h⟩ := Option.bind_eq_some_iff.mp h
    obtain ⟨markTimeout, h7, h⟩ := Option.bind_eq_some_iff.mp h
    obtain ⟨net, h8, h⟩ := Option.bind_eq_some_iff.mp h
    obtain ⟨res, h9, h⟩ := Option.bind_eq_some_iff.mp h
    obtain ⟨deadband, h10, h⟩ := Option.bind_eq_some_iff.mp h
    obtain ⟨rateSpacing, h11, h⟩ := Option.bind_eq_some_iff.mp h
    obtain ⟨genRatio, h12, h⟩ := Option.bind_eq_some_iff.mp h
    obtain ⟨compRatio, h13, h⟩ := Option.bind_eq_some_iff.mp h
    obtain ⟨convNode, h14, h⟩ := Option.bind_eq_some_iff.mp h
    obtain ⟨cooldown, h15, h⟩ := Option.bind_eq_some_iff.mp h
    obtain ⟨spacing, h16, h⟩ := Option.bind_eq_some_iff.mp h
    obtain ⟨period, h17, h⟩ := Option.bind_eq_some_iff.mp h
    obtain ⟨alarm, h18, h⟩ := Option.bind_eq_some_iff.mp h
    obtain ⟨recordPeriod, h19, h⟩ := Option.bind_eq_some_iff.mp h
    obtain ⟨returnTimeout, h20, h⟩ := Option.bind_eq_some_iff.mp h
    obtain ⟨full, h21, h⟩ := Option.bind_eq_some_iff.mp h
    obtain ⟨empty, h22, h⟩ := Option.bind_eq_some_iff.mp h
    obtain ⟨enables, h23, h⟩ := Option.bind_eq_some_iff.mp h
    obtain ⟨-, h⟩ := Option.ite_none_right_eq_some.mp h
    rw [← Option.some.inj h]
    obtain ⟨hw, hi⟩ := intervalOf_eq_some h4
    refine ⟨?_, hi⟩
    simp only [PlantTable.toWords, PlantTable.enableBits, natIn_word h0, natIn_word h1, channelOrNone_word h2, fNomOf_word h3,
      wordOfNat_of_toNat hw, natIn_word h5, natIn_word h6, natIn_word h7, intIn_word h8, figIn_word h9, natIn_word h10,
      natIn_word h11, figIn_word h12, figIn_word h13, natIn_word h14, natIn_word h15, natIn_word h16, natIn_word h17,
      figIn_word h18, natIn_word h19, natIn_word h20, natIn_word h21, natIn_word h22,
      enableBits_testBit (natIn_eq_some.mp h23).1.2, natIn_word h23]

/-! ## Layers of a store -/

/-- The layers read from a list of words, followed by zero words, give the words back (R47). -/
theorem layersOf_words {n : Nat} {ws : List Word} {l : List Layer} (h : layersOf n ws = some l) :
    l.length = n ∧ (l.flatMap fun x => [wordOfNat x.channel, wordOf x.capacity]).length ≤ ws.length ∧
      (l.flatMap fun x => [wordOfNat x.channel, wordOf x.capacity]) ++
        List.replicate (ws.length - (l.flatMap fun x => [wordOfNat x.channel, wordOf x.capacity]).length) 0 = ws := by
  induction n, ws using layersOf.induct generalizing l with
  | case1 n c k rest ih =>
    simp only [layersOf, Option.bind_eq_bind, Option.bind_eq_some_iff, Option.some.injEq] at h
    obtain ⟨channel, hc, capacity, hk, others, ho, rfl⟩ := h
    obtain ⟨hlen, hle, happ⟩ := ih ho
    refine ⟨by simp [hlen], by simpa using hle, ?_⟩
    simp only [List.flatMap_cons, natIn_word hc, figIn_word hk, List.cons_append, List.nil_append, List.length_cons,
      Nat.add_sub_add_right]
    rw [happ]
  | case2 => simp [layersOf] at h
  | case3 rest hz =>
    simp only [layersOf, hz, if_true, Option.some.injEq] at h
    subst h
    have zeros : rest = List.replicate rest.length 0 := List.eq_replicate_iff.mpr ⟨rfl, by simpa using hz⟩
    refine ⟨rfl, Nat.zero_le _, ?_⟩
    simpa using zeros.symm
  | case4 rest hz => rw [layersOf, if_neg hz] at h; cases h

theorem storeParams_words {ws : List Word} {p : StoreParams} (h : storeParams ws = some p) : p.toWords = ws := by
  unfold storeParams at h
  split at h
  case h_2 => cases h
  case h_1 w0 w1 rest =>
    simp only [Option.bind_eq_bind, Option.bind_eq_some_iff] at h
    obtain ⟨present, h0, n, h1, layers, hl, h⟩ := h
    split at h
    case h_2 => cases h
    case h_1 t f c b fl hd =>
      simp only [Option.bind_eq_some_iff, Option.ite_none_right_eq_some, Option.some.injEq] at h
      obtain ⟨tRef, h2, eFloor, h3, eCeiling, h4, band, h5, flag, h6, -, rfl⟩ := h
      have long : rest.length = 21 := by
        have := congrArg List.length hd
        simp only [List.length_drop, List.length_cons, List.length_nil] at this
        omega
      obtain ⟨hn, -, happ⟩ := layersOf_words hl
      rw [List.length_take, long] at happ
      simp only [StoreParams.toWords, layerWords, flagOf_word h0, hn, natIn_word h1, intIn_word h2, figIn_word h3, figIn_word h4,
        figIn_word h5, flagOf_word h6]
      rw [show min 16 21 = 16 from rfl] at happ
      rw [happ, List.append_assoc, ← hd, List.take_append_drop]
      rfl

/-- Settles O19: each table's fields give back the words they were read from. -/
theorem tableWordsRoundTrip : Obligations.TableWordsRoundTrip :=
  ⟨fun _ _ h => (plantParams_sound h).1, fun _ _ => dispatchParams_words, fun _ _ h => (chanParams_sound h).1,
    fun _ _ => cavernParams_words, fun _ _ => storeParams_words, fun _ _ h => (trainParams_sound h).1⟩

end Sys2Proof.Machine
end
section
/-!
PROOFS. Own frames: what the port, the order queue and the report queue may do to the ring and the reports. Every such
operation is of the form `{ s with ring := r, rep := p }` with a condition on `r` and `p` alone (`Own`), so it leaves every
other block and follows any change of one.
-/

namespace Sys2Proof.Machine

/-! ## Conditions on the ring and the reports -/

/-- The frames received and not yet accounted for (R164). -/
def Ring.balance (r : Ring) : Word :=
  r.received - (r.forwarded + r.consumed + r.stripped + r.dropped + r.withheld + BitVec.ofNat 32 r.forward.length)

theorem State.ringConserved_iff (s : State) : s.ringConserved ↔ s.ring.balance = 0 := by
  unfold State.ringConserved Ring.balance
  exact sub_eq_zero.symm

/-- The part of `State.queuesBounded` that speaks of the ring and the reports. -/
structure RingBounded (r : Ring) (p : Reports) : Prop where
  forward : r.forward.length ≤ 24
  orders : r.orders.length ≤ 16
  reports : p.queue.length ≤ 48
  notices : p.noticeCount ≤ 44
  returns : r.returns.length ≤ 64
  run : r.run ≤ 8

theorem State.queuesBounded_iff (s : State) :
    s.queuesBounded ↔ RingBounded s.ring s.rep ∧ ∀ i, (s.train i).stack.length ≤ 2 :=
  ⟨fun h => ⟨⟨h.forward, h.orders, h.reports, h.notices, h.returns, h.run⟩, h.captures⟩,
    fun ⟨h, hc⟩ => ⟨h.forward, h.orders, h.reports, h.notices, h.returns, h.run, hc⟩⟩

/-- `State.portSound` as a condition on the ring and the reports. -/
def PortSound (r : Ring) (p : Reports) : Prop := r.sending = none → r.forward = [] ∧ r.orders = [] ∧ p.queue = []

/-- What own frames leave of the ring and the reports: its continuity and counts, the balance, and the bounds of its queues. -/
structure RingKept (r : Ring) (p : Reports) (r' : Ring) (p' : Reports) : Prop where
  continuity : r'.continuity = r.continuity
  received : r'.received = r.received
  consumed : r'.consumed = r.consumed
  stripped : r'.stripped = r.stripped
  dropped : r'.dropped = r.dropped
  withheld : r'.withheld = r.withheld
  balance : r'.balance = r.balance
  bounded : RingBounded r p → RingBounded r' p'

theorem RingKept.refl (r : Ring) (p : Reports) : RingKept r p r p := ⟨rfl, rfl, rfl, rfl, rfl, rfl, rfl, id⟩

theorem RingKept.trans {r₁ r₂ r₃ : Ring} {p₁ p₂ p₃ : Reports} (h : RingKept r₁ p₁ r₂ p₂) (k : RingKept r₂ p₂ r₃ p₃) :
    RingKept r₁ p₁ r₃ p₃ :=
  ⟨k.continuity.trans h.continuity, k.received.trans h.received, k.consumed.trans h.consumed, k.stripped.trans h.stripped,
    k.dropped.trans h.dropped, k.withheld.trans h.withheld, k.balance.trans h.balance, k.bounded ∘ h.bounded⟩

/-- `t` is `s` but for own frames: the queues of orders and reports, the port, the return list. -/
def Own (s t : State) : Prop :=
  ∃ r p, t = { s with ring := r, rep := p } ∧ RingKept s.ring s.rep r p ∧ (PortSound s.ring s.rep → PortSound r p)

theorem Own.refl (s : State) : Own s s := ⟨s.ring, s.rep, rfl, .refl _ _, id⟩

theorem Own.trans {a b c : State} (h : Own a b) (k : Own b c) : Own a c := by
  obtain ⟨r, p, rfl, hk, hp⟩ := h
  obtain ⟨r', p', rfl, hk', hp'⟩ := k
  exact ⟨r', p', rfl, hk.trans hk', hp' ∘ hp⟩

/-! ## The port -/

theorem Ring.remember_balance (r : Ring) (n t : Nat) (k : Byte) : (r.remember n t k).balance = r.balance := by
  obtain ⟨q, l, w, h⟩ := r.remember_shape n t k
  rw [h]; rfl

theorem Ring.remember_returns_length {r : Ring} (n t : Nat) (k : Byte) (h : r.returns.length ≤ 64) :
    (r.remember n t k).returns.length ≤ 64 := by
  unfold Ring.remember Config.returnCap
  split <;> simp <;> omega

/-- `t` is `s` but for what leaves on the port. -/
def Sends (s t : State) : Prop := ∃ r p, t = { s with ring := r, rep := p } ∧ RingKept s.ring s.rep r p

theorem State.sendForward_sends (s : State) : Sends s s.sendForward := by
  unfold State.sendForward
  split
  case h_1 => exact ⟨_, _, rfl, .refl _ _⟩
  case h_2 f rest hf =>
    refine ⟨_, _, rfl, ⟨rfl, rfl, rfl, rfl, rfl, rfl, ?_, fun hb => ?_⟩⟩
    · simp only [Ring.balance, hf, List.length_cons, BitVec.ofNat_add]
      congr 1; ac_rfl
    · have := hb.forward
      simp only [hf, List.length_cons] at this
      exact ⟨by simp only; omega, hb.orders, hb.reports, hb.notices, hb.returns, Nat.min_le_right _ _⟩

theorem State.sendOrder_sends (s : State) : Sends s s.sendOrder := by
  unfold State.sendOrder
  split
  case h_1 => exact ⟨_, _, rfl, .refl _ _⟩
  case h_2 o rest ho =>
    have hret := Ring.remember_returns_length (r := s.ring) s.now s.plant.returnTimeout kOrder
    obtain ⟨q, l, w, hm⟩ := s.ring.remember_shape s.now s.plant.returnTimeout kOrder
    rw [hm] at hret ⊢
    refine ⟨_, _, rfl, ⟨rfl, rfl, rfl, rfl, rfl, rfl, rfl, fun hb => ?_⟩⟩
    have := hb.orders
    simp only [ho, List.length_cons] at this
    exact ⟨hb.forward, by simp only; omega, hb.reports, hb.notices, hret hb.returns, Nat.zero_le _⟩

theorem Reports.noticeCount_tail_le {p : Reports} {x : Report} {rest : List Report} (h : p.queue = x :: rest) :
    (rest.filter Report.isNoticeOrRecord).length ≤ p.noticeCount := by
  rw [Reports.noticeCount, h]
  exact ((List.sublist_cons_self x rest).filter _).length_le

theorem State.sendReport_sends (s : State) : Sends s s.sendReport := by
  unfold State.sendReport
  split
  case h_1 => exact ⟨_, _, rfl, .refl _ _⟩
  case h_2 x rest hx =>
    have hret := Ring.remember_returns_length (r := s.ring) s.now s.plant.returnTimeout kReport
    obtain ⟨q, l, w, hm⟩ := s.ring.remember_shape s.now s.plant.returnTimeout kReport
    rw [hm] at hret ⊢
    refine ⟨_, _, rfl, ⟨rfl, rfl, rfl, rfl, rfl, rfl, rfl, fun hb => ?_⟩⟩
    have := hb.reports
    simp only [hx, List.length_cons] at this
    exact ⟨hb.forward, hb.orders, by simp only [Reports.left]; omega, (Reports.noticeCount_tail_le hx).trans hb.notices,
      hret hb.returns, Nat.zero_le _⟩

theorem State.chooseNext_sends (s : State) : Sends s s.chooseNext := by
  unfold State.chooseNext
  split
  · exact s.sendForward_sends
  · split
    · exact s.sendOrder_sends
    · exact s.sendReport_sends

theorem State.pump_sends (s : State) : Sends s s.pump := by
  unfold State.pump
  split
  · exact ⟨_, _, rfl, .refl _ _⟩
  · exact s.chooseNext_sends

/-- A change of the queues that the port then serves: sound whatever the port was. -/
theorem Own.of_pump {s : State} {r : Ring} {p : Reports} (h : RingKept s.ring s.rep r p) :
    Own s (State.pump { s with ring := r, rep := p }) := by
  obtain ⟨r', p', hs, hk⟩ := State.pump_sends { s with ring := r, rep := p }
  have sound : PortSound r' p' := by
    have := State.pump_portSound { s with ring := r, rep := p }
    rw [hs] at this
    exact this
  exact ⟨r', p', hs, h.trans hk, fun _ => sound⟩

/-- A change of the counts of the reports alone. -/
theorem Own.of_counts (s : State) {p : Reports} (h : p.queue = s.rep.queue) : Own s { s with rep := p } := by
  refine ⟨s.ring, p, rfl, ⟨rfl, rfl, rfl, rfl, rfl, rfl, rfl, fun hb => ?_⟩, fun hp g => h ▸ hp g⟩
  exact ⟨hb.forward, hb.orders, h ▸ hb.reports, by rw [Reports.noticeCount, h]; exact hb.notices, hb.returns, hb.run⟩

/-! ## Reports and orders -/

/-- A report that has room, among the notices too if it is one, joins the queue. -/
theorem State.joinReports_own {s : State} {x : Report} (hr : s.rep.queue.length < 48)
    (hn : x.isNoticeOrRecord = true → s.rep.noticeCount < 44) : Own s (s.joinReports x) := by
  refine Own.of_pump ⟨rfl, rfl, rfl, rfl, rfl, rfl, rfl, fun hb => ?_⟩
  refine ⟨hb.forward, hb.orders, by simp only [List.length_append, List.length_singleton]; omega, ?_, hb.returns, hb.run⟩
  have keep := hb.notices
  cases hx : x.isNoticeOrRecord <;> simp_all [Reports.noticeCount, List.filter_append]

theorem State.replyRoom_iff (s : State) : s.replyRoom = true ↔ s.rep.queue.length < 48 := decide_eq_true_iff

theorem State.noticeRoom_iff (s : State) :
    s.noticeRoom = true ↔ s.rep.queue.length < 48 ∧ s.rep.noticeCount < 44 := by
  rw [State.noticeRoom, Bool.and_eq_true, State.replyRoom_iff]
  exact and_congr_right fun _ => decide_eq_true_iff

theorem State.offerReply_own (s : State) {x : Report} (hx : x.isNoticeOrRecord = false) : Own s (s.offerReply x) := by
  unfold State.offerReply
  split
  · rename_i h
    exact State.joinReports_own (s.replyRoom_iff.mp h) (by simp [hx])
  · exact .of_counts s rfl

theorem State.offerNotice_own (s : State) (n : Notice) : Own s (s.offerNotice n) := by
  unfold State.offerNotice
  split
  · rename_i h
    obtain ⟨hr, hn⟩ := s.noticeRoom_iff.mp h
    exact (Own.of_counts s (p := { s.rep with lostNotice := 0 }) rfl).trans (State.joinReports_own hr fun _ => hn)
  · exact .of_counts s rfl

theorem State.offerRecord_own (s : State) (l : List Item) : Own s (s.offerRecord l) := by
  unfold State.offerRecord
  split
  · rename_i h
    obtain ⟨hr, hn⟩ := s.noticeRoom_iff.mp h.2
    exact State.joinReports_own hr fun _ => hn
  · exact .of_counts s rfl

theorem State.notifyAs_own (s : State) (c : NoticeClass) (n : NoticeName) (x : SourceRecord) (l : List Item) :
    Own s (s.notifyAs c n x l) := by
  unfold State.notifyAs
  split
  · exact s.offerNotice_own _
  · exact .refl s

theorem State.notify_own (s : State) (n : NoticeName) (x : SourceRecord) (l : List Item) : Own s (s.notify n x l) :=
  s.notifyAs_own n.cls n x l

theorem State.answer_own (s : State) (f : Frame) (cs : List Code) (l : List Item) : Own s (s.answer f cs l) :=
  s.offerReply_own rfl

theorem State.reply_own (s : State) (f : Frame) (k : RecordKind) (l : List Item) : Own s (s.reply f k l) :=
  s.offerReply_own rfl

theorem State.orderRoom_iff (s : State) : s.orderRoom = true ↔ s.ring.orders.length < 16 := decide_eq_true_iff

theorem State.orderRoom_eq_false_iff (s : State) : s.orderRoom = false ↔ 16 ≤ s.ring.orders.length :=
  decide_eq_false_iff_not.trans Nat.not_lt

/-- An order that has room joins the queue. -/
theorem State.place_own {s : State} (h : s.orderRoom = true) (n : Nat) (o : Order) (v : Int) : Own s (s.place n o v) := by
  rw [State.orderRoom_iff] at h
  refine Own.of_pump ⟨rfl, rfl, rfl, rfl, rfl, rfl, rfl, fun hb => ?_⟩
  exact ⟨hb.forward, by simp only [List.length_append, List.length_singleton]; omega, hb.reports, hb.notices, hb.returns, hb.run⟩

theorem State.trainQueueFull_own (s : State) (i : Fin 8) (o : Order) : Own s (s.trainQueueFull i o) := s.notify_own _ _ _

theorem State.cavernQueueFull_own (s : State) (c : Fin 4) (o : Order) : Own s (s.cavernQueueFull c o) := s.notify_own _ _ _

theorem State.placeOrFull_own (s : State) (i : Fin 8) (o : Order) : Own s (s.placeOrFull i o) := by
  unfold State.placeOrFull
  split
  · rename_i h
    exact State.place_own h _ _ _
  · exact s.trainQueueFull_own i o

theorem State.sendingEnded_own (s : State) : Own s s.sendingEnded := by
  unfold State.sendingEnded
  split
  · exact .refl s
  · obtain ⟨r, p, hs, hk⟩ := State.chooseNext_sends { s with ring := { s.ring with sending := none } }
    have sound := State.chooseNext_portSound { s with ring := { s.ring with sending := none } }
    rw [hs] at sound
    have freed : RingKept s.ring s.rep { s.ring with sending := none } s.rep :=
      ⟨rfl, rfl, rfl, rfl, rfl, rfl, rfl, fun hb => ⟨hb.forward, hb.orders, hb.reports, hb.notices, hb.returns, hb.run⟩⟩
    exact ⟨r, p, hs, freed.trans hk, fun _ => sound⟩

end Sys2Proof.Machine
end
section
/-!
PROOFS. What an operation of the part leaves and keeps, said once for each operation. `Keeps A s t`: `t` reads as `s` in every
aspect that is not listed in `A`, and the invariants that speak of the ring, the caverns, the stores, the trains and the
tables hold of `t` if they hold of `s`. Operations compose by `Keeps.comp`.
-/

namespace Sys2Proof.Machine

/-! ## Aspects of the state -/

/-- A part of the state whose being unchanged is worth saying on its own. -/
inductive Aspect where
  | pending | held | node | now | balance | continuity | chans | grid | caverns | cavernParams | manifold | stores | storeParams
  | trains | trainParams | stacks | conv | clock | clockState | table | sched | disp | sets | last | mode | commit | figures
  | plant | check | mgr
deriving DecidableEq

/-- The type of what an aspect reads. -/
@[reducible] def Aspect.Val : Aspect → Type
  | .pending => List Instr
  | .held => Bool
  | .node => Byte
  | .now => Nat
  | .balance => Word
  | .continuity => Continuity
  | .chans => Vector Channel 96
  | .grid => Grid
  | .caverns => Vector Cavern 4
  | .cavernParams => Fin 4 → CavernParams
  | .manifold => Manifold
  | .stores => Vector Store 3
  | .storeParams => Fin 3 → StoreParams
  | .trains => Vector Train 8
  | .trainParams => Fin 8 → TrainParams
  | .stacks => Fin 8 → List Capture
  | .conv => Converter
  | .clock => Clock
  | .clockState => ClockState
  | .table => List Entry
  | .sched => Schedule
  | .disp => Dispatch
  | .sets => DispatchSet × DispatchSet × Bool
  | .last => Option CompRecord
  | .mode => ModeRecord
  | .commit => Commitment
  | .figures => Option Demand
  | .plant => PlantTable
  | .check => CheckState
  | .mgr => Manager

/-- What an aspect reads of a state. -/
@[reducible] def Aspect.read : (a : Aspect) → State → a.Val
  | .pending, s => s.pending
  | .held, s => s.held
  | .node, s => s.node
  | .now, s => s.now
  | .balance, s => s.ring.balance
  | .continuity, s => s.ring.continuity
  | .chans, s => s.chans
  | .grid, s => s.grid
  | .caverns, s => s.caverns
  | .cavernParams, s => fun c => (s.cavern c).p
  | .manifold, s => s.manifold
  | .stores, s => s.stores
  | .storeParams, s => fun m => (s.store m).p
  | .trains, s => s.trains
  | .trainParams, s => fun i => (s.train i).p
  | .stacks, s => fun i => (s.train i).stack
  | .conv, s => s.conv
  | .clock, s => s.clock
  | .clockState, s => s.clock.state
  | .table, s => s.sched.table
  | .sched, s => s.sched
  | .disp, s => s.disp
  | .sets, s => (s.disp.active, s.disp.next, s.disp.swap)
  | .last, s => s.disp.last
  | .mode, s => s.mode
  | .commit, s => s.commit
  | .figures, s => s.commit.figures
  | .plant, s => s.plant
  | .check, s => s.mgr.check
  | .mgr, s => s.mgr

/-- `t` reads as `s` in every aspect outside `A`. -/
def Agree (A : List Aspect) (s t : State) : Prop := ∀ a, a ∉ A → a.read t = a.read s

theorem Agree.refl (A : List Aspect) (s : State) : Agree A s s := fun _ _ => rfl

theorem Agree.trans {A : List Aspect} {a b c : State} (h : Agree A a b) (k : Agree A b c) : Agree A a c :=
  fun x hx => (k x hx).trans (h x hx)

theorem Agree.mono {A B : List Aspect} {s t : State} (h : Agree A s t) (hs : A ⊆ B) : Agree B s t :=
  fun x hx => h x fun m => hx (hs m)

/-! ## Keeping the invariants -/

/-- `t` differs from `s` in the aspects of `A` at most, and inherits from it the invariants of the queues, the caverns, the
stores and the tables. -/
structure Leaves (A : List Aspect) (s t : State) : Prop where
  agree : Agree A s t
  ring : RingBounded s.ring s.rep → RingBounded t.ring t.rep
  port : s.portSound → t.portSound
  captures : (∀ i, (s.train i).stack.length ≤ 2) → ∀ i, (t.train i).stack.length ≤ 2
  marks : s.marksSound → t.marksSound
  factors : s.factorsBounded → t.factorsBounded
  tables : s.tablesInRange → t.tablesInRange

/-- `State.setpointsInRange` as a structure, so that it is not unfolded where it is only passed on. -/
structure Tracked (s : State) : Prop where
  inRange : s.setpointsInRange

/-- `Leaves`, and the invariants that join the trains with the converter, the manifold and the tracks. Those of the setpoints
hold together with those of the factors, the tables and the manifold. -/
structure Keeps (A : List Aspect) (s t : State) : Prop extends Leaves A s t where
  converter : s.converterSound → t.converterSound
  follows : s.manifoldFollows → t.manifoldFollows
  setpoints : s.factorsBounded → s.tablesInRange → s.manifoldFollows → Tracked s → Tracked t

theorem Leaves.refl (A : List Aspect) (s : State) : Leaves A s s := ⟨.refl A s, id, id, id, id, id, id⟩

theorem Leaves.trans {A : List Aspect} {a b c : State} (h : Leaves A a b) (k : Leaves A b c) : Leaves A a c where
  agree := h.agree.trans k.agree
  ring := k.ring ∘ h.ring
  port := k.port ∘ h.port
  captures := k.captures ∘ h.captures
  marks := k.marks ∘ h.marks
  factors := k.factors ∘ h.factors
  tables := k.tables ∘ h.tables

theorem Leaves.mono {A B : List Aspect} {s t : State} (h : Leaves A s t) (hs : A ⊆ B) : Leaves B s t :=
  { h with agree := h.agree.mono hs }

/-- Composition of two operations of different reach. -/
theorem Leaves.comp {A B C : List Aspect} {a b c : State} (h : Leaves A a b) (k : Leaves B b c) (hA : A ⊆ C := by decide)
    (hB : B ⊆ C := by decide) : Leaves C a c := (h.mono hA).trans (k.mono hB)

theorem Keeps.refl (A : List Aspect) (s : State) : Keeps A s s := ⟨.refl A s, id, id, fun _ _ _ => id⟩

theorem Keeps.trans {A : List Aspect} {a b c : State} (h : Keeps A a b) (k : Keeps A b c) : Keeps A a c where
  toLeaves := h.toLeaves.trans k.toLeaves
  converter := k.converter ∘ h.converter
  follows := k.follows ∘ h.follows
  setpoints hf ht hm hs := k.setpoints (h.factors hf) (h.tables ht) (h.follows hm) (h.setpoints hf ht hm hs)

theorem Keeps.mono {A B : List Aspect} {s t : State} (h : Keeps A s t) (hs : A ⊆ B) : Keeps B s t :=
  { h with toLeaves := h.toLeaves.mono hs }

/-- Composition of two operations of different reach. -/
theorem Keeps.comp {A B C : List Aspect} {a b c : State} (h : Keeps A a b) (k : Keeps B b c) (hA : A ⊆ C := by decide)
    (hB : B ⊆ C := by decide) : Keeps C a c := (h.mono hA).trans (k.mono hB)

/-- A list of like operations, one after the other. -/
theorem Keeps.foldl {α : Type} {A : List Aspect} {f : State → α → State} (h : ∀ s x, Keeps A s (f s x)) (l : List α) (s : State) :
    Keeps A s (l.foldl f s) := by
  induction l generalizing s with
  | nil => exact .refl A s
  | cons x l ih => exact (h s x).trans (ih _)

theorem Keeps.ite {A : List Aspect} {p : Prop} [Decidable p] {s t u : State} (ht : p → Keeps A s t) (hu : ¬ p → Keeps A s u) :
    Keeps A s (if p then t else u) := by
  split
  case isTrue h => exact ht h
  case isFalse h => exact hu h

section
variable {A : List Aspect} {s t : State}

theorem Agree.chan (h : Agree A s t) (hA : Aspect.chans ∉ A) (c : Fin 96) : t.chan c = s.chan c :=
  congrArg (Vector.get · c) (h .chans hA)

theorem Agree.cavern (h : Agree A s t) (hA : Aspect.caverns ∉ A) (c : Fin 4) : t.cavern c = s.cavern c :=
  congrArg (Vector.get · c) (h .caverns hA)

theorem Agree.store (h : Agree A s t) (hA : Aspect.stores ∉ A) (m : Fin 3) : t.store m = s.store m :=
  congrArg (Vector.get · m) (h .stores hA)

theorem Agree.train (h : Agree A s t) (hA : Aspect.trains ∉ A) (i : Fin 8) : t.train i = s.train i :=
  congrArg (Vector.get · i) (h .trains hA)

theorem Agree.cavern_p (h : Agree A s t) (hA : Aspect.cavernParams ∉ A) (c : Fin 4) : (t.cavern c).p = (s.cavern c).p :=
  congrFun (h .cavernParams hA) c

theorem Agree.store_p (h : Agree A s t) (hA : Aspect.storeParams ∉ A) (m : Fin 3) : (t.store m).p = (s.store m).p :=
  congrFun (h .storeParams hA) m

theorem Agree.train_p (h : Agree A s t) (hA : Aspect.trainParams ∉ A) (i : Fin 8) : (t.train i).p = (s.train i).p :=
  congrFun (h .trainParams hA) i

theorem Agree.stack (h : Agree A s t) (hA : Aspect.stacks ∉ A) (i : Fin 8) : (t.train i).stack = (s.train i).stack :=
  congrFun (h .stacks hA) i

/-- The tables of two states that agree in every table in force. -/
theorem Agree.tables (h : Agree A s t) (hA : Aspect.plant ∉ A ∧ Aspect.sets ∉ A ∧ Aspect.chans ∉ A ∧ Aspect.cavernParams ∉ A ∧
    Aspect.storeParams ∉ A ∧ Aspect.trainParams ∉ A) (hs : s.tablesInRange) : t.tablesInRange := by
  obtain ⟨hp, hd, hc, hv, hm, hi⟩ := hA
  have plant : t.plant = s.plant := h .plant hp
  obtain ⟨active, next, -⟩ : t.disp.active = s.disp.active ∧ t.disp.next = s.disp.next ∧ t.disp.swap = s.disp.swap := by
    simpa using h .sets hd
  refine ⟨plant ▸ hs.plant, active ▸ hs.active, next ▸ hs.next, fun c => ?_, fun c => ?_, fun m => ?_, fun i => ?_⟩
  · rw [h.chan hc]; exact hs.chans c
  · rw [h.cavern_p hv]; exact hs.caverns c
  · rw [h.store_p hm]; exact hs.stores m
  · rw [Train.present, h.train_p hi]; exact hs.trains i

/-- Only the invariants that an operation's aspects touch have to be shown. -/
theorem Leaves.intro (agree : Agree A s t)
    (ring : RingBounded s.ring s.rep → RingBounded t.ring t.rep := by exact id)
    (port : s.portSound → t.portSound := by exact id)
    (captures : Aspect.stacks ∉ A ∨ ((∀ i, (s.train i).stack.length ≤ 2) → ∀ i, (t.train i).stack.length ≤ 2) :=
      by exact .inl (by decide))
    (marks : Aspect.caverns ∉ A ∨ (s.marksSound → t.marksSound) := by exact .inl (by decide))
    (factors : (Aspect.caverns ∉ A ∧ Aspect.stores ∉ A) ∨ (s.factorsBounded → t.factorsBounded) := by exact .inl (by decide))
    (tables : (Aspect.plant ∉ A ∧ Aspect.sets ∉ A ∧ Aspect.chans ∉ A ∧ Aspect.cavernParams ∉ A ∧ Aspect.storeParams ∉ A ∧
      Aspect.trainParams ∉ A) ∨ (s.tablesInRange → t.tablesInRange) := by exact .inl (by decide)) :
    Leaves A s t where
  agree := agree
  ring := ring
  port := port
  captures := captures.elim (fun h k i => agree.stack h i ▸ k i) id
  marks := marks.elim (fun h k c => agree.cavern h c ▸ k c) id
  factors := factors.elim (fun ⟨hc, hm⟩ k => ⟨fun c => agree.cavern hc c ▸ k.caverns c, fun m => agree.store hm m ▸ k.stores m⟩) id
  tables := tables.elim agree.tables id

/-- The invariants of the trains with the converter, the manifold and the tracks are kept where these are not touched. -/
theorem Leaves.keeps (h : Leaves A s t)
    (converter : (Aspect.trains ∉ A ∧ Aspect.conv ∉ A) ∨ (s.converterSound → t.converterSound) := by exact .inl (by decide))
    (follows : (Aspect.trains ∉ A ∧ Aspect.manifold ∉ A) ∨ (s.manifoldFollows → t.manifoldFollows) := by exact .inl (by decide))
    (setpoints : (Aspect.trains ∉ A ∧ Aspect.disp ∉ A) ∨
      (s.factorsBounded → s.tablesInRange → s.manifoldFollows → s.setpointsInRange → t.setpointsInRange) := by
        exact .inl (by decide)) :
    Keeps A s t where
  toLeaves := h
  converter := converter.elim (fun ⟨ht, hc⟩ k => by
    have conv : t.conv = s.conv := h.agree .conv hc
    exact ⟨fun i => by rw [conv, h.agree.train ht i]; exact k.busy i, conv ▸ k.once,
      fun i => by rw [conv, h.agree.train ht i]; exact k.waiting i⟩) id
  follows := follows.elim (fun ⟨ht, hm⟩ k i => by
    have manifold : t.manifold = s.manifold := h.agree .manifold hm
    rw [manifold, h.agree.train ht i]; exact k i) id
  setpoints := setpoints.elim (fun ⟨ht, hd⟩ _ _ _ k => ⟨fun i => by
    have disp : t.disp = s.disp := h.agree .disp hd
    rw [disp, h.agree.train ht i]; exact k.inRange i⟩) fun hk hf ht hm k => ⟨hk hf ht hm k.inRange⟩

end

/-! ## Own frames -/

theorem Own.agree {s t : State} (h : Own s t) : Agree [] s t := by
  obtain ⟨r, p, rfl, k, -⟩ := h
  intro a _
  cases a <;> first | rfl | exact k.balance | exact k.continuity

theorem Own.keeps {A : List Aspect} {s t : State} (h : Own s t) : Keeps A s t := by
  have agree := h.agree
  obtain ⟨r, p, rfl, k, hp⟩ := h
  exact (Leaves.intro agree k.bounded hp).keeps.mono (List.nil_subset A)

theorem Leaves.own {A : List Aspect} {s t u : State} (h : Leaves A s t) (k : Own t u) : Leaves A s u := h.trans k.keeps.toLeaves

theorem Keeps.own {A : List Aspect} {s t u : State} (h : Keeps A s t) (k : Own t u) : Keeps A s u := h.trans k.keeps

theorem Own.andThen {A : List Aspect} {s t u : State} (h : Own s t) (k : Keeps A t u) : Keeps A s u := h.keeps.trans k

end Sys2Proof.Machine
end
section
/-!
PROOFS. What the operations over the caverns and the manifold keep (chapter 2).
-/

namespace Sys2Proof.Machine

/-! ## One cavern record -/

theorem State.cavern_setCavern (s : State) (c d : Fin 4) (x : Cavern) :
    (s.setCavern c x).cavern d = if d = c then x else s.cavern d := by
  split
  case isTrue h => rw [h, State.cavern_setCavern_same]
  case isFalse h => exact State.cavern_setCavern_other s c d x (Ne.symm h)

theorem State.setCavern_setCavern (s : State) (c : Fin 4) (x y : Cavern) : (s.setCavern c x).setCavern c y = s.setCavern c y := by
  simp [State.setCavern, Vector.set_set]

/-- The valve and the mark of a cavern set together. -/
theorem State.setValve_setMark (s : State) (c : Fin 4) (v : ValveState) (m : Mark) :
    (s.setValve c v).setMark c m = s.setCavern c { s.cavern c with
      valve := v, timer := if v = .opening ∨ v = .closing then s.after ((s.cavern c).p.travel * 1000) else none, mark := m } := by
  simp only [State.setMark, State.setValve, State.cavern_setCavern_same, State.setCavern_setCavern]

/-- The valve of a marked cavern stands neither open nor opening (R34 to R36). -/
def Cavern.markSound (x : Cavern) : Prop := x.mark ≠ .none → x.valve ≠ .opened ∧ x.valve ≠ .opening

/-- A cavern's two factors lie from 0 to 1000 (R29). -/
def Cavern.bounded (x : Cavern) : Prop := isFactor x.gen ∧ isFactor x.absorb

/-- A cavern record is replaced by one of the same parameters. -/
theorem State.setCavern_keeps {s : State} {c : Fin 4} {x : Cavern} (hp : x.p = (s.cavern c).p)
    (hm : (s.cavern c).markSound → x.markSound) (hf : (s.cavern c).bounded → x.bounded) :
    Keeps [.caverns] s (s.setCavern c x) := by
  refine Leaves.keeps (.intro ?_ (marks := .inr fun h d => ?_) (factors := .inr fun h => ⟨fun d => ?_, h.stores⟩))
  · intro a ha
    cases a <;> first | rfl | exact absurd (by decide) ha | skip
    funext d
    simp only [Aspect.read, State.cavern_setCavern]
    split
    case isTrue e => rw [e, hp]
    case isFalse => rfl
  · rw [State.cavern_setCavern]
    split
    case isTrue => exact hm (h c)
    case isFalse => exact h d
  · rw [State.cavern_setCavern]
    split
    case isTrue => exact hf (h.caverns c)
    case isFalse => exact h.caverns d

/-! ## Valves -/

/-- A valve that becomes neither open nor opening. -/
theorem State.setValve_keeps (s : State) (c : Fin 4) {v : ValveState} (h : v ≠ .opened ∧ v ≠ .opening) :
    Keeps [.caverns] s (s.setValve c v) :=
  State.setCavern_keeps rfl (fun _ _ => h) id

/-- A valve of a cavern without a mark. -/
theorem State.setValve_keeps_of_unmarked {s : State} {c : Fin 4} (h : (s.cavern c).mark = .none) (v : ValveState) :
    Keeps [.caverns] s (s.setValve c v) :=
  State.setCavern_keeps rfl (fun _ m => absurd h m) id

theorem State.setValve_setMark_keeps (s : State) (c : Fin 4) {v : ValveState} {m : Mark}
    (h : m ≠ .none → v ≠ .opened ∧ v ≠ .opening) : Keeps [.caverns] s ((s.setValve c v).setMark c m) := by
  rw [State.setValve_setMark]
  exact State.setCavern_keeps rfl (fun _ => h) id

theorem State.isolate_keeps (s : State) (c : Fin 4) : Keeps [.caverns] s (s.isolate c) := by
  unfold State.isolate
  refine .ite (fun _ => .ite (fun room => ?_) fun _ => ?_) fun _ => .refl _ s
  · split
    case h_1 => exact .refl _ s
    case h_2 d _ =>
      exact ((State.place_own room _ _ _).andThen (State.setValve_setMark_keeps _ c fun _ => by decide)).own
        (State.notify_own _ _ _ _)
  · exact (s.cavernQueueFull_own c _).keeps

theorem State.reopen_keeps (s : State) (c : Fin 4) : Keeps [.caverns] s (s.reopen c) := by
  unfold State.reopen
  refine .ite (fun _ => .ite (fun room => ?_) fun _ => ?_) fun _ => .refl _ s
  · exact (((State.place_own room _ _ _).andThen (State.setValve_setMark_keeps _ c fun m => absurd rfl m)).own
      (State.notify_own _ _ _ _)).trans (State.isolate_keeps _ c)
  · exact (s.cavernQueueFull_own c _).keeps

theorem State.isolateAll_keeps (s : State) : Keeps [.caverns] s s.isolateAll := .foldl State.isolate_keeps _ s

theorem State.reopenAll_keeps (s : State) : Keeps [.caverns] s s.reopenAll := .foldl State.reopen_keeps _ s

/-- A valve found OPEN or OPENING on a report, with the own frames between the change and its answer: a marked cavern is
closed or loses its mark. -/
theorem State.openedByReport_keeps {s u : State} {c : Fin 4} {v : ValveState} (h : Own (s.setValve c v) u) :
    Keeps [.caverns] s (u.openedByReport c) := by
  have same : u.cavern c = (s.setValve c v).cavern c := h.agree.cavern (by decide) c
  have mark : (u.cavern c).mark = (s.cavern c).mark := by
    rw [same, State.setValve, State.cavern_setCavern_same]
  -- what the own frames and the later change of the record leave together
  have swap : ∀ x : Cavern, Own (s.setCavern c x) (u.setCavern c x) := by
    intro x
    obtain ⟨r, p, rfl, k, hp⟩ := h
    exact ⟨r, p, congrArg (fun z : State => { z with ring := r, rep := p }) (s.setCavern_setCavern c _ x), k, hp⟩
  unfold State.openedByReport
  refine .ite (fun hm => ?_) fun hm => .ite (fun room => ?_) fun _ => ?_
  · have unmarked : (s.cavern c).mark = .none := mark ▸ hm
    exact ((State.setValve_keeps_of_unmarked unmarked v).own h).trans (State.isolate_keeps u c)
  · have placed := State.place_own room (u.cavern c).p.node .valveClose 0
    have closed : Own (u.setCavern c { u.cavern c with valve := .closing, timer := u.after ((u.cavern c).p.travel * 1000) })
        ((u.place (u.cavern c).p.node .valveClose 0).setValve c .closing) := by
      obtain ⟨r, p, e, k, hp⟩ := placed
      rw [e]
      exact ⟨r, p, rfl, k, hp⟩
    refine (State.setCavern_keeps (s := s) (c := c) ?_ (fun _ _ => by simp) ?_).own ((swap _).trans closed)
    · simp only [same, State.setValve, State.cavern_setCavern_same]
    · simp only [same, State.setValve, State.cavern_setCavern_same]
      exact id
  · refine (State.setCavern_keeps (s := s) (c := c) (x := { u.cavern c with mark := .none }) ?_ (fun _ m => absurd rfl m) ?_).own
      ((swap _).trans (State.cavernQueueFull_own _ c _))
    · simp only [same, State.setValve, State.cavern_setCavern_same]
    · simp only [same, State.setValve, State.cavern_setCavern_same]
      exact id

theorem State.valveReport_keeps (s : State) (c : Fin 4) (pos : ValvePos) : Keeps [.caverns] s (s.valveReport c pos) := by
  have opens (v : ValveState) : Keeps [.caverns] s ((s.setValve c v).openedByReport c) := State.openedByReport_keeps (.refl _)
  have adopts (v : ValveState) (n : NoticeName) (l : List Item) :
      Keeps [.caverns] s (((s.setValve c v).notify n (.cavern c) l).openedByReport c) :=
    State.openedByReport_keeps (State.notify_own _ _ _ _)
  have moves {v : ValveState} (h : v ≠ .opened ∧ v ≠ .opening) (n : NoticeName) (l : List Item) :
      Keeps [.caverns] s ((s.setValve c v).notify n (.cavern c) l) :=
    (s.setValve_keeps c h).own (State.notify_own _ _ _ _)
  unfold State.valveReport
  cases (s.cavern c).valve <;> cases pos <;> first
    | exact .refl _ s
    | exact opens _
    | exact adopts _ _ _
    | exact moves (by decide) _ _
    | exact (moves (by decide) _ _).trans (State.reopen_keeps _ c)
    | exact (s.setValve_keeps c (by decide)).trans (State.reopen_keeps _ c)

theorem State.travelExpired_keeps (s : State) (c : Fin 4) : Keeps [.caverns] s (s.travelExpired c) := by
  unfold State.travelExpired
  exact .ite (fun _ => (s.setValve_keeps c (by decide)).own (State.notify_own _ _ _ _))
    fun _ => State.setCavern_keeps rfl id id

/-! ## Pressure events -/

theorem perMille_isFactor (a b : Int) : isFactor (perMille a b) := by
  unfold perMille clampTo isFactor
  split <;> [omega; (split <;> omega)]

theorem Cavern.withView_p (x : Cavern) (v : View) : (x.withView v).p = x.p := by
  unfold Cavern.withView; split <;> [rfl; (split <;> rfl)]

theorem Cavern.withView_markSound {x : Cavern} (v : View) (h : x.markSound) : (x.withView v).markSound := by
  unfold Cavern.withView; split <;> [exact h; (split <;> exact h)]

theorem Cavern.withView_bounded {x : Cavern} (v : View) (h : x.bounded) : (x.withView v).bounded := by
  unfold Cavern.withView
  split
  · exact ⟨⟨le_refl _, by norm_num⟩, ⟨le_refl _, by norm_num⟩⟩
  · split
    · exact h
    · exact ⟨perMille_isFactor _ _, perMille_isFactor _ _⟩

theorem State.evalHold_keeps (s : State) (c : Fin 4) : Keeps [.caverns] s (s.evalHold c) := by
  have held (h : Bool) : Keeps [.caverns] s (s.setCavern c { s.cavern c with hold := h }) := State.setCavern_keeps rfl id id
  unfold State.evalHold
  refine .ite (fun _ => .refl _ s) fun _ => .ite (fun _ => ?_) fun _ => ?_
  all_goals exact (held _).own (State.notify_own _ _ _ _)

theorem State.evalHoldAll_keeps (s : State) : Keeps [.caverns] s s.evalHoldAll := .foldl State.evalHold_keeps _ s

theorem State.cavernValue_keeps (s : State) (c : Fin 4) (v : View) (t : Nat) : Keeps [.caverns] s (s.cavernValue c v t) := by
  have taken := State.setCavern_keeps (s := s) (c := c) (x := ((s.cavern c).withView v).withRate (s.plant.rateSpacing * 1000) v.avg t)
    ((s.cavern c).withView_p v) (fun h => Cavern.withView_markSound v h) fun h => Cavern.withView_bounded v h
  exact ((taken.trans (State.evalHold_keeps _ c)).trans (State.isolate_keeps _ c)).trans (State.reopen_keeps _ c)

theorem State.cavernQuality_keeps (s : State) (c : Fin 4) (v : View) : Keeps [.caverns] s (s.cavernQuality c v) := by
  have taken := State.setCavern_keeps (s := s) (c := c) ((s.cavern c).withView_p v) (Cavern.withView_markSound v)
    (Cavern.withView_bounded v)
  exact (taken.trans (State.evalHold_keeps _ c)).trans (State.isolate_keeps _ c)

/-! ## The manifold -/

/-- What a change of the manifold does to the caverns, once the record has changed and MANIFOLD_CHANGE is raised. -/
theorem State.manifoldTo_keeps_after (s : State) (m : Manifold) : Keeps [.caverns] { s with manifold := m } (s.manifoldTo m) := by
  unfold State.manifoldTo
  refine Keeps.trans ?_ (State.evalHoldAll_keeps _)
  refine .ite (fun _ => (State.notify_own _ _ _ _).keeps) fun _ => ?_
  exact ((State.notify_own _ _ _ _).andThen (State.isolateAll_keeps _)).trans (State.reopenAll_keeps _)

/-- The manifold record is replaced, and the trains flow as it does. -/
theorem State.withManifold_keeps {s : State} {m : Manifold} (h : s.manifoldFollows → ({ s with manifold := m } : State).manifoldFollows) :
    Keeps [.manifold] s { s with manifold := m } := by
  refine Leaves.keeps (.intro ?_) (follows := .inr h)
  intro a ha
  cases a <;> first | rfl | exact absurd (by decide) ha

theorem State.manifoldTo_keeps {s : State} {m : Manifold} (h : s.manifoldFollows → ({ s with manifold := m } : State).manifoldFollows) :
    Keeps [.manifold, .caverns] s (s.manifoldTo m) :=
  (State.withManifold_keeps h).comp (s.manifoldTo_keeps_after m)

/-- A manifold of the same flow: the trains follow it as before. -/
theorem State.follows_of_flow_eq {s : State} {m : Manifold} (h : m.state.flow = s.manifold.state.flow) (k : s.manifoldFollows) :
    ({ s with manifold := m } : State).manifoldFollows := fun i hi => h.trans (k i hi)

theorem State.withTimer_keeps (s : State) (d : Option Nat) :
    Keeps [.manifold] s { s with manifold := { s.manifold with timer := d } } :=
  State.withManifold_keeps (m := { s.manifold with timer := d }) (State.follows_of_flow_eq rfl)

theorem State.manifoldIdle_keeps {s : State} (h : s.manifold.state.flow = none) : Keeps [.manifold, .caverns] s s.manifoldIdle :=
  State.manifoldTo_keeps (State.follows_of_flow_eq h.symm)

theorem State.startDeadband_keeps {s : State} (h : s.manifold.state.flow = none) : Keeps [.manifold, .caverns] s s.startDeadband := by
  unfold State.startDeadband
  refine .ite (fun _ => State.manifoldIdle_keeps h) fun _ => ?_
  exact (s.withTimer_keeps _).mono (by decide)

theorem State.deadbandExpired_keeps (s : State) : Keeps [.manifold, .caverns] s s.deadbandExpired := by
  unfold State.deadbandExpired
  refine .ite (fun h => State.manifoldIdle_keeps (by rw [h]; rfl)) fun _ => ?_
  exact (s.withTimer_keeps none).mono (by decide)

theorem State.manifoldTo_manifold (s : State) (m : Manifold) : (s.manifoldTo m).manifold = m :=
  (s.manifoldTo_keeps_after m).agree .manifold (by decide)

/-- A changeover begins where no train is in LOADING or LOADED. -/
theorem State.enterChangeover_keeps {s : State} {d : Direction}
    (h : s.manifoldFollows → ∀ i, ¬ ((s.train i).isIn .loading = true ∨ (s.train i).isIn .loaded = true)) :
    Keeps [.manifold, .caverns] s (s.enterChangeover d) := by
  have entered := State.manifoldTo_keeps (s := s) (m := ⟨.changeover, some d, none⟩) fun k i hi => absurd hi (h k i)
  unfold State.enterChangeover
  exact .ite (fun _ => entered) fun _ => entered.trans (State.startDeadband_keeps (by rw [State.manifoldTo_manifold]; rfl))

/-! ## Adequacy -/

theorem Own.ite {p : Prop} [Decidable p] {s t u : State} (ht : p → Own s t) (hu : ¬ p → Own s u) : Own s (if p then t else u) := by
  split
  case isTrue h => exact ht h
  case isFalse h => exact hu h

theorem State.airCheckOne_own (k : Nat) (net energy : Int) (n : Nat) (s : State) (c : Fin 4) :
    Own s (State.airCheckOne k net energy n s c) := by
  unfold State.airCheckOne
  exact .ite (fun _ => .refl s) fun _ => .ite (fun _ => s.notify_own _ _ _) fun _ => .ite (fun _ => s.notify_own _ _ _) fun _ => .refl s

theorem Own.foldl {α : Type} {f : State → α → State} (h : ∀ s x, Own s (f s x)) (l : List α) (s : State) : Own s (l.foldl f s) := by
  induction l generalizing s with
  | nil => exact .refl s
  | cons x l ih => exact (h s x).trans (ih _)

theorem State.airCheck_own (s : State) (k : Nat) (net : Int) : Own s (s.airCheck k net) := by
  unfold State.airCheck
  exact .ite (fun _ => .refl s) fun _ => .ite (fun _ => s.notify_own _ _ _) fun _ => .foldl (State.airCheckOne_own k net _ _) _ s

end Sys2Proof.Machine
end
section
/-!
PROOFS. What a change of a train's state keeps (R61): the train with its track, the converter's answer, the notice, and the
manifold's answer, which is where the trains and the manifold agree again.
-/

namespace Sys2Proof.Machine

/-- What a change of a train's state may touch. -/
abbrev moved : List Aspect := [.trains, .disp, .conv, .manifold, .caverns]

/-- The train loads or is loaded: the manifold has to flow its way (R38). -/
def Train.carries (t : Train) : Prop := t.isIn .loading = true ∨ t.isIn .loaded = true

theorem Train.isIn_iff (t : Train) (st : TrainState) : t.isIn st = true ↔ t.present = true ∧ t.state = st := by
  simp [Train.isIn]

theorem Train.carries_iff (t : Train) : t.carries ↔ t.present = true ∧ (t.state = .loading ∨ t.state = .loaded) := by
  rw [Train.carries, Train.isIn_iff, Train.isIn_iff, and_or_left]

theorem Train.carries.flows {t : Train} (h : t.carries) : t.state.flows = true := by
  obtain ⟨-, e | e⟩ := t.carries_iff.mp h <;> rw [e] <;> rfl

theorem Train.dir_ne_none {t : Train} (h : t.present = true) : t.p.kind.dir ≠ none := by
  unfold Train.present at h
  cases e : t.p.kind <;> simp_all [TrainKind.dir]

/-! ## The records one by one -/

theorem State.train_setTrain (s : State) (i j : Fin 8) (x : Train) : (s.setTrain i x).train j = if j = i then x else s.train j := by
  split
  case isTrue h => rw [h, State.train_setTrain_same]
  case isFalse h => exact State.train_setTrain_other s i j x (Ne.symm h)

/-- A train record is replaced by one of the same parameters and trip captures. -/
theorem State.setTrain_leaves {s : State} {i : Fin 8} {x : Train} (hp : x.p = (s.train i).p) (hs : x.stack = (s.train i).stack) :
    Leaves [.trains] s (s.setTrain i x) := by
  refine .intro ?_
  intro a ha
  cases a <;> first | rfl | exact absurd (by decide) ha | skip
  all_goals
    funext j
    simp only [Aspect.read, State.train_setTrain]
    split
    case isTrue e => first | rw [e, hp] | rw [e, hs]
    case isFalse => rfl

/-- A train record is replaced by one of the same parameters, state, setpoint and trip captures. -/
theorem State.setTrain_keeps {s : State} {i : Fin 8} {x : Train} (hp : x.p = (s.train i).p) (hst : x.state = (s.train i).state)
    (hsp : x.setpoint = (s.train i).setpoint) (hs : x.stack = (s.train i).stack) : Keeps [.trains] s (s.setTrain i x) := by
  have read (j : Fin 8) : ((s.setTrain i x).train j).p = (s.train j).p ∧ ((s.setTrain i x).train j).state = (s.train j).state ∧
      ((s.setTrain i x).train j).setpoint = (s.train j).setpoint := by
    rw [State.train_setTrain]
    split
    case isTrue e => rw [e]; exact ⟨hp, hst, hsp⟩
    case isFalse => exact ⟨rfl, rfl, rfl⟩
  have isIn (j : Fin 8) (st : TrainState) : ((s.setTrain i x).train j).isIn st = (s.train j).isIn st := by
    simp only [Train.isIn, Train.present, (read j).1, (read j).2.1]
  refine Leaves.keeps (State.setTrain_leaves hp hs) (converter := .inr fun h => ?_) (follows := .inr fun h j => ?_)
    (setpoints := .inr fun _ _ _ h j => ?_)
  · exact ⟨fun j => by rw [isIn]; exact h.busy j, h.once, fun j => by rw [isIn]; exact h.waiting j⟩
  · rw [isIn, isIn, (read j).1]; exact h j
  · rw [isIn, (read j).1, (read j).2.2]; exact h j

theorem State.setTrack_leaves (s : State) (i : Fin 8) (v : Int) : Leaves [.disp] s (s.setTrack i v) := by
  refine .intro fun a ha => ?_
  cases a <;> first | rfl | exact absurd (by decide) ha

theorem State.withConv_leaves (s : State) (c : Converter) : Leaves [.conv] s { s with conv := c } := by
  refine .intro fun a ha => ?_
  cases a <;> first | rfl | exact absurd (by decide) ha

theorem State.convLeft_leaves (s : State) (i : Fin 8) (old : TrainState) : Leaves [.conv] s (s.convLeft i old) := by
  unfold State.convLeft
  split
  · exact s.withConv_leaves _
  · split
    · split <;> exact s.withConv_leaves _
    · exact .refl _ s
  · exact .refl _ s

/-! ## The manifold's answer -/

theorem State.withManifold_leaves (s : State) (m : Manifold) : Leaves [.manifold] s { s with manifold := m } := by
  refine .intro fun a ha => ?_
  cases a <;> first | rfl | exact absurd (by decide) ha

theorem State.manifoldTo_leaves (s : State) (m : Manifold) : Leaves [.manifold, .caverns] s (s.manifoldTo m) :=
  (s.withManifold_leaves m).comp (s.manifoldTo_keeps_after m).toLeaves

theorem State.flowBegan_leaves (s : State) (k : TrainKind) : Leaves [.manifold, .caverns] s (s.flowBegan k) := by
  unfold State.flowBegan
  split
  · exact s.manifoldTo_leaves _
  · exact .refl _ s

theorem mem_slotNumbers (i : Fin 8) : i ∈ slotNumbers := by revert i; decide

/-- Nothing loads or is loaded once no train of the manifold's direction flows. -/
theorem State.nothing_carries {s : State} {d : Direction} (hd : s.manifold.state.flow = some d) (hk : s.kindFlows d.kind = false)
    (h : s.manifoldFollows) (i : Fin 8) : ¬ (s.train i).carries := by
  intro hc
  have follows : some d = (s.train i).p.kind.dir := hd ▸ h i hc
  have kind : (s.train i).p.kind = d.kind := by
    revert follows
    cases d <;> cases (s.train i).p.kind <;> simp [TrainKind.dir, Direction.kind]
  have flows : ((s.train i).flowing && (s.train i).p.kind == d.kind) = true := by
    rw [Train.flowing, ((s.train i).carries_iff.mp hc).1, hc.flows, kind]; simp
  have all : ∀ j ∈ slotNumbers, ((s.train j).flowing && (s.train j).p.kind == d.kind) = false := by
    simpa [State.kindFlows] using hk
  have mem : i ∈ slotNumbers := mem_slotNumbers i
  exact absurd (all i mem) (by rw [flows]; decide)

theorem State.flowEnded_keeps (s : State) : Keeps [.manifold, .caverns] s s.flowEnded := by
  unfold State.flowEnded
  split
  · rename_i hm
    refine .ite (fun _ => .refl _ s) fun hk => State.enterChangeover_keeps fun h => ?_
    exact State.nothing_carries (d := .charge) (by rw [hm]; rfl) (Bool.eq_false_iff.mpr hk) h
  · rename_i hm
    refine .ite (fun _ => .refl _ s) fun hk => State.enterChangeover_keeps fun h => ?_
    exact State.nothing_carries (d := .discharge) (by rw [hm]; rfl) (Bool.eq_false_iff.mpr hk) h
  · rename_i hm
    exact .ite (fun _ => .refl _ s) fun _ => State.startDeadband_keeps (by rw [hm]; rfl)
  · exact .refl _ s

theorem State.manifoldAnswer_leaves (s : State) (k : TrainKind) (old new : TrainState) :
    Leaves [.manifold, .caverns] s (s.manifoldAnswer k old new) := by
  unfold State.manifoldAnswer
  split
  · exact s.flowBegan_leaves k
  · split
    · exact s.flowEnded_keeps.toLeaves
    · exact .refl _ s

/-! ## The change of one train -/

/-- The records after a change of a train's state, before TRAIN_STATE and the manifold's answer: the train, its track, and the
converter. -/
def State.recorded (s : State) (i : Fin 8) (new : TrainState) (setpoint : Int) : State :=
  ((s.setTrain i ((s.train i).changed new setpoint s.now)).setTrack i ((s.train i).changed new setpoint s.now).setpoint).convLeft
    i (s.train i).state

theorem State.moveTrain_same {s : State} {i : Fin 8} {new : TrainState} (h : (s.train i).state = new) (v : Int) (c : Cause) :
    s.moveTrain i new v c = s := if_pos h

theorem State.moveTrain_eq {s : State} {i : Fin 8} {new : TrainState} (h : (s.train i).state ≠ new) (v : Int) (c : Cause) :
    s.moveTrain i new v c =
      ((s.recorded i new v).trainNotice i (.code (s.train i).state.num) (.code new.num) c).manifoldAnswer (s.train i).p.kind
        (s.train i).state new := if_neg h

theorem Train.changed_p (t : Train) (new : TrainState) (v : Int) (n : Nat) : (t.changed new v n).p = t.p := by
  simp only [Train.changed]; split <;> rfl

theorem Train.changed_stack (t : Train) (new : TrainState) (v : Int) (n : Nat) : (t.changed new v n).stack = t.stack := by
  simp only [Train.changed]; split <;> rfl

theorem Train.changed_state (t : Train) (new : TrainState) (v : Int) (n : Nat) : (t.changed new v n).state = new := by
  simp only [Train.changed]; split <;> rfl

theorem Train.changed_setpoint (t : Train) (new : TrainState) (v : Int) (n : Nat) :
    (t.changed new v n).setpoint = if new = .loaded then v else 0 := by
  simp only [Train.changed]; by_cases h : new = .tripped <;> simp [h]

theorem Train.changed_isIn (t : Train) (new : TrainState) (v : Int) (n : Nat) (st : TrainState) :
    (t.changed new v n).isIn st = true ↔ t.present = true ∧ new = st := by
  rw [Train.isIn_iff, Train.present, Train.changed_p, Train.changed_state]; rfl

theorem State.recorded_leaves (s : State) (i : Fin 8) (new : TrainState) (v : Int) :
    Leaves [.trains, .disp, .conv] s (s.recorded i new v) :=
  ((State.setTrain_leaves (Train.changed_p _ _ _ _) (Train.changed_stack _ _ _ _)).comp (State.setTrack_leaves _ i _)
    (C := [.trains, .disp])).comp (State.convLeft_leaves _ i _)

theorem State.recorded_trains (s : State) (i : Fin 8) (new : TrainState) (v : Int) :
    (s.recorded i new v).trains = (s.setTrain i ((s.train i).changed new v s.now)).trains :=
  (State.convLeft_leaves _ i _).agree .trains (by decide)

theorem State.recorded_train (s : State) (i j : Fin 8) (new : TrainState) (v : Int) :
    (s.recorded i new v).train j = if j = i then (s.train i).changed new v s.now else s.train j := by
  rw [← State.train_setTrain, State.train, State.recorded_trains]; rfl

theorem State.recorded_disp (s : State) (i : Fin 8) (new : TrainState) (v : Int) :
    (s.recorded i new v).disp = (s.setTrack i (if new = .loaded then v else 0)).disp := by
  rw [← Train.changed_setpoint (s.train i) new v s.now]
  exact (State.convLeft_leaves _ i _).agree .disp (by decide)

/-- A change of a train's state, the manifold's answer apart, is a change of the records and own frames. -/
theorem State.moveTrain_leaves (s : State) (i : Fin 8) (new : TrainState) (v : Int) (c : Cause) :
    Leaves moved s (s.moveTrain i new v c) := by
  by_cases h : (s.train i).state = new
  · rw [State.moveTrain_same h]; exact .refl _ s
  · rw [State.moveTrain_eq h]
    exact ((s.recorded_leaves i new v).own (State.notify_own _ _ _ _)).comp (State.manifoldAnswer_leaves _ _ _ _)

/-- What follows the change of the records leaves the trains, the tracks and the converter. -/
theorem State.moveTrain_agrees {s : State} {i : Fin 8} {new : TrainState} (h : (s.train i).state ≠ new) (v : Int) (c : Cause) :
    Agree [.manifold, .caverns] (s.recorded i new v) (s.moveTrain i new v c) := by
  rw [State.moveTrain_eq h]
  have notice : Agree [.manifold, .caverns] (s.recorded i new v) _ :=
    (State.notify_own (s.recorded i new v) .trainState (.train i) [.fig i.val, .code (s.train i).state.num, .code new.num, c.item]).agree.mono
      (List.nil_subset _)
  exact notice.trans (State.manifoldAnswer_leaves _ _ _ _).agree

theorem State.moveTrain_train (s : State) (i j : Fin 8) (new : TrainState) (v : Int) (c : Cause) :
    (s.moveTrain i new v c).train j =
      if j = i ∧ (s.train i).state ≠ new then (s.train i).changed new v s.now else s.train j := by
  by_cases h : (s.train i).state = new
  · rw [State.moveTrain_same h, if_neg (fun k => k.2 h)]
  · rw [(State.moveTrain_agrees h v c).train (by decide), State.recorded_train]
    simp [h]

theorem State.moveTrain_converter {s : State} {i : Fin 8} {new : TrainState} {v : Int} {c : Cause}
    (h : (s.train i).state ≠ new) (k : (s.recorded i new v).converterSound) : (s.moveTrain i new v c).converterSound := by
  have agree := State.moveTrain_agrees h v c
  have conv : (s.moveTrain i new v c).conv = (s.recorded i new v).conv := agree .conv (by decide)
  exact ⟨fun j => by rw [conv, agree.train (by decide)]; exact k.busy j, conv ▸ k.once,
    fun j => by rw [conv, agree.train (by decide)]; exact k.waiting j⟩

/-- A train may load or be loaded: the manifold flows its way, or not at all and the train is about to flow (R38, R80). -/
def State.mayCarry (s : State) (i : Fin 8) : Prop :=
  s.manifold.state.flow = (s.train i).p.kind.dir ∨ (s.manifold.state.flow = none ∧ (s.train i).state.flows = false)

theorem Direction.state_flow (d : Direction) : d.state.flow = some d := by cases d <;> rfl

theorem State.moveTrain_follows {s : State} {i : Fin 8} {new : TrainState} {v : Int} {c : Cause}
    (hn : (new = .loading ∨ new = .loaded) → s.mayCarry i) (h : s.manifoldFollows) : (s.moveTrain i new v c).manifoldFollows := by
  by_cases hs : (s.train i).state = new
  · rw [State.moveTrain_same hs]; exact h
  rw [State.moveTrain_eq hs]
  generalize hu : (s.recorded i new v).trainNotice i (.code (s.train i).state.num) (.code new.num) c = u
  have agree : Agree [.trains, .disp, .conv] s u :=
    hu ▸ ((s.recorded_leaves i new v).own (State.notify_own _ _ _ _)).agree
  have manifold : u.manifold = s.manifold := agree .manifold (by decide)
  have train (j : Fin 8) : u.train j = if j = i then (s.train i).changed new v s.now else s.train j := by
    rw [← State.recorded_train, ← hu]
    exact (State.notify_own _ _ _ _).agree.train (by decide) j
  -- the train that moves
  have self (hc : (u.train i).carries) : (s.train i).present = true ∧ (new = .loading ∨ new = .loaded) ∧ s.mayCarry i := by
    rw [Train.carries, train, if_pos rfl, Train.changed_isIn, Train.changed_isIn, ← and_or_left] at hc
    exact ⟨hc.1, hc.2, hn hc.2⟩
  -- every other train follows as before
  have others (j : Fin 8) (hj : j ≠ i) (hc : (u.train j).carries) : s.manifold.state.flow = (u.train j).p.kind.dir := by
    rw [train, if_neg hj] at hc ⊢
    exact h j hc
  have kind : (u.train i).p.kind = (s.train i).p.kind := by rw [train, if_pos rfl, Train.changed_p]
  unfold State.manifoldAnswer
  split
  case isTrue hb =>
    unfold State.flowBegan
    split
    case h_1 d hf hd =>
      intro j hc
      have entered := State.manifoldTo_leaves u ⟨d.state, none, none⟩
      have flow : (u.enterDirection d).manifold.state.flow = some d := by
        rw [State.enterDirection, State.manifoldTo_manifold, d.state_flow]
      rw [flow]
      have same : (u.enterDirection d).train j = u.train j := entered.agree.train (by decide) j
      rw [same] at hc ⊢
      by_cases hj : j = i
      · rw [hj, kind, hd]
      · have := others j hj hc
        rw [← manifold, hf] at this
        exact absurd this.symm (Train.dir_ne_none ((Train.carries_iff _).mp hc).1)
    case h_2 hx =>
      intro j hc
      rw [manifold]
      by_cases hj : j = i
      · subst hj
        obtain ⟨hp, -, e | ⟨e, -⟩⟩ := self hc
        · rw [e, kind]
        · cases hd : (s.train j).p.kind.dir with
          | none => rw [e, kind, hd]
          | some d => exact absurd hd (hx d (by rw [manifold, e]))
      · exact others j hj hc
  case isFalse hb =>
    have follows (hx : (new = .loading ∨ new = .loaded) → (s.train i).state.flows = true) : u.manifoldFollows := by
      intro j hc
      rw [manifold]
      by_cases hj : j = i
      · subst hj
        obtain ⟨-, hnew, e | ⟨-, e⟩⟩ := self hc
        · rw [e, kind]
        · exact absurd (hx hnew) (by rw [e]; decide)
      · exact others j hj hc
    have flows (hnew : new = .loading ∨ new = .loaded) : (s.train i).state.flows = true := by
      have : new.flows = true := by obtain e | e := hnew <;> rw [e] <;> rfl
      simpa [this] using hb
    split
    case isTrue => exact u.flowEnded_keeps.follows (follows flows)
    case isFalse => exact follows flows

theorem Vector.get_set {α : Type} {n : Nat} (x : Vector α n) (i j : Fin n) (v : α) :
    (x.set i.val v i.isLt).get j = if j = i then v else x.get j := by
  rw [Vector.get_eq_getElem, Vector.getElem_set, Vector.get_eq_getElem]
  simp [Fin.ext_iff, eq_comm]

theorem State.moveTrain_setpoints {s : State} {i : Fin 8} {new : TrainState} {v : Int} {c : Cause}
    (hn : new = .loaded → (s.train i).present = true ∧ (s.train i).p.pMin ≤ v ∧ v ≤ (s.train i).p.pMax)
    (h : s.setpointsInRange) : (s.moveTrain i new v c).setpointsInRange := by
  by_cases hs : (s.train i).state = new
  · rw [State.moveTrain_same hs]; exact h
  have agree := State.moveTrain_agrees hs v c
  have disp : (s.moveTrain i new v c).disp = (s.setTrack i (if new = .loaded then v else 0)).disp :=
    (agree .disp (by decide)).trans (s.recorded_disp i new v)
  have track (j : Fin 8) : (s.moveTrain i new v c).disp.tracks.get j =
      if j = i then (if new = .loaded then v else 0) else s.disp.tracks.get j := by
    rw [disp]; exact Vector.get_set _ _ _ _
  intro j
  rw [track, State.moveTrain_train]
  by_cases hj : j = i
  · subst hj
    simp only [ne_eq, hs, not_false_eq_true, and_self, if_true]
    rw [Train.changed_setpoint, Train.changed_p]
    by_cases hl : new = .loaded
    · obtain ⟨hp, lo, hi⟩ := hn hl
      rw [if_pos hl, if_pos ((Train.changed_isIn _ _ _ _ _).mpr ⟨hp, hl⟩)]
      exact ⟨⟨lo, hi⟩, lo, hi⟩
    · rw [if_neg hl, if_neg (fun k => hl ((Train.changed_isIn _ _ _ _ _).mp k).2)]
      exact ⟨rfl, rfl⟩
  · simp only [if_neg (fun k => hj k.1 : ¬ (j = i ∧ (s.train i).state ≠ new)), if_neg hj]
    exact h j

/-! ## The converter's answer -/

theorem State.convLeft_queue (s : State) (i : Fin 8) (old : TrainState) :
    (s.convLeft i old).conv.queue = if old = .startWait then s.conv.queue.erase i else s.conv.queue := by
  by_cases hb : s.conv.state = .busy i <;> by_cases hc : s.plant.cooldown = 0 <;> cases old <;> simp [State.convLeft, hb, hc]

/-- The converter is released by the train it is BUSY for as that train leaves STARTING (R90). -/
theorem State.convLeft_state (s : State) (i : Fin 8) (old : TrainState) :
    (s.convLeft i old).conv.state = if old = .starting ∧ s.conv.state = .busy i then
      (if s.plant.cooldown = 0 then .free else .cooldown) else s.conv.state := by
  by_cases hb : s.conv.state = .busy i <;> by_cases hc : s.plant.cooldown = 0 <;> cases old <;> simp [State.convLeft, hb, hc]

theorem State.recorded_queue (s : State) (i : Fin 8) (new : TrainState) (v : Int) :
    (s.recorded i new v).conv.queue = if (s.train i).state = .startWait then s.conv.queue.erase i else s.conv.queue :=
  State.convLeft_queue _ i _

theorem State.recorded_convState (s : State) (i : Fin 8) (new : TrainState) (v : Int) :
    (s.recorded i new v).conv.state = if (s.train i).state = .starting ∧ s.conv.state = .busy i then
      (if s.plant.cooldown = 0 then .free else .cooldown) else s.conv.state :=
  State.convLeft_state _ i _

/-- The start queue after a slot has left it, given that it held the waiting slots. -/
theorem State.mem_recorded_queue {s : State} {i j : Fin 8} {new : TrainState} {v : Int} (once : s.conv.queue.Nodup)
    (waiting : ∀ k, k ∈ s.conv.queue ↔ (s.train k).isIn .startWait = true) :
    j ∈ (s.recorded i new v).conv.queue ↔ j ≠ i ∧ (s.train j).isIn .startWait = true := by
  rw [State.recorded_queue]
  split
  case isTrue => rw [once.mem_erase_iff, waiting]
  case isFalse h =>
    rw [waiting, iff_and_self]
    rintro hj rfl
    exact h ((Train.isIn_iff _ _).mp hj).2

theorem State.recorded_once {s : State} (h : s.conv.queue.Nodup) (i : Fin 8) (new : TrainState) (v : Int) :
    (s.recorded i new v).conv.queue.Nodup := by
  rw [State.recorded_queue]; split <;> [exact h.erase i; exact h]

theorem State.recorded_isIn {s : State} {i j : Fin 8} {new st : TrainState} {v : Int} :
    ((s.recorded i new v).train j).isIn st = true ↔
      (j = i ∧ (s.train i).present = true ∧ new = st) ∨ (j ≠ i ∧ (s.train j).isIn st = true) := by
  rw [State.recorded_train]
  split
  case isTrue e => simp [e, Train.changed_isIn]
  case isFalse e => simp [e]

/-- A train that moves to neither START_WAIT nor STARTING leaves the converter to the others. -/
theorem State.recorded_converter {s : State} {i : Fin 8} {new : TrainState} {v : Int} (hn : new ≠ .starting ∧ new ≠ .startWait)
    (h : s.converterSound) : (s.recorded i new v).converterSound := by
  refine ⟨fun j => ?_, State.recorded_once h.once i new v, fun j => ?_⟩
  · rw [State.recorded_isIn, State.recorded_convState]
    have gone : ¬ (j = i ∧ (s.train i).present = true ∧ new = .starting) := fun k => hn.1 k.2.2
    rw [or_iff_right gone, ← h.busy]
    split
    case isTrue e =>
      have none : ¬ (j ≠ i ∧ s.conv.state = .busy j) := fun k => k.1 (by simpa [e.2, eq_comm] using k.2)
      simp only [none, iff_false]
      split <;> simp
    case isFalse e =>
      rw [iff_and_self]
      rintro hj rfl
      exact e ⟨((Train.isIn_iff _ _).mp ((h.busy j).mp hj)).2, hj⟩
  · rw [State.mem_recorded_queue h.once h.waiting, State.recorded_isIn, or_iff_right fun k => hn.2 k.2.2]

/-- A free converter that is given to a slot, whose train then starts. -/
theorem State.takeConverter_recorded_converter {s : State} {i : Fin 8} {v : Int} (free : s.conv.state = .free)
    (hp : (s.train i).present = true) (h : s.converterSound) : ((s.takeConverter i).recorded i .starting v).converterSound := by
  have idle (j : Fin 8) : ¬ (s.train j).isIn .starting = true := by rw [← h.busy, free]; simp
  have state : ¬ ((s.train i).state = .starting) := fun e => idle i ((Train.isIn_iff _ _).mpr ⟨hp, e⟩)
  refine ⟨fun j => ?_, State.recorded_once (s := s.takeConverter i) h.once i _ v, fun j => ?_⟩
  · rw [State.recorded_isIn, State.recorded_convState, if_neg fun k => state k.1]
    change ConvState.busy i = .busy j ↔ (j = i ∧ (s.train i).present = true ∧ _) ∨ (j ≠ i ∧ (s.train j).isIn .starting = true)
    simp [idle, hp, eq_comm]
  · rw [State.mem_recorded_queue (s := s.takeConverter i) h.once h.waiting, State.recorded_isIn]
    simp

/-! ## Changes of state as a whole -/

/-- A change into a state other than START_WAIT and STARTING. -/
theorem State.moveTrain_keeps {s : State} {i : Fin 8} {new : TrainState} {v : Int} {c : Cause}
    (hn : new ≠ .starting ∧ new ≠ .startWait)
    (hf : s.manifoldFollows → (new = .loading ∨ new = .loaded) → s.mayCarry i)
    (hs : s.tablesInRange → new = .loaded → (s.train i).present = true ∧ (s.train i).p.pMin ≤ v ∧ v ≤ (s.train i).p.pMax) :
    Keeps moved s (s.moveTrain i new v c) := by
  refine (State.moveTrain_leaves s i new v c).keeps (converter := .inr fun h => ?_) (follows := .inr fun h => ?_)
    (setpoints := .inr fun _ ht _ h => ?_)
  · by_cases e : (s.train i).state = new
    · rw [State.moveTrain_same e]; exact h
    · exact State.moveTrain_converter e (State.recorded_converter hn h)
  · exact State.moveTrain_follows (hf h) h
  · exact State.moveTrain_setpoints (hs ht) h

/-- A start: the free converter is given to the slot and the train is STARTING. -/
theorem State.start_keeps {s : State} {i : Fin 8} {v : Int} {c : Cause} (free : s.conv.state = .free)
    (hp : s.converterSound → (s.train i).present = true) : Keeps moved s ((s.takeConverter i).moveTrain i .starting v c) := by
  have leaves : Leaves moved s ((s.takeConverter i).moveTrain i .starting v c) :=
    ((s.withConv_leaves _).mono (by decide)).trans (State.moveTrain_leaves _ i .starting v c)
  refine leaves.keeps (converter := .inr fun h => ?_) (follows := .inr fun h => ?_) (setpoints := .inr fun _ _ _ h => ?_)
  · have idle : (s.train i).state ≠ .starting := by
      intro e
      have := (h.busy i).mpr ((Train.isIn_iff _ _).mpr ⟨hp h, e⟩)
      rw [free] at this
      exact ConvState.noConfusion this
    exact State.moveTrain_converter (s := s.takeConverter i) idle (State.takeConverter_recorded_converter free (hp h) h)
  · exact State.moveTrain_follows (s := s.takeConverter i) (by simp) h
  · exact State.moveTrain_setpoints (s := s.takeConverter i) (by simp) h

theorem State.withRetry_keeps (s : State) (d : Option Nat) : Keeps [.conv] s { s with conv := { s.conv with retry := d } } :=
  (s.withConv_leaves _).keeps (converter := .inr fun h => ⟨h.busy, h.once, h.waiting⟩)

theorem State.serve_keeps (s : State) : Keeps moved s s.serve := by
  unfold State.serve
  split
  · rename_i i rest free queue
    refine .ite (fun room => ?_) fun _ => ?_
    · have placed := State.place_own room (s.train i).p.node .start 0
      have conv : (s.place (s.train i).p.node .start 0).conv = s.conv := placed.agree .conv (by decide)
      refine placed.andThen (State.start_keeps (by rw [conv, free]) fun h => ?_)
      have : i ∈ (s.place (s.train i).p.node .start 0).conv.queue := by rw [conv, queue]; exact List.mem_cons_self
      exact ((Train.isIn_iff _ _).mp ((h.waiting i).mp this)).1
    · exact (s.trainQueueFull_own i .start).andThen ((State.withRetry_keeps _ _).mono (by decide))
  · exact .refl _ s

/-- A change of a train's state with the service of the start queue it may lead to. -/
theorem State.changeTrain_keeps {s : State} {i : Fin 8} {new : TrainState} {v : Int} {c : Cause}
    (hn : new ≠ .starting ∧ new ≠ .startWait)
    (hf : s.manifoldFollows → (new = .loading ∨ new = .loaded) → s.mayCarry i)
    (hs : s.tablesInRange → new = .loaded → (s.train i).present = true ∧ (s.train i).p.pMin ≤ v ∧ v ≤ (s.train i).p.pMax) :
    Keeps moved s (s.changeTrain i new v c) := by
  unfold State.changeTrain
  exact .ite (fun _ => (State.moveTrain_keeps hn hf hs).trans (State.serve_keeps _)) fun _ => State.moveTrain_keeps hn hf hs

/-- A change into a state in which a train neither starts nor carries. -/
theorem State.changeTrain_rests {s : State} {i : Fin 8} {new : TrainState} {v : Int} {c : Cause}
    (hn : (new ≠ .starting ∧ new ≠ .startWait) ∧ new ≠ .loading ∧ new ≠ .loaded) : Keeps moved s (s.changeTrain i new v c) :=
  State.changeTrain_keeps hn.1 (fun _ e => absurd e (by simp [hn.2])) fun _ e => absurd e hn.2.2

end Sys2Proof.Machine
end
section
/-!
PROOFS. What the orders, starts, reports and timers of the trains and of the converter keep (chapters 4 and 5).
-/

namespace Sys2Proof.Machine

/-! ## Orders -/

/-- Nothing but LOAD makes a train carry. -/
theorem Order.gives_rests {o : Order} {new : TrainState} (h : o.gives = some new) :
    (new ≠ .starting ∧ new ≠ .startWait) ∧ new ≠ .loaded ∧ (new = .loading → o = .load) := by
  cases o <;> cases h <;> decide

theorem State.takeOrder_keeps {s : State} {i : Fin 8} {o : Order} (h : o = .load → s.manifoldFollows → s.mayCarry i) :
    Keeps moved s (s.takeOrder i o) := by
  unfold State.takeOrder
  split
  case h_1 => exact .refl _ s
  case h_2 new hg =>
    obtain ⟨hn, hl, hload⟩ := Order.gives_rests hg
    refine .ite (fun _ => .refl _ s) fun _ => .ite (fun ho => ?_) fun _ => ?_
    · have cleared : Keeps moved s (s.setTrain i { s.train i with tripClear := false }) :=
        Keeps.mono (A := [.trains]) (State.setTrain_keeps rfl rfl rfl rfl) (by decide)
      refine Keeps.trans cleared (State.changeTrain_rests ⟨hn, fun e => ?_, hl⟩)
      rw [ho] at hload
      exact Order.noConfusion (hload e)
    · exact State.changeTrain_keeps hn (fun hf e => h (hload (e.resolve_right hl)) hf) fun _ e => absurd e hl

/-- Where the manifold takes a LOAD, an IDLE_RUN train may carry. -/
theorem State.mayCarry_of_loadCheck {s : State} {i : Fin 8} (h : s.manifold.loadCheck (s.train i).p.kind = none)
    (hf : (s.train i).state.flows = false) : s.mayCarry i := by
  unfold Manifold.loadCheck at h
  cases hm : s.manifold.state <;> simp only [hm] at h
  · exact .inr ⟨by rw [hm]; rfl, hf⟩
  · split at h
    case isTrue e => exact .inl (by rw [hm, e]; rfl)
    case isFalse => cases h
  · split at h
    case isTrue e => exact .inl (by rw [hm, e]; rfl)
    case isFalse => cases h
  · exact .inr ⟨by rw [hm]; rfl, hf⟩

theorem admission_load {st : TrainState} (h : admission st .load = none) : st = .idleRun := by
  cases st <;> first | rfl | cases h

/-- What LOAD's admission and further checks say of the manifold. -/
theorem State.mayCarry_of_load {s : State} {i : Fin 8} (ha : admission (s.train i).state .load = none)
    (hr : s.furtherRefusal i .load = none) : s.mayCarry i := by
  have hl : s.manifold.loadCheck (s.train i).p.kind = none := by
    simp only [State.furtherRefusal] at hr
    split at hr
    · cases hr
    · exact hr
  exact State.mayCarry_of_loadCheck hl (by rw [admission_load ha]; rfl)

theorem State.mayCarry_of_agree {s t : State} {A : List Aspect} (h : Agree A s t) (hA : Aspect.trains ∉ A ∧ Aspect.manifold ∉ A)
    {i : Fin 8} (k : s.mayCarry i) : t.mayCarry i := by
  have manifold : t.manifold = s.manifold := h .manifold hA.2
  unfold State.mayCarry
  rw [manifold, h.train hA.1]
  exact k

theorem State.originate_keeps (s : State) (i : Fin 8) (o : Order) : Keeps moved s (s.originate i o) := by
  unfold State.originate
  split
  case h_1 => exact .refl _ s
  case h_2 ha =>
    refine .ite (fun _ => .refl _ s) fun _ => .ite (fun _ => (s.trainQueueFull_own i o).keeps) fun room => ?_
    split
    case h_1 => exact .refl _ s
    case h_2 hr =>
      have placed := State.place_own (Bool.eq_true_of_not_eq_false room) (s.train i).p.node o 0
      refine placed.andThen (State.takeOrder_keeps ?_)
      rintro rfl -
      exact State.mayCarry_of_agree placed.agree (by decide) (State.mayCarry_of_load ha hr)

/-! ## Starts -/

/-- A slot joins the start queue and its train is START_WAIT. -/
theorem State.joinQueue_keeps {s : State} {i : Fin 8} {v : Int} {c : Cause} (hp : (s.train i).present = true)
    (hst : (s.train i).state ≠ .startWait ∧ (s.train i).state ≠ .starting) :
    Keeps moved s (State.moveTrain { s with conv := { s.conv with queue := s.conv.queue ++ [i] } } i .startWait v c) := by
  generalize hu : ({ s with conv := { s.conv with queue := s.conv.queue ++ [i] } } : State) = u
  have joined : Leaves [.conv] s u := hu ▸ s.withConv_leaves _
  have train (j : Fin 8) : u.train j = s.train j := joined.agree.train (by decide) j
  have queue : u.conv.queue = s.conv.queue ++ [i] := by rw [← hu]
  have state : u.conv.state = s.conv.state := by rw [← hu]
  refine ((joined.mono (by decide)).trans (State.moveTrain_leaves u i .startWait v c)).keeps (converter := .inr fun h => ?_)
    (follows := .inr fun h => ?_) (setpoints := .inr fun _ _ _ h => ?_)
  · have out : i ∉ s.conv.queue := fun k => hst.1 ((Train.isIn_iff _ _).mp ((h.waiting i).mp k)).2
    refine State.moveTrain_converter (by rw [train]; exact hst.1) ⟨fun j => ?_, ?_, fun j => ?_⟩
    · rw [State.recorded_isIn, State.recorded_convState, train, if_neg fun k => hst.2 k.1, state, h.busy, train]
      by_cases hj : j = i
      · subst hj
        simp [Train.isIn_iff, hst.2]
      · simp [hj]
    · rw [State.recorded_queue, train, if_neg hst.1, queue]
      exact List.nodup_append.mpr ⟨h.once, List.nodup_singleton i, fun a ha b hb => by
        rw [List.mem_singleton.mp hb]; rintro rfl; exact out ha⟩
    · rw [State.recorded_isIn, State.recorded_queue, train, if_neg hst.1, queue, train]
      by_cases hj : j = i
      · simp [hj, hp]
      · simp [hj, h.waiting]
  · exact State.moveTrain_follows (by simp) (hu ▸ h)
  · exact State.moveTrain_setpoints (by simp) (hu ▸ h)

theorem State.startQueued_keeps {s : State} {i : Fin 8} (hp : (s.train i).present = true)
    (hst : (s.train i).state ≠ .startWait ∧ (s.train i).state ≠ .starting) (n : Nat) : Keeps moved s (s.startQueued i n) :=
  (State.joinQueue_keeps hp hst).own (State.notify_own _ _ _ _)

theorem admission_start {st : TrainState} (h : admission st .start = none) : st = .standby := by
  cases st <;> first | rfl | cases h

theorem State.converterReady_iff (s : State) : s.converterReady = true ↔ s.conv.state = .free ∧ s.conv.queue = [] := by
  simp [State.converterReady]

theorem State.startNow_keeps {s : State} {i : Fin 8} (free : s.conv.state = .free) (hp : (s.train i).present = true) :
    Keeps moved s (s.startNow i) := State.start_keeps free fun _ => hp

theorem State.originateStart_keeps {s : State} {i : Fin 8} (hp : (s.train i).present = true) :
    Keeps moved s (s.originateStart i) := by
  unfold State.originateStart
  split
  case h_1 => exact .refl _ s
  case h_2 ha =>
    have standby := admission_start ha
    refine .ite (fun _ => (s.notify_own _ _ _).keeps) fun _ => .ite (fun ready => .ite (fun room => ?_) fun _ => ?_) fun _ => ?_
    · have placed := State.place_own room (s.train i).p.node .start 0
      have conv : (s.place (s.train i).p.node .start 0).conv = s.conv := placed.agree .conv (by decide)
      refine placed.andThen (State.startNow_keeps (by rw [conv, (s.converterReady_iff.mp ready).1]) ?_)
      rw [placed.agree.train (by decide)]; exact hp
    · exact (s.trainQueueFull_own i .start).keeps
    · exact State.startQueued_keeps hp (by rw [standby]; decide) 0

/-! ## Trip captures -/

theorem Train.capture_stack {t : Train} (r : Capture) (h : t.stack.length ≤ 2) : (t.capture r).stack.length ≤ 2 := by
  unfold Train.capture
  split <;> simp <;> omega

theorem Train.capture_same (t : Train) (r : Capture) :
    (t.capture r).p = t.p ∧ (t.capture r).state = t.state ∧ (t.capture r).setpoint = t.setpoint := by
  unfold Train.capture; split <;> exact ⟨rfl, rfl, rfl⟩

/-- A train record is replaced by one of the same parameters, state and setpoint, with a stack of at most two captures. -/
theorem State.setTrain_keeps_stacked {s : State} {i : Fin 8} {x : Train} (hp : x.p = (s.train i).p) (hst : x.state = (s.train i).state)
    (hsp : x.setpoint = (s.train i).setpoint) (hs : (s.train i).stack.length ≤ 2 → x.stack.length ≤ 2) :
    Keeps [.trains, .stacks] s (s.setTrain i x) := by
  have read (j : Fin 8) : ((s.setTrain i x).train j).p = (s.train j).p ∧ ((s.setTrain i x).train j).state = (s.train j).state ∧
      ((s.setTrain i x).train j).setpoint = (s.train j).setpoint := by
    rw [State.train_setTrain]
    split
    case isTrue e => rw [e]; exact ⟨hp, hst, hsp⟩
    case isFalse => exact ⟨rfl, rfl, rfl⟩
  have isIn (j : Fin 8) (st : TrainState) : ((s.setTrain i x).train j).isIn st = (s.train j).isIn st := by
    simp only [Train.isIn, Train.present, (read j).1, (read j).2.1]
  refine Leaves.keeps (.intro ?_ (captures := .inr fun h j => ?_)) (converter := .inr fun h => ?_) (follows := .inr fun h j => ?_)
    (setpoints := .inr fun _ _ _ h j => ?_)
  · intro a ha
    cases a <;> first | rfl | exact absurd (by decide) ha | skip
    exact funext fun j => (read j).1
  · rw [State.train_setTrain]
    split
    case isTrue e => exact hs (h i)
    case isFalse => exact h j
  · exact ⟨fun j => by rw [isIn]; exact h.busy j, h.once, fun j => by rw [isIn]; exact h.waiting j⟩
  · rw [isIn, isIn, (read j).1]; exact h j
  · rw [isIn, (read j).1, (read j).2.2]; exact h j

theorem State.trippedEvent_keeps (s : State) (i : Fin 8) (n : Nat) : Keeps (.stacks :: moved) s (s.trippedEvent i n) := by
  have tripped (b : Bool) : Keeps (.stacks :: moved) s (if b = true then s else s.changeTrain i .tripped 0 .report) :=
    .ite (fun _ => .refl _ s) fun _ => (State.changeTrain_rests (by decide)).mono (by decide)
  refine ((tripped _).trans (Keeps.mono (A := [.trains, .stacks]) (State.setTrain_keeps_stacked ?_ ?_ ?_ ?_) (by decide))).own
    (State.notify_own _ _ _ _)
  · exact (Train.capture_same _ _).1
  · exact (Train.capture_same _ _).2.1
  · exact (Train.capture_same _ _).2.2
  · exact Train.capture_stack _

/-! ## Adoption -/

theorem State.stateMismatch_own (s : State) (i : Fin 8) (held : TrainState) (code : Byte) : Own s (s.stateMismatch i held code) :=
  s.notify_own _ _ _

theorem State.adoptStarting_keeps {s : State} {i : Fin 8} (hp : (s.train i).present = true) (code : Byte) :
    Keeps moved s (s.adoptStarting i code) := by
  unfold State.adoptStarting
  refine .ite (fun free => ?_) fun _ => ?_
  · have started : Keeps moved s ((s.takeConverter i).moveTrain i .starting 0 .adoption) := State.start_keeps free fun _ => hp
    exact .ite (fun _ => started) fun _ => started.own (State.stateMismatch_own _ _ _ _)
  · have placed := s.placeOrFull_own i .abort
    refine Keeps.own (.ite (fun _ => placed.keeps) fun _ => ?_) (State.stateMismatch_own _ _ _ _)
    exact placed.andThen (State.changeTrain_rests (by decide))

theorem clampTo_mem {lo hi : Int} (h : lo ≤ hi) (x : Int) : lo ≤ clampTo lo hi x ∧ clampTo lo hi x ≤ hi := by
  unfold clampTo
  split <;> [skip; split] <;> constructor <;> omega

end Sys2Proof.Machine
end
section
/-!
PROOFS. What the reports of the trains, the valves and the converter keep, and the timers of the trains and the converter
(chapters 4 and 5).
-/

namespace Sys2Proof.Machine

/-! ## Adoption of a flow -/

theorem State.trainRange {s : State} {i : Fin 8} (h : s.tablesInRange) (hp : (s.train i).present = true) :
    0 ≤ (s.train i).p.pMin ∧ (s.train i).p.pMin ≤ (s.train i).p.pMax := by
  obtain ⟨-, lo, hi, -⟩ := trainParams_sound (h.trains i hp)
  exact ⟨lo, hi⟩

/-- A manifold that does not flow against a present train that is not unloading lets it carry. -/
theorem State.mayCarry_of_flowsAgainst {s : State} {i : Fin 8} (hp : (s.train i).present = true)
    (hu : (s.train i).state ≠ .unloading) (h : s.flowsAgainst (s.train i).p.kind = false) (hf : s.manifoldFollows) : s.mayCarry i := by
  unfold State.flowsAgainst at h
  split at h
  case h_1 e =>
    refine .inr ⟨e, ?_⟩
    by_contra flows
    have carries : (s.train i).carries := by
      rw [Train.carries_iff]
      refine ⟨hp, ?_⟩
      revert flows hu
      cases (s.train i).state <;> simp [TrainState.flows]
    have := hf i carries
    rw [e] at this
    exact Train.dir_ne_none hp this.symm
  case h_2 d e => exact .inl (by rw [e]; exact (bne_eq_false_iff_eq.mp h).symm)

theorem State.adoptFlow_keeps {s : State} {i : Fin 8} {new : TrainState} (hp : (s.train i).present = true)
    (hu : (s.train i).state ≠ .unloading) (hn : new ≠ .starting ∧ new ≠ .startWait) (power : Int) :
    Keeps moved s (s.adoptFlow i new power) := by
  unfold State.adoptFlow
  refine .ite (fun _ => ?_) fun against => ?_
  · exact (s.placeOrFull_own i .unload).andThen (State.changeTrain_rests (by decide))
  · refine State.changeTrain_keeps hn (fun hf _ => ?_) fun ht _ => ?_
    · exact State.mayCarry_of_flowsAgainst hp hu (Bool.eq_false_iff.mpr against) hf
    · exact ⟨hp, clampTo_mem (State.trainRange ht hp).2 power⟩

/-- Adoption; a train that unloads is never taken back into LOADING or LOADED, whose reports lag (R72). -/
theorem State.adopt_keeps {s : State} {i : Fin 8} {implied : TrainState} (hp : (s.train i).present = true)
    (hw : implied ≠ .startWait) (hu : (s.train i).state = .unloading → implied ≠ .loading ∧ implied ≠ .loaded) (code : Byte)
    (power : Int) : Keeps moved s (s.adopt i implied code power) := by
  have told {u : State} (held : TrainState) (h : Keeps moved s u) :
      Keeps moved s (if held = .unknown then u else u.stateMismatch i held code) :=
    .ite (fun _ => h) fun _ => h.own (u.stateMismatch_own i held code)
  have rests {st : TrainState} (h : (st ≠ .starting ∧ st ≠ .startWait) ∧ st ≠ .loading ∧ st ≠ .loaded) :
      Keeps moved s (s.changeTrain i st 0 .adoption) := State.changeTrain_rests h
  unfold State.adopt
  split
  case h_1 => exact State.adoptStarting_keeps hp code
  case h_2 => exact told _ (State.adoptFlow_keeps hp (fun e => (hu e).1 rfl) (by decide) power)
  case h_3 => exact told _ (State.adoptFlow_keeps hp (fun e => (hu e).2 rfl) (by decide) power)
  case h_4 hs hl hd => exact told _ (rests ⟨⟨hs, hw⟩, hl, hd⟩)

/-! ## Reports -/

theorem State.tripClearEvent_keeps (s : State) (i : Fin 8) (code : Byte) : Keeps moved s (s.tripClearEvent i code) := by
  have tripped : Keeps moved s (if (s.train i).state = .tripped then s else s.changeTrain i .tripped 0 .adoption) :=
    .ite (fun _ => .refl _ s) fun _ => State.changeTrain_rests (by decide)
  have seen (u : State) : Keeps moved u (u.setTrain i { u.train i with tripClear := true }) :=
    Keeps.mono (A := [.trains]) (State.setTrain_keeps rfl rfl rfl rfl) (by decide)
  unfold State.tripClearEvent
  exact .ite (fun _ => tripped.trans (seen _)) fun _ => (tripped.trans (seen _)).own (State.stateMismatch_own _ _ _ _)

theorem completion_rests {st new : TrainState} (h : st.completion = some new) :
    (new ≠ .starting ∧ new ≠ .startWait) ∧ new ≠ .loading ∧ (new = .loaded → st = .loading) := by
  cases st <;> cases h <;> decide

theorem State.stateReport_keeps {s : State} {i : Fin 8} {implied : TrainState} (hp : (s.train i).present = true)
    (hw : implied ≠ .startWait) (code : Byte) (power : Int) (before : Option Byte) :
    Keeps moved s (s.stateReport i implied code power before) := by
  have adopts (hu : (s.train i).state = .unloading → implied ≠ .loading ∧ implied ≠ .loaded) :
      Keeps moved s (s.adopt i implied code power) := State.adopt_keeps hp hw hu code power
  unfold State.stateReport
  refine .ite (fun _ => .ite (fun _ => .refl _ s) fun _ => (s.stateMismatch_own i .tripped code).keeps) fun _ =>
    .ite (fun unknown => adopts fun e => absurd (unknown.symm.trans e) (by decide)) fun _ => .ite (fun completes => ?_) fun _ =>
      .ite (fun _ => .refl _ s) fun stays => adopts fun e => ?_
  · obtain ⟨hn, hl, hd⟩ := completion_rests completes
    refine State.changeTrain_keeps hn (fun hf e => .inl ?_) fun ht _ => ?_
    · exact hf i ((Train.carries_iff _).mpr ⟨hp, .inl (hd (e.resolve_left hl))⟩)
    · exact ⟨hp, le_refl _, (State.trainRange ht hp).2⟩
  · rw [e] at stays
    exact ⟨fun h => stays (.inr (by rw [h]; decide)), fun h => stays (.inr (by rw [h]; decide))⟩

/-- A report of a train never implies START_WAIT, which is the record's own. -/
def TrainReport.ofController (r : TrainReport) : Prop := r.implied ≠ .startWait

theorem State.trainReport_keeps {s : State} {i : Fin 8} (hp : (s.train i).present = true) {r : TrainReport} (hr : r.ofController)
    (b : StatusBody) : Keeps (.stacks :: moved) s (s.trainReport i b r) := by
  have last (x : Option LastReport) : Keeps (.stacks :: moved) s (s.setTrain i { s.train i with lastReport := x }) :=
    Keeps.mono (A := [.trains]) (State.setTrain_keeps rfl rfl rfl rfl) (by decide)
  have present (x : Option LastReport) : ((s.setTrain i { s.train i with lastReport := x }).train i).present = true := by
    rw [State.train_setTrain_same]; exact hp
  unfold State.trainReport
  split
  · exact (last _).trans (State.trippedEvent_keeps _ i _)
  · exact (last _).trans ((State.tripClearEvent_keeps _ i _).mono (by decide))
  · exact (last _).trans ((State.stateReport_keeps (present _) hr _ _ _).mono (by decide))

/-! ## Timers and the converter -/

theorem fallback_rests {st : TrainState} {x : Order × TrainState × NoticeName} (h : st.fallback = some x) :
    (x.2.1 ≠ .starting ∧ x.2.1 ≠ .startWait) ∧ x.2.1 ≠ .loading ∧ x.2.1 ≠ .loaded := by
  cases st <;> cases h <;> decide

theorem State.sequenceExpired_keeps (s : State) (i : Fin 8) : Keeps moved s (s.sequenceExpired i) := by
  have timer (d : Option Nat) : Keeps moved s (s.setTrain i { s.train i with timer := d }) :=
    Keeps.mono (A := [.trains]) (State.setTrain_keeps rfl rfl rfl rfl) (by decide)
  rcases hfb : (s.train i).state.fallback with _ | ⟨o, new, name⟩
  · simp only [State.sequenceExpired, hfb]
    exact timer none
  · simp only [State.sequenceExpired, hfb]
    refine .ite (fun room => ?_) fun _ => (timer _).own (State.trainQueueFull_own _ i o)
    exact ((State.place_own room _ o 0).andThen (State.changeTrain_rests (fallback_rests hfb))).own (State.notify_own _ _ _ _)

/-- A converter that serves no slot changes its record, its start queue apart. -/
theorem State.withConv_keeps {s : State} {c : Converter} (hq : c.queue = s.conv.queue)
    (hs : s.converterSound → ∀ i, c.state = .busy i ↔ s.conv.state = .busy i) : Keeps [.conv] s { s with conv := c } := by
  refine (s.withConv_leaves c).keeps (converter := .inr fun h => ⟨fun i => (hs h i).trans (h.busy i), ?_, fun i => ?_⟩)
  · exact hq ▸ h.once
  · exact (by rw [hq] : i ∈ c.queue ↔ i ∈ s.conv.queue).trans (h.waiting i)

/-- A FAULT releases the train the converter started: it is STANDBY, and the converter stays in FAULT. -/
theorem State.faulted_keeps {s u : State} {i : Fin 8} {c : Converter} {v : Cause} (hb : s.conv.state = .busy i)
    (hq : c.queue = s.conv.queue) (hc : c.state = .fault) (h : Own { s with conv := c } u) :
    Keeps moved s (u.changeTrain i .standby 0 v) := by
  have conv : u.conv = c := h.agree .conv (by decide)
  have train (j : Fin 8) : u.train j = s.train j := h.agree.train (by decide) j
  have move : Keeps moved s (u.moveTrain i .standby 0 v) := by
    have leaves : Leaves moved s (u.moveTrain i .standby 0 v) :=
      (((s.withConv_leaves c).own h).mono (by decide)).trans (State.moveTrain_leaves u i .standby 0 v)
    refine leaves.keeps (converter := .inr fun hs => ?_) (follows := .inr fun hs => ?_) (setpoints := .inr fun _ _ _ hs => ?_)
    · have starting : (s.train i).state = .starting := ((Train.isIn_iff _ _).mp ((hs.busy i).mp hb)).2
      refine State.moveTrain_converter (by rw [train, starting]; decide) ⟨fun j => ?_, ?_, fun j => ?_⟩
      · rw [State.recorded_isIn, State.recorded_convState, conv, hc, if_neg fun k => ConvState.noConfusion k.2, train, train,
          ← hs.busy, hb]
        rcases eq_or_ne j i with rfl | hj
        · simp
        · simp [hj, hj.symm]
      · exact State.recorded_once (by rw [conv, hq]; exact hs.once) i _ _
      · rw [State.mem_recorded_queue (by rw [conv, hq]; exact hs.once) (fun k => by rw [conv, hq, train]; exact hs.waiting k),
          State.recorded_isIn]
        simp
    · exact State.moveTrain_follows (by simp) ((h.keeps (A := [])).follows hs)
    · refine State.moveTrain_setpoints (by simp) ?_
      intro j
      have disp : u.disp = s.disp := h.agree .disp (by decide)
      rw [disp, train]; exact hs j
  unfold State.changeTrain
  exact .ite (fun _ => move.trans (State.serve_keeps _)) fun _ => move

/-- The converter record once FAULT is reported (R94). -/
def Converter.faulted (c : Converter) : Converter := { c with state := .fault, cooldown := none, retry := none, faults := c.faults + 1 }

/-- CONVERTER_FAULT raised by a converter that served a slot or none. -/
def State.faultReported (s : State) : State :=
  State.notify { s with conv := s.conv.faulted } .converterFault .none
    [.code s.conv.state.num, match s.conv.state.slot with | none => .none | some i => .fig i.val]

theorem State.converterFault_busy {s : State} {i : Fin 8} (h : s.conv.state = .busy i) :
    s.converterFault = ((s.faultReported.placeOrFull i .abort).changeTrain i .standby 0 .order).notify .startFailed (.train i)
      [.fig i.val, .code TrainState.starting.num] := by
  unfold State.converterFault State.faultReported Converter.faulted
  simp only [h, reduceCtorEq, if_false] <;> rfl

theorem State.converterFault_unbusy {s : State} (hf : s.conv.state ≠ .fault) (hb : ∀ i, s.conv.state ≠ .busy i) :
    s.converterFault = s.faultReported := by
  unfold State.converterFault State.faultReported Converter.faulted
  rcases h : s.conv.state with _ | i | _ | _
  case busy => exact absurd h (hb i)
  case fault => exact absurd h hf
  all_goals simp only [reduceCtorEq, if_false] <;> rfl

theorem State.faultReported_own (s : State) : Own { s with conv := s.conv.faulted } s.faultReported := State.notify_own _ _ _ _

theorem State.converterFault_keeps (s : State) : Keeps moved s s.converterFault := by
  by_cases hf : s.conv.state = .fault
  · rw [State.converterFault, if_pos hf]; exact .refl _ s
  by_cases hb : ∃ i, s.conv.state = .busy i
  · obtain ⟨i, hi⟩ := hb
    rw [State.converterFault_busy hi]
    exact (State.faulted_keeps (c := s.conv.faulted) hi rfl rfl (s.faultReported_own.trans (State.placeOrFull_own _ i .abort))).own
      (State.notify_own _ _ _ _)
  · rw [State.converterFault_unbusy hf fun i e => hb ⟨i, e⟩]
    refine Keeps.own (Keeps.mono (A := [.conv]) (State.withConv_keeps (c := s.conv.faulted) rfl fun _ i => ?_) (by decide))
      s.faultReported_own
    exact ⟨fun e => ConvState.noConfusion e, fun e => absurd ⟨i, e⟩ hb⟩

theorem State.converterAvailable_keeps (s : State) : Keeps moved s s.converterAvailable := by
  unfold State.converterAvailable
  refine .ite (fun hf => ?_) fun _ => .refl _ s
  have freed : Keeps [.conv] s { s with conv := { s.conv with state := .free } } :=
    State.withConv_keeps rfl fun _ i => by simp [hf]
  exact ((freed.mono (by decide)).own (State.notify_own _ _ _ _)).trans (State.serve_keeps _)

theorem State.cooldownExpired_keeps (s : State) : Keeps moved s s.cooldownExpired := by
  unfold State.cooldownExpired
  refine .ite (fun hf => ?_) fun _ => ?_
  · have freed : Keeps [.conv] s { s with conv := { s.conv with state := .free, cooldown := none } } :=
      State.withConv_keeps rfl fun _ i => by simp [hf]
    exact (freed.mono (by decide)).trans (State.serve_keeps _)
  · exact Keeps.mono (A := [.conv]) (State.withConv_keeps rfl fun _ i => Iff.rfl) (by decide)

theorem State.retryExpired_keeps (s : State) : Keeps moved s s.retryExpired :=
  ((s.withRetry_keeps none).mono (by decide)).trans (State.serve_keeps _)

/-! ## STATUS frames -/

theorem State.trainAt_present {s : State} {n : Nat} {i : Fin 8} (h : s.trainAt n = some i) : (s.train i).present = true := by
  have := List.find?_some h
  simp only [Bool.and_eq_true] at this
  exact this.1

theorem trainReportOf_ofController {k c : Byte} {r : TrainReport} (h : trainReportOf k c = some r) : r.ofController := by
  unfold trainReportOf at h
  split at h
  · obtain ⟨st, hst, rfl⟩ := Option.map_eq_some_iff.mp h
    unfold trainStateOf at hst
    split at hst <;> cases hst <;> simp [TrainReport.ofController, TrainReport.implied]
  · split at h
    · obtain ⟨e, -, rfl⟩ := Option.map_eq_some_iff.mp h
      cases e <;> simp [TrainReport.ofController, TrainReport.implied]
    · cases h

theorem State.statusToTrain_keeps (s : State) (n : Nat) (b : StatusBody) : Keeps (.stacks :: moved) s (s.statusToTrain n b) := by
  unfold State.statusToTrain
  split
  · rename_i i r hi hr
    exact State.trainReport_keeps (State.trainAt_present hi) (trainReportOf_ofController hr) b
  · exact .refl _ s

theorem State.statusToCavern_keeps (s : State) (n : Nat) (b : StatusBody) : Keeps [.caverns] s (s.statusToCavern n b) := by
  unfold State.statusToCavern
  split
  · exact s.valveReport_keeps _ _
  · exact .refl _ s

theorem State.statusToConverter_keeps (s : State) (n : Nat) (b : StatusBody) : Keeps moved s (s.statusToConverter n b) := by
  unfold State.statusToConverter
  refine .ite (fun _ => ?_) fun _ => .refl _ s
  split
  · exact s.converterFault_keeps
  · exact s.converterAvailable_keeps
  · exact .refl _ s

theorem State.tapStatus_keeps (s : State) (f : Frame) : Keeps (.stacks :: moved) s (s.tapStatus f) := by
  unfold State.tapStatus
  split
  · exact .refl _ s
  · exact ((s.statusToTrain_keeps _ _).trans ((State.statusToCavern_keeps _ _ _).mono (by decide))).trans
      ((State.statusToConverter_keeps _ _ _).mono (by decide))

end Sys2Proof.Machine
end
section
/-!
PROOFS. What the stores, the dispatch mode and the schedule keep (chapters 3, 6 and 8).
-/

namespace Sys2Proof.Machine

/-! ## Stores -/

theorem State.store_setStore (s : State) (m n : Fin 3) (x : Store) : (s.setStore m x).store n = if n = m then x else s.store n := by
  split
  case isTrue h => rw [h, State.store_setStore_same]
  case isFalse h => exact State.store_setStore_other s m n x (Ne.symm h)

/-- A store's two factors lie from 0 to 1000 (R52). -/
def Store.bounded (x : Store) : Prop := isFactor x.gen ∧ isFactor x.absorb

theorem Store.recomputed_p (x : Store) : x.recomputed.p = x.p := rfl

theorem Store.recomputed_bounded (x : Store) : x.recomputed.bounded := by
  have zero : isFactor 0 := ⟨le_refl _, by norm_num⟩
  constructor <;> simp only [Store.recomputed] <;> split <;> [exact zero; exact perMille_isFactor _ _; exact zero;
    exact perMille_isFactor _ _]

theorem Store.emptied_bounded (x : Store) : x.emptied.bounded := ⟨⟨le_refl _, by norm_num [Store.emptied]⟩, ⟨le_refl _, by norm_num [Store.emptied]⟩⟩

/-- A store record is replaced by one of the same parameters. -/
theorem State.setStore_keeps {s : State} {m : Fin 3} {x : Store} (hp : x.p = (s.store m).p) (hf : x.bounded) :
    Keeps [.stores] s (s.setStore m x) := by
  refine Leaves.keeps (.intro ?_ (factors := .inr fun h => ⟨h.caverns, fun n => ?_⟩))
  · intro a ha
    cases a <;> first | rfl | exact absurd (by decide) ha | skip
    funext n
    simp only [Aspect.read, State.store_setStore]
    split
    case isTrue e => rw [e, hp]
    case isFalse => rfl
  · rw [State.store_setStore]
    split
    case isTrue => exact hf
    case isFalse => exact h.stores n

theorem State.storeNotice_own (s : State) (m : Fin 3) (q : StoreQuality) : Own s (s.storeNotice m q) := by
  unfold State.storeNotice
  exact .ite (fun _ => .refl s) fun _ => s.notifyAs_own _ _ _ _

theorem State.layerEvent_keeps (s : State) (n : Nat) (v : View) (m : Fin 3) : Keeps [.stores] s (s.layerEvent n v m) := by
  unfold State.layerEvent
  refine .ite (fun _ => ?_) fun _ => .refl _ s
  refine Keeps.own ?_ (State.storeNotice_own _ _ _)
  exact State.setStore_keeps rfl (Store.recomputed_bounded _)

theorem State.heatCheck_own (s : State) (k : Nat) (net : Int) : Own s (s.heatCheck k net) := by
  unfold State.heatCheck
  exact .ite (fun _ => s.notify_own _ _ _) fun _ => .refl s

/-! ## The dispatch mode -/

/-- What a change of the dispatch mode may touch. -/
abbrev moded : List Aspect := [.mode, .disp, .sets, .commit, .caverns, .mgr]

theorem State.editQuiet_keeps (s : State) : Keeps [.mgr] s s.editQuiet := by
  refine Leaves.keeps (.intro fun a ha => ?_)
  cases a <;> first | rfl | exact absurd (by decide) ha

theorem State.withMode_keeps (s : State) (m : ModeRecord) : Keeps [.mode] s { s with mode := m } := by
  refine Leaves.keeps (.intro fun a ha => ?_)
  cases a <;> first | rfl | exact absurd (by decide) ha

theorem State.clearStop_keeps (s : State) : Keeps [.commit] s s.clearStop := by
  refine Leaves.keeps (.intro fun a ha => ?_)
  cases a <;> first | rfl | exact absurd (by decide) ha

/-- The parameter sets of the dispatch engine are changed among themselves. -/
theorem State.withSets_keeps {s : State} {d : Dispatch} (ht : d.tracks = s.disp.tracks) (hl : d.last = s.disp.last)
    (hd : s.tablesInRange → dispatchParams d.active.toWords = some d.active ∧ dispatchParams d.next.toWords = some d.next) :
    Keeps [.disp, .sets] s { s with disp := d } := by
  refine Leaves.keeps (.intro ?_ (tables := .inr fun h => ?_)) (setpoints := .inr fun _ _ _ h i => ?_)
  · intro a ha
    cases a <;> first | rfl | exact absurd (by decide) ha | skip
    exact hl
  · exact ⟨h.plant, (hd h).1, (hd h).2, h.chans, h.caverns, h.stores, h.trains⟩
  · exact ht ▸ h i

theorem State.adoptSet_keeps (s : State) (n : Word) : Keeps [.disp, .sets, .mgr] s (s.adoptSet n) := by
  have adopted : Keeps [.disp, .sets] s { s with disp := { s.disp with active := s.disp.next, swap := false } } :=
    State.withSets_keeps rfl rfl fun h => ⟨h.next, h.next⟩
  exact (adopted.comp (State.editQuiet_keeps _)).own (State.notify_own _ _ _ _)

/-- A change of the dispatch record that leaves the parameter sets and the last record; the tracks lie where they have to. -/
theorem State.withDisp_keeps {s : State} {d : Dispatch}
    (hd : d.active = s.disp.active ∧ d.next = s.disp.next ∧ d.swap = s.disp.swap ∧ d.last = s.disp.last)
    (ht : s.setpointsInRange → ({ s with disp := d } : State).setpointsInRange) : Keeps [.disp] s { s with disp := d } := by
  obtain ⟨ha, hn, hs, hl⟩ := hd
  refine Leaves.keeps (.intro ?_) (setpoints := .inr fun _ _ _ h => ht h)
  intro a h
  cases a <;> first | rfl | exact absurd (by decide) h | exact hl | skip
  simp only [Aspect.read, ha, hn, hs]

theorem State.tracksAfresh_keeps (s : State) : Keeps [.disp] s s.tracksAfresh := by
  refine State.withDisp_keeps ⟨rfl, rfl, rfl, rfl⟩ fun h i => ?_
  have track : s.tracksAfresh.disp.tracks.get i = if (s.train i).present then (s.train i).setpoint else 0 := by
    simp only [State.tracksAfresh, State.train, Vector.get_eq_getElem, Vector.getElem_map]
    congr
  have := h i
  change if (s.train i).isIn .loaded = true then (_ ∧ _) ∧ _ ≤ s.tracksAfresh.disp.tracks.get i ∧ s.tracksAfresh.disp.tracks.get i ≤ _
    else _ ∧ s.tracksAfresh.disp.tracks.get i = 0
  rw [track]
  split at this
  case isTrue hl =>
    rw [if_pos hl, if_pos ((Train.isIn_iff _ _).mp hl).1]
    exact ⟨this.1, this.1⟩
  case isFalse hl =>
    rw [if_neg hl]
    exact ⟨this.1, by split <;> [exact this.1; rfl]⟩

/-- The new mode with its notice MODE_CHANGE. -/
def State.modeNoticed (s : State) (new : Mode) (cause : Nat) : State :=
  State.notify { s with mode := { s.mode with mode := new } } .modeChange .none
    [.code s.mode.mode.num, .code new.num, .code ({ s.mode with mode := new } : ModeRecord).causes, .code cause]

/-- A change to OFF adopts a marked parameter set. -/
def State.modeAdopts (s : State) (new : Mode) : State := if new = .off ∧ s.disp.swap then s.adoptSet 0 else s

/-- A change from OFF or MANUAL to AUTO or HOLD starts the tracks afresh. -/
def State.modeTracks (s : State) (old new : Mode) : State :=
  if old.dispatches = false ∧ new.dispatches = true then s.tracksAfresh else s

/-- A change out of AUTO clears the commitment state. -/
def State.modeStops (s : State) (old : Mode) : State := if old = .auto then s.clearStop else s

/-- A change to AUTO evaluates every cavern for reopening. -/
def State.modeReopens (s : State) (new : Mode) : State := if new = .auto then s.reopenAll else s

theorem State.setMode_same {s : State} {new : Mode} (h : s.mode.mode = new) (n : Nat) : s.setMode new n = s := if_pos h

/-- The effects of a change of mode, one after the other. -/
theorem State.setMode_eq {s : State} {new : Mode} (h : s.mode.mode ≠ new) (n : Nat) :
    s.setMode new n =
      ((((s.modeNoticed new n).modeAdopts new).modeTracks s.mode.mode new).modeStops s.mode.mode).modeReopens new := if_neg h

theorem State.modeNoticed_keeps (s : State) (new : Mode) (n : Nat) : Keeps [.mode] s (s.modeNoticed new n) :=
  (s.withMode_keeps _).own (State.notify_own _ _ _ _)

theorem State.modeAdopts_keeps (s : State) (new : Mode) : Keeps [.disp, .sets, .mgr] s (s.modeAdopts new) :=
  .ite (fun _ => s.adoptSet_keeps 0) fun _ => .refl _ s

theorem State.modeTracks_keeps (s : State) (old new : Mode) : Keeps [.disp] s (s.modeTracks old new) :=
  .ite (fun _ => s.tracksAfresh_keeps) fun _ => .refl _ s

theorem State.modeStops_keeps (s : State) (old : Mode) : Keeps [.commit] s (s.modeStops old) :=
  .ite (fun _ => s.clearStop_keeps) fun _ => .refl _ s

theorem State.modeReopens_keeps (s : State) (new : Mode) : Keeps [.caverns] s (s.modeReopens new) :=
  .ite (fun _ => s.reopenAll_keeps) fun _ => .refl _ s

/-- What follows the new mode and its notice leaves the mode. -/
theorem State.setMode_keeps_after {s : State} {new : Mode} (h : s.mode.mode ≠ new) (n : Nat) :
    Keeps [.disp, .sets, .commit, .caverns, .mgr] (s.modeNoticed new n) (s.setMode new n) := by
  rw [State.setMode_eq h]
  exact ((((State.modeAdopts_keeps _ _).mono (by decide)).trans ((State.modeTracks_keeps _ _ _).mono (by decide))).trans
    ((State.modeStops_keeps _ _).mono (by decide))).trans ((State.modeReopens_keeps _ _).mono (by decide))

theorem State.setMode_keeps (s : State) (m : Mode) (n : Nat) : Keeps moded s (s.setMode m n) := by
  by_cases h : s.mode.mode = m
  · rw [State.setMode_same h]; exact .refl _ s
  · exact (s.modeNoticed_keeps m n).comp (State.setMode_keeps_after h n)

theorem State.answerCauses_keeps (s : State) : Keeps moded s s.answerCauses := by
  unfold State.answerCauses
  exact .ite (fun _ => s.setMode_keeps _ _) fun _ => .ite (fun _ => s.setMode_keeps _ _) fun _ => .refl _ s

theorem State.causeConfig_keeps (s : State) (b : Bool) : Keeps moded s (s.causeConfig b) := by
  unfold State.causeConfig
  exact .ite (fun _ => .refl _ s) fun _ => ((s.withMode_keeps _).mono (by decide)).trans (State.answerCauses_keeps _)

theorem State.causeRing_keeps (s : State) (b : Bool) : Keeps moded s (s.causeRing b) := by
  unfold State.causeRing
  exact .ite (fun _ => .refl _ s) fun _ => ((s.withMode_keeps _).mono (by decide)).trans (State.answerCauses_keeps _)

theorem State.causeClock_keeps (s : State) (b : Bool) : Keeps moded s (s.causeClock b) := by
  unfold State.causeClock
  exact .ite (fun _ => .refl _ s) fun _ => ((s.withMode_keeps _).mono (by decide)).trans (State.answerCauses_keeps _)

theorem State.requestMode_keeps (s : State) (n : Nat) : Keeps moded s (s.requestMode n).2 := by
  unfold State.requestMode
  split
  · exact s.setMode_keeps _ _
  · exact s.setMode_keeps _ _
  · split
    · exact .refl _ s
    · exact s.setMode_keeps _ _
  · exact .refl _ s

theorem State.swapTaken_keeps (s : State) : Keeps [.disp, .sets, .mgr] s s.swapTaken := by
  have set : Keeps [.disp, .sets] s { s with disp := { s.disp with swap := true } } :=
    State.withSets_keeps rfl rfl fun h => ⟨h.active, h.next⟩
  have marked : Keeps [.disp, .sets, .mgr] s (State.editQuiet { s with disp := { s.disp with swap := true } }) :=
    set.comp (State.editQuiet_keeps _)
  unfold State.swapTaken
  exact .ite (fun _ => marked.trans (State.adoptSet_keeps _ 0)) fun _ => marked

/-! ## The ring's continuity and the check -/

/-- What a change of a hold cause may touch, its own block apart. -/
abbrev ringed : List Aspect := .continuity :: moded

theorem State.withRing_keeps {s : State} {r : Ring} (hb : r.balance = s.ring.balance) (hr : RingBounded s.ring s.rep → RingBounded r s.rep)
    (hp : r.sending = s.ring.sending ∧ r.forward = s.ring.forward ∧ r.orders = s.ring.orders) :
    Keeps [.continuity] s { s with ring := r } := by
  obtain ⟨hs, hf, ho⟩ := hp
  refine Leaves.keeps (.intro ?_ hr ?_)
  · intro a ha
    cases a <;> first | rfl | exact absurd (by decide) ha | exact hb
  · intro h
    unfold State.portSound at h ⊢
    simp only [hs, hf, ho]
    exact h

theorem State.returnExpired_keeps (s : State) : Keeps ringed s s.returnExpired := by
  have stopped : Keeps ringed s { s with ring := { s.ring with watch := none } } :=
    Keeps.mono (A := [.continuity]) (State.withRing_keeps rfl
      (fun h => ⟨h.forward, h.orders, h.reports, h.notices, h.returns, h.run⟩) ⟨rfl, rfl, rfl⟩) (by decide)
  unfold State.returnExpired
  simp only
  split
  · exact stopped
  · exact stopped
  · refine Keeps.trans ?_ ((State.causeRing_keeps _ true).mono (by decide))
    refine Keeps.own ?_ (State.notify_own _ _ _ _)
    refine Keeps.mono (A := [.continuity]) (State.withRing_keeps rfl ?_ ⟨rfl, rfl, rfl⟩) (by decide)
    exact fun h => ⟨h.forward, h.orders, h.reports, h.notices, h.returns, h.run⟩

theorem returnedRest_length {q : SeqNo} {l rest : List Return} (h : returnedRest q l = some rest) : rest.length ≤ l.length := by
  induction l with
  | nil => cases h
  | cons e l ih =>
    unfold returnedRest at h
    split at h
    · rw [← Option.some.inj h]; simp
    · exact (ih h).trans (by simp)

theorem State.returned_keeps (s : State) (q : SeqNo) : Keeps ringed s (s.returned q) := by
  unfold State.returned
  split
  case h_1 => exact .refl _ s
  case h_2 rest hq =>
    have closed : Keeps ringed s { s with ring := { s.ring with returns := rest, watch := watchFor s.plant.returnTimeout rest
                                                                continuity := .ringClosed } } := by
      refine Keeps.mono (A := [.continuity]) (State.withRing_keeps rfl (fun h => ?_) ⟨rfl, rfl, rfl⟩) (by decide)
      exact ⟨h.forward, h.orders, h.reports, h.notices, (returnedRest_length hq).trans h.returns, h.run⟩
    refine .ite (fun _ => closed) fun _ => ?_
    refine .ite (fun _ => ?_) fun _ => closed.own (State.notify_own _ _ _ _)
    exact (closed.own (State.notify_own _ _ _ _)).trans ((State.causeRing_keeps _ false).mono (by decide))

theorem State.withMgr_keeps (s : State) (m : Manager) : Keeps [.mgr, .check] s { s with mgr := m } := by
  refine Leaves.keeps (.intro fun a ha => ?_)
  cases a <;> first | rfl | exact absurd (by decide) ha

/-- What a pass of the configuration check may touch. -/
abbrev passed : List Aspect := .check :: moded

theorem State.configPass_keeps (s : State) : Keeps passed s s.configPass := by
  unfold State.configPass
  refine .ite (fun _ => .refl _ s) fun _ => ?_
  have summed (m : Manager) : Keeps passed s { s with mgr := m } := (s.withMgr_keeps m).mono (by decide)
  refine .ite (fun _ => summed _) fun _ => .ite (fun _ => ?_) fun _ => ?_
  · exact ((summed _).own (State.notify_own _ _ _ _)).trans (Keeps.mono (B := passed) (State.causeConfig_keeps _ false) (by decide))
  · exact ((summed _).own (State.notify_own _ _ _ _)).trans (Keeps.mono (B := passed) (State.causeConfig_keeps _ true) (by decide))

theorem State.periodExpired_keeps (s : State) : Keeps passed s s.periodExpired :=
  ((s.withMgr_keeps _).mono (by decide)).trans (State.configPass_keeps _)

/-! ## The schedule -/

theorem State.withSched_keeps (s : State) (x : Schedule) : Keeps [.sched, .table] s { s with sched := x } := by
  refine Leaves.keeps (.intro fun a ha => ?_)
  cases a <;> first | rfl | exact absurd (by decide) ha

/-- A change of the schedule that leaves its table. -/
theorem State.withSched_table {s : State} {x : Schedule} (h : x.table = s.sched.table) : Keeps [.sched] s { s with sched := x } := by
  refine Leaves.keeps (.intro fun a ha => ?_)
  cases a <;> first | rfl | exact absurd (by decide) ha | exact h

theorem State.withClock_keeps (s : State) (c : Clock) : Keeps [.clock, .clockState] s { s with clock := c } := by
  refine Leaves.keeps (.intro fun a ha => ?_)
  cases a <;> first | rfl | exact absurd (by decide) ha

/-- A change of the clock that leaves its state. -/
theorem State.withClock_state {s : State} {c : Clock} (h : c.state = s.clock.state) : Keeps [.clock] s { s with clock := c } := by
  refine Leaves.keeps (.intro fun a ha => ?_)
  cases a <;> first | rfl | exact absurd (by decide) ha | exact h

theorem State.activate_keeps (s : State) (j : Nat) : Keeps [.sched, .table] s (s.activate j) := by
  unfold State.activate
  split
  · exact s.withSched_keeps _
  · exact (s.withSched_keeps _).own (State.notify_own _ _ _ _)

theorem State.takeBoundary_keeps (s : State) (k : Nat) : Keeps [.sched, .table] s (s.takeBoundary k) :=
  ((((s.withSched_keeps _).trans (State.activate_keeps _ k)).trans (State.withSched_keeps _ _)).own
    (State.airCheck_own _ k _)).own (State.heatCheck_own _ k _)

theorem State.judgeRamp_keeps (s : State) : Keeps [.sched] s s.judgeRamp := by
  unfold State.judgeRamp
  split
  · exact .refl _ s
  · exact .ite (fun _ => State.withSched_table rfl) fun _ => .refl _ s

theorem State.takeBoundaries_keeps (n k : Nat) (s : State) : Keeps [.sched, .table] s (State.takeBoundaries n k s) := by
  induction n generalizing k s with
  | zero => exact .refl _ s
  | succ n ih => exact (s.takeBoundary_keeps k).trans (ih (k + 1) _)

theorem State.boundary_keeps (s : State) : Keeps [.sched, .table] s s.boundary :=
  (s.takeBoundary_keeps _).comp (State.judgeRamp_keeps _)

theorem State.firstMark_keeps (s : State) (ms : Nat) : Keeps [.clock, .clockState, .sched, .table] s (s.firstMark ms) := by
  unfold State.firstMark
  refine Keeps.own (Keeps.trans ?_ ((State.withSched_keeps _ _).mono (by decide))) (State.notify_own _ _ _ _)
  refine Keeps.trans ?_ ((State.activate_keeps _ _).mono (by decide))
  refine Keeps.trans ?_ ((State.withSched_keeps _ _).mono (by decide))
  exact (s.withClock_keeps _).mono (by decide)

theorem State.stepClock_keeps (s : State) (ms : Nat) : Keeps [.clock, .sched, .table] s (s.stepClock ms) :=
  ((State.withClock_state (s := s) (c := { s.clock with plantMs := ms }) rfl).comp (State.takeBoundaries_keeps _ _ _)).trans
    ((State.judgeRamp_keeps _).mono (by decide))

/-- What a time mark may touch. -/
abbrev timed : List Aspect := [.clock, .clockState, .sched, .table, .mode, .disp, .sets, .commit, .caverns, .mgr]

theorem State.marked_keeps (s : State) : Keeps (.clock :: .clockState :: moded) s s.marked := by
  unfold State.marked
  refine .ite (fun _ => ?_) fun _ => (s.withClock_keeps _).mono (by decide)
  refine (Keeps.own (Keeps.mono (A := [.clock, .clockState]) ?_ (by decide)) (State.notify_own _ _ _ _)).trans
    ((State.causeClock_keeps _ false).mono (by decide))
  exact (s.withClock_keeps _)

theorem State.timeTaken_keeps (s : State) (sec milli : Nat) : Keeps timed s (s.timeTaken sec milli).2 := by
  have mark (u : State) : Keeps timed u u.marked := u.marked_keeps.mono (by decide)
  unfold State.timeTaken
  split
  · exact .refl _ s
  · split
    · exact (s.firstMark_keeps _).mono (by decide)
    · split
      · exact mark s
      · exact ((s.stepClock_keeps _).mono (by decide)).trans (mark _)

theorem State.markExpired_keeps (s : State) : Keeps (.clock :: .clockState :: moded) s s.markExpired := by
  unfold State.markExpired
  refine .ite (fun _ => ?_) fun _ => (s.withClock_keeps _).mono (by decide)
  refine (Keeps.own (Keeps.mono (A := [.clock, .clockState]) ?_ (by decide)) (State.notify_own _ _ _ _)).trans
    ((State.causeClock_keeps _ true).mono (by decide))
  exact (s.withClock_keeps _)

theorem State.takeEntry_keeps (s : State) (e : RawEntry) : Keeps [.sched, .table] s (s.takeEntry e).2 := by
  unfold State.takeEntry
  split
  · exact .refl _ s
  · exact s.withSched_keeps _

theorem State.takeEntries_keeps (l : List RawEntry) (s : State) : Keeps [.sched, .table] s (State.takeEntries l s).2 := by
  induction l generalizing s with
  | nil => exact .refl _ s
  | cons e l ih => exact (s.takeEntry_keeps e).trans (ih _)

theorem State.trimTaken_keeps (s : State) (v : Int) : Keeps [.sched] s (s.trimTaken v).2 := by
  unfold State.trimTaken
  split
  · exact .refl _ s
  · exact State.withSched_table rfl

theorem State.rampAfresh_keeps (s : State) : Keeps [.sched] s s.rampAfresh :=
  (State.withSched_table (by rfl)).trans (State.judgeRamp_keeps _)

theorem State.scheduleAfterPlant_keeps (s : State) (old : PlantTable) : Keeps [.sched, .table] s (s.scheduleAfterPlant old) := by
  unfold State.scheduleAfterPlant
  refine .ite (fun _ => .refl _ s) fun _ => .ite (fun _ => ?_) fun _ => s.rampAfresh_keeps.mono (by decide)
  exact (s.withSched_keeps _).own (State.notify_own _ _ _ _)

end Sys2Proof.Machine
end
section
/-!
PROOFS. The shares of a target (R128): O23.
-/

namespace Sys2Proof.Machine

@[simp] theorem sumOf_nil : sumOf [] = 0 := rfl
@[simp] theorem sumOf_cons (x : Int) (xs : List Int) : sumOf (x :: xs) = x + sumOf xs := rfl

/-- The room of a list of shares below the available maxima. -/
def slack (xs : List (Part × Int)) : Int := sumOf (xs.map fun x => x.1.hi - x.2)

/-- Every share lies within its train's bounds. -/
def within (xs : List (Part × Int)) : Prop := ∀ x ∈ xs, x.1.lo ≤ x.2 ∧ x.2 ≤ x.1.hi

/-! ## One pass of the residue -/

/-- A pass keeps the trains and their bounds, and gives away what it takes off the residue. -/
theorem residuePass_spec {r : Int} {xs : List (Part × Int)} (h : within xs) (hr : 0 ≤ r) :
    (residuePass r xs).2.map (·.1) = xs.map (·.1) ∧ within (residuePass r xs).2 ∧
      sumOf ((residuePass r xs).2.map (·.2)) + (residuePass r xs).1 = sumOf (xs.map (·.2)) + r ∧
      slack (residuePass r xs).2 - (residuePass r xs).1 = slack xs - r ∧ 0 ≤ (residuePass r xs).1 ∧ (residuePass r xs).1 ≤ r := by
  induction xs generalizing r with
  | nil => exact ⟨rfl, h, rfl, rfl, hr, le_refl r⟩
  | cons x xs ih =>
    obtain ⟨p, v⟩ := x
    have hp : p.lo ≤ v ∧ v ≤ p.hi := h _ List.mem_cons_self
    have hxs : within xs := fun y hy => h y (List.mem_cons_of_mem _ hy)
    by_cases c : 0 < r ∧ v < p.hi
    · obtain ⟨slots, bounds, sum, room, lo, hi⟩ := ih hxs (r := r - 1) (by omega)
      simp only [residuePass, if_pos c, slack, List.map_cons, sumOf_cons] at room ⊢
      refine ⟨by rw [slots], ?_, by omega, by omega, lo, by omega⟩
      intro y hy
      rcases List.mem_cons.mp hy with rfl | hy
      · simp only; omega
      · exact bounds y hy
    · obtain ⟨slots, bounds, sum, room, lo, hi⟩ := ih hxs hr
      simp only [residuePass, if_neg c, slack, List.map_cons, sumOf_cons] at room ⊢
      refine ⟨by rw [slots], ?_, by omega, by omega, lo, hi⟩
      intro y hy
      rcases List.mem_cons.mp hy with rfl | hy
      · exact hp
      · exact bounds y hy

/-- A pass takes something off a residue that has room. -/
theorem residuePass_lt {r : Int} {xs : List (Part × Int)} (h : within xs) (hr : 0 < r) (hs : 0 < slack xs) :
    (residuePass r xs).1 < r := by
  induction xs with
  | nil => exact absurd hs (by decide)
  | cons x xs ih =>
    obtain ⟨p, v⟩ := x
    have hp : p.lo ≤ v ∧ v ≤ p.hi := h _ List.mem_cons_self
    have hxs : within xs := fun y hy => h y (List.mem_cons_of_mem _ hy)
    by_cases c : 0 < r ∧ v < p.hi
    · simp only [residuePass, if_pos c]
      have := (residuePass_spec hxs (r := r - 1) (by omega)).2.2.2.2.2
      omega
    · simp only [residuePass, if_neg c]
      refine ih hxs ?_
      simp only [slack, List.map_cons, sumOf_cons] at hs ⊢
      omega

/-! ## All passes -/

/-- Enough passes spend a residue that has room. -/
theorem residuePasses_spec {n : Nat} {r : Int} {xs : List (Part × Int)} (h : within xs) (hr : 0 ≤ r) (hn : r ≤ n) (hs : r ≤ slack xs) :
    (residuePasses n r xs).map (·.1) = xs.map (·.1) ∧ within (residuePasses n r xs) ∧
      sumOf ((residuePasses n r xs).map (·.2)) = sumOf (xs.map (·.2)) + r := by
  induction n generalizing r xs with
  | zero => exact ⟨rfl, h, by simp only [residuePasses]; omega⟩
  | succ n ih =>
    obtain ⟨slots, bounds, sum, room, lo, hi⟩ := residuePass_spec h hr
    have less : (residuePass r xs).1 ≤ n := by
      rcases hr.eq_or_lt with e | pos
      · omega
      · have := residuePass_lt h pos (by omega)
        omega
    obtain ⟨slots', bounds', sum'⟩ := ih bounds lo less (by omega)
    exact ⟨slots'.trans slots, bounds', by simp only [residuePasses]; omega⟩

/-! ## Base shares -/

theorem maxSum_sub_minSum (ps : List Part) : maxSum ps - minSum ps = sumOf (ps.map fun p => p.hi - p.lo) := by
  induction ps with
  | nil => rfl
  | cons p ps ih =>
    simp only [maxSum, minSum, List.map_cons, sumOf_cons] at ih ⊢
    omega

theorem baseShare_within {m smin span : Int} {p : Part} (hp : p.lo ≤ p.hi) (lo : smin ≤ m) (hi : m ≤ smin + span) :
    p.lo ≤ baseShare m smin span p ∧ baseShare m smin span p ≤ p.hi := by
  unfold baseShare
  split
  case isTrue => omega
  case isFalse h =>
    have span_pos : 0 < span := by omega
    have num : 0 ≤ (p.hi - p.lo) * (m - smin) := mul_nonneg (by omega) (by omega)
    rw [Int.tdiv_eq_ediv_of_nonneg num]
    have below : 0 ≤ (p.hi - p.lo) * (m - smin) / span := Int.ediv_nonneg num span_pos.le
    have above : (p.hi - p.lo) * (m - smin) / span ≤ p.hi - p.lo :=
      Int.ediv_le_of_le_mul span_pos (mul_le_mul_of_nonneg_left (by omega) (by omega))
    omega

/-- The base shares of a list of trains, in multiples of the span: between the exact share and one kW a train below it. -/
theorem baseShare_sum {m smin span : Int} (hs : 0 < span) (hm : smin ≤ m) {ps : List Part} (hp : ∀ p ∈ ps, p.lo ≤ p.hi) :
    span * (sumOf (ps.map (baseShare m smin span)) - minSum ps) ≤ (maxSum ps - minSum ps) * (m - smin) ∧
      (maxSum ps - minSum ps) * (m - smin) ≤ span * (sumOf (ps.map (baseShare m smin span)) - minSum ps) + ps.length * span := by
  induction ps with
  | nil => simp [minSum, maxSum]
  | cons p ps ih =>
    obtain ⟨le, lt⟩ := ih fun q hq => hp q (List.mem_cons_of_mem _ hq)
    have hlo := hp p List.mem_cons_self
    have num : 0 ≤ (p.hi - p.lo) * (m - smin) := mul_nonneg (by omega) (by omega)
    have share : baseShare m smin span p = p.lo + (p.hi - p.lo) * (m - smin) / span := by
      rw [baseShare, if_neg hs.ne', Int.tdiv_eq_ediv_of_nonneg num]
    have exact := Int.mul_ediv_add_emod ((p.hi - p.lo) * (m - smin)) span
    have rest := Int.emod_nonneg ((p.hi - p.lo) * (m - smin)) hs.ne'
    have rest' := Int.emod_lt_of_pos ((p.hi - p.lo) * (m - smin)) hs
    simp only [minSum, maxSum, List.map_cons, sumOf_cons, share, List.length_cons, Nat.cast_add, Nat.cast_one] at le lt ⊢
    constructor <;> linarith

/-- The trains with their base shares. -/
def baseShares (m : Int) (ps : List Part) : List (Part × Int) :=
  ps.map fun p => (p, baseShare m (minSum ps) (maxSum ps - minSum ps) p)

theorem shares_eq (m : Int) (ps : List Part) :
    shares m ps = residuePasses ps.length (m - sumOf ((baseShares m ps).map (·.2))) (baseShares m ps) := rfl

theorem baseShares_slots (m : Int) (ps : List Part) : (baseShares m ps).map (·.1) = ps := by
  rw [baseShares, List.map_map]; exact List.map_id ps

theorem baseShares_values (m : Int) (ps : List Part) :
    (baseShares m ps).map (·.2) = ps.map (baseShare m (minSum ps) (maxSum ps - minSum ps)) := by simp [baseShares]

theorem slack_eq (xs : List (Part × Int)) : slack xs = maxSum (xs.map (·.1)) - sumOf (xs.map (·.2)) := by
  induction xs with
  | nil => rfl
  | cons x xs ih =>
    simp only [slack, maxSum, List.map_cons, sumOf_cons] at ih ⊢
    omega

/-- The residue is neither negative nor larger than the number of trains. -/
theorem baseShares_residue {m : Int} {ps : List Part} (hp : ∀ p ∈ ps, p.lo ≤ p.hi) (lo : minSum ps ≤ m) (hi : m ≤ maxSum ps) :
    0 ≤ m - sumOf ((baseShares m ps).map (·.2)) ∧ m - sumOf ((baseShares m ps).map (·.2)) ≤ ps.length := by
  rw [baseShares_values]
  rcases (by omega : maxSum ps - minSum ps = 0 ∨ 0 < maxSum ps - minSum ps) with hz | pos
  · have flat : ps.map (baseShare m (minSum ps) (maxSum ps - minSum ps)) = ps.map Part.lo :=
      List.map_congr_left fun p _ => if_pos hz
    rw [flat]
    change 0 ≤ m - minSum ps ∧ m - minSum ps ≤ _
    omega
  · obtain ⟨le, lt⟩ := baseShare_sum pos lo hp
    constructor
    · have := le_of_mul_le_mul_left le pos
      omega
    · have : m - minSum ps ≤ sumOf (ps.map (baseShare m (minSum ps) (maxSum ps - minSum ps))) - minSum ps + ps.length := by
        refine le_of_mul_le_mul_left ?_ pos
        linarith
      omega

/-- The shares place the magnitude, each within its train's bounds. -/
theorem shares_spec {m : Int} {ps : List Part} (hp : ∀ p ∈ ps, p.lo ≤ p.hi) (lo : minSum ps ≤ m) (hi : m ≤ maxSum ps) :
    (shares m ps).map (·.1) = ps ∧ sumOf ((shares m ps).map (·.2)) = m ∧ within (shares m ps) := by
  obtain ⟨residue, few⟩ := baseShares_residue hp lo hi
  have bounds : within (baseShares m ps) := by
    intro x hx
    obtain ⟨p, hmem, rfl⟩ := List.mem_map.mp hx
    exact baseShare_within (hp p hmem) lo (by omega)
  have room : m - sumOf ((baseShares m ps).map (·.2)) ≤ slack (baseShares m ps) := by
    rw [slack_eq, baseShares_slots]; omega
  obtain ⟨slots, inside, sum⟩ := residuePasses_spec bounds residue few room
  rw [shares_eq]
  exact ⟨slots.trans (baseShares_slots m ps), by omega, inside⟩

/-- Settles O23. -/
theorem sharesPlaceTheTarget : Obligations.SharesPlaceTheTarget := by
  intro m ps _ hp lo hi
  exact shares_spec hp lo hi

end Sys2Proof.Machine
end
section
/-!
PROOFS. What a computation keeps (chapter 7), its stages one by one.
-/

namespace Sys2Proof.Machine

/-! ## Stages of a computation -/

/-- Steps 1 to 3 of a computation, with the STARVED marks set (R116, R124). -/
def State.prepared (s : State) : State := s.beginComputation.markAll

/-- The scheduled power of a computation (S1), after its first steps. -/
def State.scheduledPower (s : State) : Int := s.beginComputation.schedAt s.beginComputation.clock.plantMs

/-- The request of a computation (S3, R122). -/
def State.requestOf (s : State) (fDev : Int) : Int :=
  sat32 (s.scheduledPower + reserveResponse s.beginComputation.disp.active s.beginComputation.sched.active.reserve fDev
    + s.beginComputation.sched.trim)

/-- The target of a computation (S5). -/
def State.targetOf (s : State) (fDev : Int) : Int := s.prepared.targetFor s.prepared.parts (s.requestOf fDev)

/-- The state once the reserve-short condition is held (S5, R127). -/
def State.targeted (s : State) : State :=
  s.prepared.holdReserve (envelope s.prepared.manifold.state s.prepared.parts) s.scheduledPower s.beginComputation.sched.active.reserve

/-- The record of a computation before S8. -/
def State.baseRecord (s : State) (kind : TriggerKind) (fDev : Int) : CompRecord :=
  { count := s.targeted.disp.count, plantMs := s.targeted.clock.plantMs, clock := s.targeted.clock.state, trigger := kind
    fDev := fDev, mode := s.targeted.mode.mode, manifold := s.targeted.manifold.state, interval := s.targeted.interval
    isFallback := s.targeted.sched.active.tag == .fallback, reserve := s.beginComputation.sched.active.reserve
    sched := s.scheduledPower
    fcr := reserveResponse s.beginComputation.disp.active s.beginComputation.sched.active.reserve fDev
    trim := s.targeted.sched.trim, req := s.requestOf fDev, envMax := maxSum s.prepared.parts, envMin := minSum s.prepared.parts
    target := s.targetOf fDev, shortfall := sat32 (s.requestOf fDev - s.targetOf fDev), noIncrease := s.targeted.noIncrease
    resShort := s.targeted.disp.resShort, gen := s.targeted.plantFactor .discharge, absorb := s.targeted.plantFactor .charge
    deficit := none, unplaced := none, slots := s.targeted.slotRecords s.prepared.parts false }

/-- The ramped values of S7 in loading order. -/
def State.rampedValues (s : State) (fDev : Int) : List (Fin 8 × Int) :=
  (shares (magnitude (s.targetOf fDev)) s.prepared.parts).map (s.targeted.rampedValue s.sinceLast)

/-- What S8 has done once every SETPOINT was offered. -/
def State.issued (s : State) (fDev : Int) : Issue := s.targeted.issueAll (s.rampedValues fDev)

/-- The record of a computation in AUTO or HOLD. -/
def State.fullRecord (s : State) (kind : TriggerKind) (fDev : Int) : CompRecord :=
  { s.baseRecord kind fDev with
    deficit := some (sat32 (magnitude (s.targetOf fDev) - sumOf ((s.rampedValues fDev).map (·.2))))
    unplaced := some (s.issued fDev).count, slots := (s.issued fDev).state.slotRecords s.prepared.parts true }

theorem State.compute_eq (s : State) (kind : TriggerKind) (fDev : Int) :
    s.compute kind fDev =
      if s.targeted.mode.mode.dispatches then
        (((s.issued fDev).state.unloadAll).setpointsUnplaced (s.issued fDev).first (s.issued fDev).count).keepRecord
          (s.fullRecord kind fDev)
      else s.targeted.keepRecord (s.baseRecord kind fDev) := by
  unfold State.compute State.fullRecord State.issued State.rampedValues State.baseRecord State.targeted State.targetOf
    State.requestOf State.scheduledPower State.prepared
  rfl

/-! ## S1 to S5 -/

theorem State.withGrid_keeps (s : State) (g : Grid) : Keeps [.grid] s { s with grid := g } := by
  refine Leaves.keeps (.intro fun a ha => ?_)
  cases a <;> first | rfl | exact absurd (by decide) ha

theorem State.withLast_keeps {s : State} {d : Dispatch}
    (hd : d.active = s.disp.active ∧ d.next = s.disp.next ∧ d.swap = s.disp.swap ∧ d.tracks = s.disp.tracks) :
    Keeps [.disp, .last] s { s with disp := d } := by
  obtain ⟨ha, hn, hs, ht⟩ := hd
  refine Leaves.keeps (.intro ?_) (setpoints := .inr fun _ _ _ h i => ?_)
  · intro a h
    cases a <;> first | rfl | exact absurd (by decide) h | skip
    simp only [Aspect.read, ha, hn, hs]
  · exact ht ▸ h i

/-- What the first steps of a computation may touch. -/
abbrev begun : List Aspect := [.grid, .disp, .sets, .mgr]

theorem State.beginComputation_keeps (s : State) : Keeps begun s s.beginComputation := by
  have counted : Keeps begun s { s with grid := { s.grid with lastComp := some s.now }
                                        disp := { s.disp with count := s.disp.count + 1 } } := by
    refine Keeps.trans ((s.withGrid_keeps { s.grid with lastComp := some s.now }).mono (by decide)) ?_
    refine Keeps.mono (A := [.disp]) (State.withDisp_keeps ⟨rfl, rfl, rfl, rfl⟩ id) (by decide)
  unfold State.beginComputation
  exact .ite (fun _ => counted.trans ((State.adoptSet_keeps _ _).mono (by decide))) fun _ => counted

theorem State.markStarved_keeps (s : State) (i : Fin 8) : Keeps [.trains] s (s.markStarved i) := by
  have marked : Keeps [.trains] s (s.setTrain i { s.train i with starved := s.starves i }) := State.setTrain_keeps rfl rfl rfl rfl
  unfold State.markStarved
  exact .ite (fun _ => .ite (fun _ => marked.own (State.notify_own _ _ _ _)) fun _ => marked) fun _ => .refl _ s

theorem State.markAll_keeps (s : State) : Keeps [.trains] s s.markAll := .foldl State.markStarved_keeps _ s

theorem State.holdReserve_keeps (s : State) (env : Int × Int) (x y : Int) : Keeps [.disp] s (s.holdReserve env x y) := by
  have held : Keeps [.disp] s { s with disp := { s.disp with resShort := reserveShort env x y } } :=
    State.withDisp_keeps ⟨rfl, rfl, rfl, rfl⟩ id
  unfold State.holdReserve
  refine .ite (fun _ => .refl _ s) fun _ => .ite (fun _ => ?_) fun _ => ?_
  all_goals exact held.own (State.notify_own _ _ _ _)

theorem State.prepared_keeps (s : State) : Keeps (.trains :: begun) s s.prepared :=
  s.beginComputation_keeps.comp (State.markAll_keeps _)

theorem State.targeted_keeps (s : State) : Keeps (.trains :: begun) s s.targeted :=
  s.prepared_keeps.trans ((State.holdReserve_keeps _ _ _ _).mono (by decide))

/-! ## The trains taking part -/

theorem leastOf_isFactor {l : List Int} (h : ∀ x ∈ l, isFactor x) : isFactor (leastOf l) := by
  induction l using leastOf.induct with
  | case1 => exact ⟨le_refl _, by norm_num [leastOf]⟩
  | case2 x => exact h x (List.mem_singleton_self x)
  | case3 x y rest ih =>
    have hx := h x List.mem_cons_self
    have := ih fun z hz => h z (List.mem_cons_of_mem _ hz)
    exact ⟨le_min hx.1 this.1, (min_le_left _ _).trans hx.2⟩

theorem State.plantFactor_isFactor {s : State} (h : s.factorsBounded) (d : Direction) : isFactor (s.plantFactor d) := by
  refine leastOf_isFactor fun x hx => ?_
  obtain ⟨c, -, rfl⟩ := List.mem_map.mp hx
  cases d
  · exact (h.caverns c).2
  · exact (h.caverns c).1

theorem State.storeFactor_isFactor {s : State} (h : s.factorsBounded) (t : Train) (d : Direction) : isFactor (s.storeFactor t d) := by
  have zero : isFactor 0 := ⟨le_refl _, by norm_num⟩
  unfold State.storeFactor
  split
  · rename_i hm
    cases d <;> simp only [Store.factor] <;> split
    · exact (h.stores ⟨_, hm⟩).2
    · exact zero
    · exact (h.stores ⟨_, hm⟩).1
    · exact zero
  · exact zero

/-- The available maximum lies from 0 to P_max (R123). -/
theorem State.availMax_bounds {s : State} {i : Fin 8} (h : s.factorsBounded) (ht : s.tablesInRange) (hp : (s.train i).present = true) :
    0 ≤ s.availMax i ∧ s.availMax i ≤ (s.train i).p.pMax := by
  have range := State.trainRange ht hp
  unfold State.availMax
  split
  case h_1 => omega
  case h_2 d _ =>
    obtain ⟨lo, hi⟩ := State.plantFactor_isFactor h d
    obtain ⟨lo', -⟩ := State.storeFactor_isFactor h (s.train i) d
    have nonneg : 0 ≤ min (s.plantFactor d) (s.storeFactor (s.train i) d) := le_min lo lo'
    have le : min (s.plantFactor d) (s.storeFactor (s.train i) d) ≤ 1000 := (min_le_left _ _).trans hi
    have pMax : 0 ≤ (s.train i).p.pMax := by omega
    have prod : 0 ≤ (s.train i).p.pMax * min (s.plantFactor d) (s.storeFactor (s.train i) d) := mul_nonneg pMax nonneg
    rw [Int.tdiv_eq_ediv_of_nonneg prod]
    refine ⟨Int.ediv_nonneg prod (by norm_num), Int.ediv_le_of_le_mul (by norm_num) ?_⟩
    exact mul_le_mul_of_nonneg_left le pMax

theorem State.mem_parts {s : State} {p : Part} (h : p ∈ s.parts) :
    (s.train p.slot).isIn .loaded = true ∧ p.lo = (s.train p.slot).p.pMin ∧ p.hi = s.availMax p.slot ∧ p.lo ≤ p.hi := by
  obtain ⟨i, hi, rfl⟩ := List.mem_map.mp h
  have part := (List.mem_filter.mp hi).2
  simp only [State.takesPart, Bool.and_eq_true, Bool.not_eq_true', State.starves, decide_eq_false_iff_not, not_lt] at part
  exact ⟨part.1, rfl, rfl, part.2⟩

theorem sumOf_le {α : Type} {f g : α → Int} {l : List α} (h : ∀ x ∈ l, f x ≤ g x) : sumOf (l.map f) ≤ sumOf (l.map g) := by
  induction l with
  | nil => exact le_refl _
  | cons x l ih =>
    have := h x List.mem_cons_self
    have := ih fun y hy => h y (List.mem_cons_of_mem _ hy)
    simp only [List.map_cons, sumOf_cons]
    omega

theorem sumOf_nonneg {α : Type} {f : α → Int} {l : List α} (h : ∀ x ∈ l, 0 ≤ f x) : 0 ≤ sumOf (l.map f) := by
  induction l with
  | nil => exact le_refl _
  | cons x l ih =>
    have := h x List.mem_cons_self
    have := ih fun y hy => h y (List.mem_cons_of_mem _ hy)
    simp only [List.map_cons, sumOf_cons]
    omega

theorem State.parts_sums {s : State} (ht : s.tablesInRange) : 0 ≤ minSum s.parts ∧ minSum s.parts ≤ maxSum s.parts := by
  refine ⟨sumOf_nonneg fun p hp => ?_, sumOf_le fun p hp => (State.mem_parts hp).2.2.2⟩
  obtain ⟨loaded, lo, -⟩ := State.mem_parts hp
  rw [lo]
  exact (State.trainRange ht ((Train.isIn_iff _ _).mp loaded).1).1

/-! ## The target -/

theorem magnitude_nonneg (x : Int) : 0 ≤ magnitude x := by unfold magnitude; split <;> omega

theorem magnitude_of_nonneg {x : Int} (h : 0 ≤ x) : magnitude x = x := if_neg (by omega)

theorem magnitude_neg (x : Int) : magnitude (-x) = magnitude x := by
  unfold magnitude; split <;> split <;> omega

/-- The limit keeps a magnitude that is no smaller than the least one within the limits. -/
theorem magnitude_limited {lo hi lim p : Int} (h : lo ≤ magnitude p ∧ magnitude p ≤ hi) (hl : lo ≤ lim) (h0 : 0 ≤ lo) :
    lo ≤ magnitude (limited lim p) ∧ magnitude (limited lim p) ≤ hi := by
  unfold limited
  split
  case isTrue => exact h
  case isFalse =>
    have : magnitude (if p < 0 then -lim else lim) = lim := by
      split
      · rw [magnitude_neg, magnitude_of_nonneg (by omega)]
      · exact magnitude_of_nonneg (by omega)
    rw [this]
    omega

/-- Where trains take part and the manifold flows, the target's magnitude lies within the envelope (R125, R126). -/
theorem State.targetFor_magnitude {s : State} {ps : List Part} (hne : ps ≠ []) (hf : s.manifold.state.flow ≠ none)
    (h0 : 0 ≤ minSum ps) (h1 : minSum ps ≤ maxSum ps) (req : Int) :
    minSum ps ≤ magnitude (s.targetFor ps req) ∧ magnitude (s.targetFor ps req) ≤ maxSum ps := by
  have bounded : minSum ps ≤ magnitude (boundedTarget s.manifold.state ps req) ∧
      magnitude (boundedTarget s.manifold.state ps req) ≤ maxSum ps := by
    have empty : ps.isEmpty = false := by cases ps <;> simp_all
    cases hm : s.manifold.state <;> rw [hm] at hf <;> simp only [boundedTarget, empty, Bool.false_eq_true, if_false]
    · exact absurd rfl hf
    · have clamp := clampTo_mem h1 (-req)
      rw [magnitude_neg, magnitude_of_nonneg (by omega)]
      exact clamp
    · have clamp := clampTo_mem h1 req
      rw [magnitude_of_nonneg (by omega)]
      exact clamp
    · exact absurd rfl hf
  unfold State.targetFor
  simp only
  split
  · exact magnitude_limited bounded (le_max_right _ _) h0
  · exact bounded

/-! ## Ramped values -/

theorem rampStep_pos (ramp : Int) (dt : Nat) : 1 ≤ rampStep ramp dt := le_max_left _ _

/-- A ramped value lies between the track and the share. -/
theorem ramped_between {track share step lo hi : Int} (hs : 1 ≤ step) (ht : lo ≤ track ∧ track ≤ hi) (hsh : lo ≤ share ∧ share ≤ hi) :
    lo ≤ ramped track share step ∧ ramped track share step ≤ hi := by
  unfold ramped magnitude
  split <;> split <;> [exact hsh; skip; exact hsh; skip] <;> split <;> omega

/-- Every value of S7 belongs to a loaded train and lies from its P_min to its P_max. -/
def Ranged (s : State) (vs : List (Fin 8 × Int)) : Prop :=
  ∀ v ∈ vs, (s.train v.1).isIn .loaded = true ∧ (s.train v.1).p.pMin ≤ v.2 ∧ v.2 ≤ (s.train v.1).p.pMax

/-- The ramped values of the shares of a target, where the trains, the manifold, the factors and the tracks are sound. -/
theorem State.rampedValue_ranged {s u : State} (hu : Agree [.disp] s u) (hd : u.disp.tracks = s.disp.tracks) (hf : s.factorsBounded)
    (ht : s.tablesInRange) (hm : s.manifoldFollows) (hs : Tracked s) (req : Int) (dt : Nat) :
    Ranged u ((shares (magnitude (s.targetFor s.parts req)) s.parts).map (u.rampedValue dt)) := by
  intro v hv
  obtain ⟨⟨p, x⟩, hx, rfl⟩ := List.mem_map.mp hv
  have train (i : Fin 8) : u.train i = s.train i := hu.train (by decide) i
  have sums := State.parts_sums ht
  rcases eq_or_ne s.parts [] with he | hne
  · rw [he] at hx; exact absurd hx (by simp [shares, residuePasses])
  have flows : s.manifold.state.flow ≠ none := by
    obtain ⟨q, hq⟩ := List.exists_mem_of_ne_nil _ hne
    have loaded := (State.mem_parts hq).1
    rw [hm q.slot (.inr loaded)]
    exact Train.dir_ne_none ((Train.isIn_iff _ _).mp loaded).1
  have target := State.targetFor_magnitude hne flows sums.1 sums.2 req
  obtain ⟨slots, -, inside⟩ := shares_spec (fun p hp => (State.mem_parts hp).2.2.2) target.1 target.2
  have part : p ∈ s.parts := by rw [← slots]; exact List.mem_map_of_mem (f := Prod.fst) hx
  obtain ⟨loaded, lo, hi, -⟩ := State.mem_parts part
  have present := ((Train.isIn_iff _ _).mp loaded).1
  have avail := State.availMax_bounds hf ht present
  have share := inside _ hx
  have track := hs.inRange p.slot
  rw [if_pos loaded] at track
  simp only [State.rampedValue, train, hd]
  exact ⟨loaded, ramped_between (rampStep_pos _ _) track.2 ⟨lo ▸ share.1, by simp only at share; omega⟩⟩

end Sys2Proof.Machine
end
section
/-!
PROOFS. What the issue stage, a computation, commitment and a trigger keep (chapters 7 and 8).
-/

namespace Sys2Proof.Machine

/-! ## S8 -/

/-- A train record with another last ordered setpoint. -/
theorem State.recordSetpoint_leaves (s : State) (i : Fin 8) (v : Int) : Leaves [.trains] s (s.recordSetpoint i v) :=
  State.setTrain_leaves rfl rfl

theorem State.recordSetpoint_train (s : State) (i j : Fin 8) (v : Int) :
    (s.recordSetpoint i v).train j = { s.train j with setpoint := if j = i then v else (s.train j).setpoint } := by
  rw [State.recordSetpoint, State.train_setTrain]
  split
  case isTrue e => rw [e]
  case isFalse => rfl

/-- What follows depends on the state, the parameters and no other field of a train. -/
theorem Train.isIn_congr {t u : Train} (hp : u.p = t.p) (hs : u.state = t.state) (st : TrainState) : u.isIn st = t.isIn st := by
  simp only [Train.isIn, Train.present, hp, hs]

/-- Trains of the same parameters and states: the converter's record answers them as before. -/
theorem State.converterSound_congr {s t : State} (hc : t.conv = s.conv) (ht : ∀ i st, (t.train i).isIn st = (s.train i).isIn st)
    (h : s.converterSound) : t.converterSound :=
  ⟨fun i => by rw [hc, ht]; exact h.busy i, hc ▸ h.once, fun i => by rw [hc, ht]; exact h.waiting i⟩

theorem State.manifoldFollows_congr {s t : State} (hm : t.manifold = s.manifold)
    (ht : ∀ i, (t.train i).p = (s.train i).p ∧ ∀ st, (t.train i).isIn st = (s.train i).isIn st) (h : s.manifoldFollows) :
    t.manifoldFollows := fun i hi => by
  rw [hm, (ht i).1]
  exact h i (by simpa only [(ht i).2] using hi)

/-- S8 for one train, read off: the track is set, the setpoint is kept or becomes the value, and nothing else moves. -/
theorem Issue.one_shape (x : Issue) (v : Fin 8 × Int) :
    Leaves [.trains, .disp] x.state (x.one v).state ∧ (x.one v).state.disp = (x.state.setTrack v.1 v.2).disp ∧
      ∀ j, ∃ w, (x.one v).state.train j = { x.state.train j with setpoint := w } ∧
        (w = (x.state.train j).setpoint ∨ (j = v.1 ∧ w = v.2)) := by
  have track : Leaves [.trains, .disp] x.state (x.state.setTrack v.1 v.2) := (State.setTrack_leaves _ _ _).mono (by decide)
  have kept : ∀ j, ∃ w, (x.state.setTrack v.1 v.2).train j = { x.state.train j with setpoint := w } ∧
      (w = (x.state.train j).setpoint ∨ (j = v.1 ∧ w = v.2)) := fun j => ⟨_, rfl, .inl rfl⟩
  unfold Issue.one
  simp only
  split
  · exact ⟨track, rfl, kept⟩
  · split
    · rename_i room
      have placed := State.place_own room ((x.state.setTrack v.1 v.2).train v.1).p.node .setpoint v.2
      refine ⟨(track.own placed).trans ((State.recordSetpoint_leaves _ _ _).mono (by decide)), placed.agree .disp (by decide), fun j => ?_⟩
      rw [State.recordSetpoint_train, placed.agree.train (by decide)]
      refine ⟨_, rfl, ?_⟩
      split
      case isTrue e => exact .inr ⟨e, rfl⟩
      case isFalse => exact .inl rfl
    · exact ⟨track, rfl, kept⟩

theorem Issue.one_train (x : Issue) (v : Fin 8 × Int) (j : Fin 8) :
    ((x.one v).state.train j).p = (x.state.train j).p ∧ ∀ st, ((x.one v).state.train j).isIn st = (x.state.train j).isIn st := by
  obtain ⟨w, hw, -⟩ := (x.one_shape v).2.2 j
  rw [hw]
  exact ⟨rfl, fun st => rfl⟩

/-- A value of a loaded train within its bounds keeps the setpoints and tracks in range. -/
theorem Issue.one_setpoints {x : Issue} {v : Fin 8 × Int} (hv : Ranged x.state [v]) (h : x.state.setpointsInRange) :
    (x.one v).state.setpointsInRange := by
  obtain ⟨loaded, lo, hi⟩ := hv v (List.mem_singleton_self v)
  obtain ⟨-, disp, train⟩ := x.one_shape v
  have track (j : Fin 8) : (x.one v).state.disp.tracks.get j = if j = v.1 then v.2 else x.state.disp.tracks.get j := by
    rw [disp]; exact Vector.get_set _ _ _ _
  intro j
  obtain ⟨w, hw, hcase⟩ := train j
  have := h j
  rw [hw, track]
  change if (x.state.train j).isIn .loaded = true then _ else _
  by_cases hj : j = v.1
  · subst hj
    rw [if_pos loaded] at this ⊢
    rw [if_pos rfl]
    refine ⟨?_, lo, hi⟩
    rcases hcase with rfl | ⟨-, rfl⟩
    · exact this.1
    · exact ⟨lo, hi⟩
  · rw [if_neg hj]
    obtain rfl : w = (x.state.train j).setpoint := hcase.resolve_right fun e => hj e.1
    exact this

theorem Ranged.of_one {x : Issue} {v : Fin 8 × Int} {vs : List (Fin 8 × Int)} (h : Ranged x.state (v :: vs)) :
    Ranged (x.one v).state vs := fun u hu => by
  obtain ⟨loaded, range⟩ := h u (List.mem_cons_of_mem _ hu)
  rw [(x.one_train v u.1).1, (x.one_train v u.1).2]
  exact ⟨loaded, range⟩

/-- The whole of S8's SETPOINTs. -/
theorem Issue.foldl_keeps (x : Issue) (vs : List (Fin 8 × Int)) :
    Leaves [.trains, .disp] x.state (vs.foldl Issue.one x).state ∧
      (x.state.converterSound → (vs.foldl Issue.one x).state.converterSound) ∧
      (x.state.manifoldFollows → (vs.foldl Issue.one x).state.manifoldFollows) ∧
      (Ranged x.state vs → Tracked x.state → Tracked (vs.foldl Issue.one x).state) := by
  induction vs generalizing x with
  | nil => exact ⟨.refl _ _, id, id, fun _ => id⟩
  | cons v vs ih =>
    obtain ⟨leaves, conv, follows, setpoints⟩ := ih (x.one v)
    have one := (x.one_shape v).1
    refine ⟨one.trans leaves, fun h => conv ?_, fun h => follows ?_, fun hr h => setpoints hr.of_one ?_⟩
    · exact State.converterSound_congr (one.agree .conv (by decide)) (fun i => (x.one_train v i).2) h
    · exact State.manifoldFollows_congr (one.agree .manifold (by decide)) (x.one_train v) h
    · exact ⟨Issue.one_setpoints (fun u hu => hr u (by rw [List.mem_singleton.mp hu]; exact List.mem_cons_self)) h.inRange⟩

theorem State.withDisp_agree {s : State} {d : Dispatch}
    (hd : d.active = s.disp.active ∧ d.next = s.disp.next ∧ d.swap = s.disp.swap ∧ d.last = s.disp.last) :
    Agree [.disp] s { s with disp := d } := by
  obtain ⟨ha, hn, hs, hl⟩ := hd
  intro a h
  cases a <;> first | rfl | exact absurd (by decide) h | exact hl | skip
  simp only [Aspect.read, ha, hn, hs]

theorem State.holdReserve_tracks (s : State) (env : Int × Int) (x y : Int) :
    (s.holdReserve env x y).disp.tracks = s.disp.tracks := by
  have held (l : List Item) (n : NoticeName) :
      (State.notify { s with disp := { s.disp with resShort := reserveShort env x y } } n .none l).disp.tracks = s.disp.tracks := by
    have disp : (State.notify { s with disp := { s.disp with resShort := reserveShort env x y } } n .none l).disp =
        { s.disp with resShort := reserveShort env x y } := (State.notify_own _ n .none l).agree .disp (by decide)
    rw [disp]
  unfold State.holdReserve
  simp only
  split
  · rfl
  · split
    · exact held _ _
    · exact held _ _

/-- What S8's SETPOINTs keep: the ramped values lie where the setpoints have to. -/
theorem State.issued_keeps (s : State) (fDev : Int) : Keeps (.trains :: begun) s (s.issued fDev).state := by
  obtain ⟨leaves, conv, follows, setpoints⟩ : Leaves [.trains, .disp] s.targeted (s.issued fDev).state ∧
      (s.targeted.converterSound → (s.issued fDev).state.converterSound) ∧
      (s.targeted.manifoldFollows → (s.issued fDev).state.manifoldFollows) ∧
      (Ranged s.targeted (s.rampedValues fDev) → Tracked s.targeted → Tracked (s.issued fDev).state) :=
    Issue.foldl_keeps { state := s.targeted, count := 0, first := none } (s.rampedValues fDev)
  have targeted := s.targeted_keeps
  have wide : Leaves (.trains :: begun) s.targeted (s.issued fDev).state := leaves.mono (by decide)
  have prepared := s.prepared_keeps
  have held : Agree [.disp] s.prepared s.targeted := (State.holdReserve_keeps _ _ _ _).agree
  have tracks : s.targeted.disp.tracks = s.prepared.disp.tracks := State.holdReserve_tracks s.prepared _ _ _
  refine ⟨targeted.toLeaves.trans wide, fun h => conv (targeted.converter h), fun h => follows (targeted.follows h),
    fun hf ht hm hs => setpoints ?_ (targeted.setpoints hf ht hm hs)⟩
  exact State.rampedValue_ranged (s := s.prepared) (u := s.targeted) held tracks (prepared.factors hf) (prepared.tables ht)
    (prepared.follows hm) (prepared.setpoints hf ht hm hs) (s.requestOf fDev) s.sinceLast

/-! ## UNLOADs and the record -/

/-- What a computation may touch. -/
abbrev computed : List Aspect := [.grid, .disp, .sets, .last, .mgr, .trains, .conv, .manifold, .caverns]

theorem State.unloadStarved_keeps (s : State) (i : Fin 8) : Keeps moved s (s.unloadStarved i) := by
  unfold State.unloadStarved
  exact .ite (fun _ => s.originate_keeps i .unload) fun _ => .refl _ s

theorem State.unloadAll_keeps (s : State) : Keeps moved s s.unloadAll := .foldl State.unloadStarved_keeps _ s

theorem State.setpointsUnplaced_own (s : State) (i : Option (Fin 8)) (n : Nat) : Own s (s.setpointsUnplaced i n) := by
  unfold State.setpointsUnplaced
  split
  · exact .refl s
  · exact s.notify_own _ _ _

theorem State.periodStep_keeps (s : State) (r : CompRecord) : Keeps [.disp] s (s.periodStep r) := by
  have counted (n : Nat) : Keeps [.disp] s { s with disp := { s.disp with period := n } } :=
    State.withDisp_keeps ⟨rfl, rfl, rfl, rfl⟩ id
  unfold State.periodStep
  exact .ite (fun _ => (counted 0).own (State.offerRecord_own _ _)) fun _ => counted _

theorem State.keepRecord_keeps (s : State) (r : CompRecord) : Keeps [.disp, .last] s (s.keepRecord r) := by
  refine Keeps.trans ?_ ((State.periodStep_keeps _ r).mono (by decide))
  exact State.withLast_keeps ⟨rfl, rfl, rfl, rfl⟩

theorem State.compute_keeps (s : State) (k : TriggerKind) (fDev : Int) : Keeps computed s (s.compute k fDev) := by
  rw [State.compute_eq]
  refine .ite (fun _ => ?_) fun _ => ?_
  · exact (((s.issued_keeps fDev).comp (State.unloadAll_keeps _) (C := computed)).own (State.setpointsUnplaced_own _ _ _)).trans
      ((State.keepRecord_keeps _ _).mono (by decide))
  · exact s.targeted_keeps.comp (State.keepRecord_keeps _ _)

/-! ## Commitment -/

/-- What commitment may touch. -/
abbrev committed : List Aspect := .commit :: .figures :: moved

theorem State.unloadLoaded_keeps (s : State) (i : Fin 8) : Keeps moved s (s.unloadLoaded i) := by
  unfold State.unloadLoaded
  exact .ite (fun _ => s.originate_keeps i .unload) fun _ => .refl _ s

theorem State.reversalStep_keeps (s : State) (f : Demand) : Keeps moved s (s.reversalStep f) := by
  unfold State.reversalStep
  split
  · exact .refl _ s
  · exact .ite (fun _ => .refl _ s) fun _ => .foldl State.unloadLoaded_keeps _ s

theorem State.mem_loadingOrder {s : State} {k : TrainKind} {i : Fin 8} (h : i ∈ s.loadingOrder k) :
    (s.train i).present = true ∧ (s.train i).p.kind = k := by
  obtain ⟨p, -, hp⟩ := List.mem_flatMap.mp h
  have := (List.mem_filter.mp hp).2
  simp only [Bool.and_eq_true, beq_iff_eq] at this
  exact this.1

theorem State.startStep_keeps (s : State) (f : Demand) : Keeps moved s (s.startStep f) := by
  unfold State.startStep
  split
  · exact .refl _ s
  · refine .ite (fun _ => ?_) fun _ => .refl _ s
    split
    · exact .refl _ s
    · rename_i i hi
      exact State.originateStart_keeps (State.mem_loadingOrder (List.mem_of_find?_eq_some hi)).1

theorem State.loadOne_keeps (demand : Int) (x : State × Int) (i : Fin 8) : Keeps moved x.1 (State.loadOne demand x i).1 := by
  unfold State.loadOne
  split
  · exact x.1.originate_keeps i .load
  · exact .refl _ x.1

theorem State.loadAll_keeps (demand : Int) (l : List (Fin 8)) (x : State × Int) :
    Keeps moved x.1 (l.foldl (State.loadOne demand) x).1 := by
  induction l generalizing x with
  | nil => exact .refl _ x.1
  | cons i l ih => exact (State.loadOne_keeps demand x i).trans (ih _)

theorem State.loadStep_keeps (s : State) (f : Demand) : Keeps moved s (s.loadStep f).1 := by
  unfold State.loadStep
  split
  · exact .refl _ s
  · split
    · exact State.loadAll_keeps _ _ (s, f.cFlow)
    · exact .refl _ s

theorem State.withCommit_keeps (s : State) (c : Commitment) : Keeps [.commit, .figures] s { s with commit := c } := by
  refine Leaves.keeps (.intro fun a ha => ?_)
  cases a <;> first | rfl | exact absurd (by decide) ha

theorem State.stopStep_keeps (s : State) (f : Demand) : Keeps committed s (s.stopStep f) := by
  have clear (u : State) : Keeps committed u u.clearStop := u.clearStop_keeps.mono (by decide)
  have held (c : Commitment) : Keeps committed s { s with commit := c } := (s.withCommit_keeps c).mono (by decide)
  unfold State.stopStep
  refine .ite (fun _ => clear s) fun _ => ?_
  split
  · exact clear s
  · rename_i i _
    have unloaded (c : Commitment) : Keeps committed s (State.originate { s with commit := c } i .unload) :=
      (held c).trans ((State.originate_keeps _ i .unload).mono (by decide))
    exact .ite (fun _ => .ite (fun _ => unloaded _) fun _ => (unloaded _).trans (clear _)) fun _ => held _

theorem State.idleOne_keeps (f : Demand) (c : Int) (s : State) (i : Fin 8) : Keeps moved s (State.idleOne f c s i) := by
  unfold State.idleOne
  exact .ite (fun _ => s.originate_keeps i .stop) fun _ => .refl _ s

theorem State.idleStep_keeps (s : State) (f : Demand) (c : Int) : Keeps moved s (s.idleStep f c) := by
  unfold State.idleStep
  exact .ite (fun _ => .refl _ s) fun _ => .foldl (State.idleOne_keeps f c) _ s

theorem State.commitmentRun_keeps (s : State) (req : Int) : Keeps committed s (s.commitmentRun req) := by
  unfold State.commitmentRun
  refine .ite (fun _ => s.clearStop_keeps.mono (by decide)) fun _ => ?_
  refine Keeps.trans ?_ ((State.idleStep_keeps _ _ _).mono (by decide))
  refine Keeps.trans ?_ (State.stopStep_keeps _ _)
  refine Keeps.trans ?_ ((State.loadStep_keeps _ _).mono (by decide))
  refine Keeps.trans ?_ ((State.startStep_keeps _ _).mono (by decide))
  refine Keeps.trans ?_ ((State.reversalStep_keeps _ _).mono (by decide))
  exact (s.withCommit_keeps _).mono (by decide)

/-! ## The trigger -/

/-- What a computation trigger may touch. -/
abbrev triggered : List Aspect := .commit :: .figures :: computed

theorem State.trigger_keeps (s : State) (k : TriggerKind) (fDev : Int) : Keeps triggered s (s.trigger k fDev) := by
  have ran : Keeps triggered s (s.compute k fDev) := (s.compute_keeps k fDev).mono (by decide)
  unfold State.trigger
  refine .ite (fun _ => .ite (fun _ => ?_) fun _ => ran) fun _ => .refl _ s
  exact ran.trans ((State.commitmentRun_keeps _ _).mono (by decide))

theorem State.evalDev_keeps (s : State) : Keeps [.grid] s s.evalDev := by
  unfold State.evalDev
  exact .ite (fun _ => .refl _ s) fun _ => (s.withGrid_keeps _).own (State.notify_own _ _ _ _)

theorem State.enterFallback_keeps (s : State) : Keeps [.grid] s s.enterFallback := by
  unfold State.enterFallback
  exact .ite (fun _ => s.withGrid_keeps _) fun _ => .refl _ s

theorem State.enterTracking_keeps (s : State) : Keeps [.grid] s s.enterTracking := by
  unfold State.enterTracking
  exact .ite (fun _ => s.withGrid_keeps _) fun _ => (s.withGrid_keeps _).own (State.notify_own _ _ _ _)

theorem State.gridValue_keeps (s : State) (v : View) (t : Nat) : Keeps triggered s (s.gridValue v t) := by
  have judged : Keeps triggered s s.evalDev := s.evalDev_keeps.mono (by decide)
  unfold State.gridValue
  refine .ite (fun _ => ?_) fun _ => judged
  exact (judged.trans ((State.enterTracking_keeps _).mono (by decide))).trans (State.trigger_keeps _ _ _)

theorem State.fallbackExpired_keeps (s : State) : Keeps triggered s s.fallbackExpired :=
  ((s.withGrid_keeps _).mono (by decide)).trans (State.trigger_keeps _ _ _)

end Sys2Proof.Machine
end
section
/-!
PROOFS. The invariants of the schedule, the dispatch mode and the channels, beside those of `Keeps`: `Preserves A s t`.
-/

namespace Sys2Proof.Machine

/-- `Keeps`, and the invariants of the schedule, of the dispatch mode and of the channels. -/
structure Preserves (A : List Aspect) (s t : State) : Prop extends Keeps A s t where
  schedule : s.scheduleOrdered → t.scheduleOrdered
  mode : s.modeSound → t.modeSound
  tap : s.tapMapUnique → t.tapMapUnique
  chans : s.channelsInRange → t.channelsInRange

theorem Preserves.refl (A : List Aspect) (s : State) : Preserves A s s := ⟨.refl A s, id, id, id, id⟩

theorem Preserves.trans {A : List Aspect} {a b c : State} (h : Preserves A a b) (k : Preserves A b c) : Preserves A a c where
  toKeeps := h.toKeeps.trans k.toKeeps
  schedule := k.schedule ∘ h.schedule
  mode := k.mode ∘ h.mode
  tap := k.tap ∘ h.tap
  chans := k.chans ∘ h.chans

theorem Preserves.mono {A B : List Aspect} {s t : State} (h : Preserves A s t) (hs : A ⊆ B) : Preserves B s t :=
  { h with toKeeps := h.toKeeps.mono hs }

/-- Composition of two operations of different reach. -/
theorem Preserves.comp {A B C : List Aspect} {a b c : State} (h : Preserves A a b) (k : Preserves B b c) (hA : A ⊆ C := by decide)
    (hB : B ⊆ C := by decide) : Preserves C a c := (h.mono hA).trans (k.mono hB)

theorem Preserves.foldl {α : Type} {A : List Aspect} {f : State → α → State} (h : ∀ s x, Preserves A s (f s x)) (l : List α)
    (s : State) : Preserves A s (l.foldl f s) := by
  induction l generalizing s with
  | nil => exact .refl A s
  | cons x l ih => exact (h s x).trans (ih _)

theorem Preserves.ite {A : List Aspect} {p : Prop} [Decidable p] {s t u : State} (ht : p → Preserves A s t)
    (hu : ¬ p → Preserves A s u) : Preserves A s (if p then t else u) := by
  split
  case isTrue h => exact ht h
  case isFalse h => exact hu h

section
variable {A : List Aspect} {s t : State}

theorem Agree.schedule (h : Agree A s t) (hA : Aspect.table ∉ A ∧ Aspect.clock ∉ A ∧ Aspect.plant ∉ A) (k : s.scheduleOrdered) :
    t.scheduleOrdered := by
  have table : t.sched.table = s.sched.table := h .table hA.1
  have clock : t.clock = s.clock := h .clock hA.2.1
  have plant : t.plant = s.plant := h .plant hA.2.2
  refine ⟨table ▸ k.size, table ▸ k.ascending, ?_⟩
  rw [State.interval, clock, plant, table]
  exact k.ahead

theorem Agree.modeSound (h : Agree A s t)
    (hA : Aspect.mode ∉ A ∧ Aspect.check ∉ A ∧ Aspect.continuity ∉ A ∧ Aspect.clockState ∉ A) (k : s.modeSound) : t.modeSound := by
  have mode : t.mode = s.mode := h .mode hA.1
  have check : t.mgr.check = s.mgr.check := h .check hA.2.1
  have ring : t.ring.continuity = s.ring.continuity := h .continuity hA.2.2.1
  have clock : t.clock.state = s.clock.state := h .clockState hA.2.2.2
  exact ⟨mode ▸ k.auto, mode ▸ k.hold, by rw [mode, clock]; exact k.clock, by rw [mode, check]; exact k.config,
    by rw [mode, ring]; exact k.ringOpen, by rw [mode, clock]; exact k.unsynced⟩

/-- The invariants of the schedule, the mode and the channels are kept where their blocks are not touched. -/
theorem Keeps.preserves (h : Keeps A s t)
    (schedule : (Aspect.table ∉ A ∧ Aspect.clock ∉ A ∧ Aspect.plant ∉ A) ∨ (s.scheduleOrdered → t.scheduleOrdered) :=
      by exact .inl (by decide))
    (mode : (Aspect.mode ∉ A ∧ Aspect.check ∉ A ∧ Aspect.continuity ∉ A ∧ Aspect.clockState ∉ A) ∨ (s.modeSound → t.modeSound) :=
      by exact .inl (by decide))
    (tap : Aspect.chans ∉ A ∨ (s.tapMapUnique → t.tapMapUnique) := by exact .inl (by decide))
    (chans : Aspect.chans ∉ A ∨ (s.channelsInRange → t.channelsInRange) := by exact .inl (by decide)) : Preserves A s t where
  toKeeps := h
  schedule := schedule.elim h.agree.schedule id
  mode := mode.elim h.agree.modeSound id
  tap := tap.elim (fun hc k c d => by rw [h.agree.chan hc, h.agree.chan hc]; exact k c d) id
  chans := chans.elim (fun hc k c => by rw [h.agree.chan hc]; exact k c) id

end

theorem Own.preserves {A : List Aspect} {s t : State} (h : Own s t) : Preserves A s t :=
  (h.keeps (A := [])).preserves.mono (List.nil_subset A)

theorem Preserves.own {A : List Aspect} {s t u : State} (h : Preserves A s t) (k : Own t u) : Preserves A s u := h.trans k.preserves

/-! ## The mode -/

/-- The hold causes are those their blocks report, and the part dispatches with a clock only. -/
structure State.causesTold (s : State) : Prop where
  clock : s.mode.mode.dispatches = true → s.clock.state ≠ .invalid
  config : s.mode.config = (s.mgr.check == .mismatch)
  ringOpen : s.mode.ringOpen = (s.ring.continuity == .ringOpen)
  unsynced : s.mode.unsynced = (s.clock.state == .unsynced)

theorem State.modeSound_iff (s : State) :
    s.modeSound ↔ s.causesTold ∧ (s.mode.mode = .auto → s.mode.clear = true) ∧ (s.mode.mode = .hold → s.mode.clear = false) :=
  ⟨fun h => ⟨⟨h.clock, h.config, h.ringOpen, h.unsynced⟩, h.auto, h.hold⟩,
    fun ⟨h, ha, hh⟩ => ⟨ha, hh, h.clock, h.config, h.ringOpen, h.unsynced⟩⟩

/-- What a change of mode leaves of the mode record. -/
theorem State.setMode_mode (s : State) (m : Mode) (n : Nat) : (s.setMode m n).mode = { s.mode with mode := m } := by
  by_cases h : s.mode.mode = m
  · rw [State.setMode_same h, ← h]
  · have after : (s.setMode m n).mode = (s.modeNoticed m n).mode := (State.setMode_keeps_after h n).agree .mode (by decide)
    rw [after]
    exact (State.notify_own _ _ _ _).agree .mode (by decide)

/-- A change of mode that suits the causes and the clock. -/
theorem State.setMode_modeSound {s : State} {m : Mode} {n : Nat} (h : s.causesTold) (hd : m.dispatches = true → s.clock.state ≠ .invalid)
    (ha : m = .auto → s.mode.clear = true) (hh : m = .hold → s.mode.clear = false) : (s.setMode m n).modeSound := by
  have agree := (s.setMode_keeps m n).agree
  have check : (s.setMode m n).mgr.check = s.mgr.check := agree .check (by decide)
  have ring : (s.setMode m n).ring.continuity = s.ring.continuity := agree .continuity (by decide)
  have clock : (s.setMode m n).clock.state = s.clock.state := agree .clockState (by decide)
  refine ⟨?_, ?_, ?_, ?_, ?_, ?_⟩ <;> rw [State.setMode_mode]
  · exact ha
  · exact hh
  · rw [clock]; exact hd
  · rw [check]; exact h.config
  · rw [ring]; exact h.ringOpen
  · rw [clock]; exact h.unsynced

theorem State.answerCauses_modeSound {s : State} (h : s.causesTold) : s.answerCauses.modeSound := by
  unfold State.answerCauses
  split
  case isTrue c => exact State.setMode_modeSound h (fun _ => h.clock (by rw [c.1]; rfl)) (by simp) fun _ => c.2
  case isFalse c =>
    split
    case isTrue c' => exact State.setMode_modeSound h (fun _ => h.clock (by rw [c'.1]; rfl)) (fun _ => c'.2) (by simp)
    case isFalse c' =>
      refine (State.modeSound_iff s).mpr ⟨h, fun e => ?_, fun e => ?_⟩
      · exact Bool.eq_true_of_not_eq_false fun k => c ⟨e, k⟩
      · exact Bool.eq_false_iff.mpr fun k => c' ⟨e, k⟩

theorem State.requestMode_modeSound {s : State} (h : s.modeSound) (n : Nat) : (s.requestMode n).2.modeSound := by
  have told := ((State.modeSound_iff s).mp h).1
  unfold State.requestMode
  split
  · exact State.setMode_modeSound told (fun e => Bool.noConfusion e) (by simp) (by simp)
  · exact State.setMode_modeSound told (fun e => Bool.noConfusion e) (by simp) (by simp)
  · split
    case isTrue => exact h
    case isFalse c =>
      refine State.setMode_modeSound told (fun _ => c) (fun e => ?_) fun e => ?_
      · by_contra k; simp [k] at e
      · by_contra k; simp [k] at e
  · exact h

/-! A cause whose block has changed: the mode answers it. -/

theorem State.causeRing_modeSound {s : State} {b : Bool} (h : ({ s with mode := { s.mode with ringOpen := b } } : State).causesTold)
    (hb : s.mode.ringOpen ≠ b) : (s.causeRing b).modeSound := by
  unfold State.causeRing
  rw [if_neg hb]
  exact State.answerCauses_modeSound h

theorem State.causeClock_modeSound {s : State} {b : Bool} (h : ({ s with mode := { s.mode with unsynced := b } } : State).causesTold)
    (hb : s.mode.unsynced ≠ b) : (s.causeClock b).modeSound := by
  unfold State.causeClock
  rw [if_neg hb]
  exact State.answerCauses_modeSound h

theorem State.causeConfig_told {s : State} {b : Bool} (h : ({ s with mode := { s.mode with config := b } } : State).causesTold)
    (hb : s.mode.config ≠ b) : (s.causeConfig b).modeSound := by
  unfold State.causeConfig
  rw [if_neg hb]
  exact State.answerCauses_modeSound h

/-- Own frames tell no cause. -/
theorem State.causesTold_of_own {s t : State} (h : Own s t) (f : ModeRecord → ModeRecord)
    (k : ({ s with mode := f s.mode } : State).causesTold) : ({ t with mode := f t.mode } : State).causesTold := by
  have mode : t.mode = s.mode := h.agree .mode (by decide)
  have check : t.mgr.check = s.mgr.check := h.agree .check (by decide)
  have ring : t.ring.continuity = s.ring.continuity := h.agree .continuity (by decide)
  have clock : t.clock.state = s.clock.state := h.agree .clockState (by decide)
  rw [mode]
  exact ⟨by simp only [clock]; exact k.clock, by simp only [check]; exact k.config, by simp only [ring]; exact k.ringOpen,
    by simp only [clock]; exact k.unsynced⟩

end Sys2Proof.Machine
end
section
/-!
PROOFS. What the operations on the mode, the clock, the schedule and the channels preserve.
-/

namespace Sys2Proof.Machine

/-! ## The mode's causes -/

theorem State.requestMode_preserves (s : State) (n : Nat) : Preserves moded s (s.requestMode n).2 :=
  (s.requestMode_keeps n).preserves (mode := .inr fun h => State.requestMode_modeSound h n)

theorem State.returnExpired_preserves (s : State) : Preserves ringed s s.returnExpired := by
  refine s.returnExpired_keeps.preserves (mode := .inr fun h => ?_)
  have stopped : ({ s with ring := { s.ring with watch := none } } : State).modeSound :=
    ⟨h.auto, h.hold, h.clock, h.config, h.ringOpen, h.unsynced⟩
  unfold State.returnExpired
  simp only
  split
  · exact stopped
  · exact stopped
  · rename_i _ hc
    have shut : s.mode.ringOpen = false := by
      rw [h.ringOpen]; exact beq_eq_false_iff_ne.mpr hc
    have notice (u : State) (n : NoticeName) (x : SourceRecord) (l : List Item) : (u.notify n x l).mode = u.mode :=
      (u.notify_own n x l).agree .mode (by decide)
    refine State.causeRing_modeSound ?_ (by rw [notice]; simp [shut])
    refine State.causesTold_of_own (State.notify_own _ _ _ _) (fun m => { m with ringOpen := true }) ?_
    exact ⟨h.clock, h.config, rfl, h.unsynced⟩

theorem State.returned_preserves (s : State) (q : SeqNo) : Preserves ringed s (s.returned q) := by
  refine (s.returned_keeps q).preserves (mode := .inr fun h => ?_)
  unfold State.returned
  split
  case h_1 => exact h
  case h_2 rest _ =>
    simp only
    -- the ring closed, the mode as it was
    have closed (hc : s.ring.continuity ≠ .ringOpen) (r : Ring) (hr : r.continuity = .ringClosed) :
        ({ s with ring := r } : State).modeSound := by
      refine ⟨h.auto, h.hold, h.clock, h.config, ?_, h.unsynced⟩
      change s.mode.ringOpen = (r.continuity == .ringOpen)
      rw [h.ringOpen, hr, beq_eq_false_iff_ne.mpr hc]
      rfl
    have notice (u : State) (n : NoticeName) (x : SourceRecord) (l : List Item) : (u.notify n x l).mode = u.mode :=
      (u.notify_own n x l).agree .mode (by decide)
    split
    case isTrue hc => exact closed (by rw [hc]; decide) _ rfl
    case isFalse =>
      split
      case isTrue hc =>
        refine State.causeRing_modeSound ?_ (by rw [notice]; simp [h.ringOpen, hc])
        refine State.causesTold_of_own (State.notify_own _ _ _ _) (fun m => { m with ringOpen := false }) ?_
        exact ⟨h.clock, h.config, rfl, h.unsynced⟩
      case isFalse hc =>
        exact (State.notify_own _ _ _ _).agree.modeSound (by decide) (closed hc _ rfl)

/-- The check state a pass finds (R172). -/
def State.checkAfter (s : State) : CheckState := if s.imageSum = 0xFFFFFFFF#32 then .isMatch else .mismatch

/-- The state with the sum of a pass. -/
def State.summed (s : State) : State := { s with mgr := { s.mgr with lastSum := some s.imageSum, check := s.checkAfter } }

theorem State.configPass_eq {s : State} (h : s.quietRuns = false) :
    s.configPass = if s.mgr.check = s.checkAfter then s.summed
      else if s.imageSum = 0xFFFFFFFF#32 then (s.summed.notify .configMatch .none [.fig s.imageSum.toNat]).causeConfig false
      else (s.summed.notify .configMismatch .none [.fig s.imageSum.toNat]).causeConfig true := by
  unfold State.configPass State.summed State.checkAfter
  generalize s.imageSum = sum
  by_cases good : sum = 0xFFFFFFFF#32 <;> simp [h, good]

theorem State.modeSound_of_check {s : State} {m : Manager} (h : s.modeSound) (hm : s.mode.config = (m.check == .mismatch)) :
    ({ s with mgr := m } : State).modeSound := ⟨h.auto, h.hold, h.clock, hm, h.ringOpen, h.unsynced⟩

/-- A pass leaves CONFIG present exactly at a mismatch. -/
theorem State.configPass_preserves (s : State) : Preserves passed s s.configPass := by
  refine s.configPass_keeps.preserves (mode := .inr fun h => ?_)
  have notice (u : State) (n : NoticeName) (x : SourceRecord) (l : List Item) : (u.notify n x l).mode = u.mode :=
    (u.notify_own n x l).agree .mode (by decide)
  -- the cause as the new check has it
  have told (m : Manager) (b : Bool) (hb : b = (m.check == .mismatch)) (n : NoticeName) (l : List Item) :
      (State.causeConfig (State.notify { s with mgr := m } n .none l) b).modeSound := by
    by_cases e : (State.notify { s with mgr := m } n .none l).mode.config = b
    · rw [State.causeConfig, if_pos e]
      rw [notice] at e
      refine (State.notify_own _ _ _ _).agree.modeSound (by decide) ?_
      exact ⟨h.auto, h.hold, h.clock, e.trans hb, h.ringOpen, h.unsynced⟩
    · refine State.causeConfig_told ?_ e
      refine State.causesTold_of_own (State.notify_own _ _ _ _) (fun x => { x with config := b }) ?_
      exact ⟨h.clock, hb, h.ringOpen, h.unsynced⟩
  by_cases q : s.quietRuns = true
  · rw [State.configPass, if_pos q]; exact h
  rw [State.configPass_eq (Bool.eq_false_iff.mpr q)]
  split
  case isTrue hc =>
    unfold State.summed
    exact State.modeSound_of_check h (by rw [← hc]; exact h.config)
  case isFalse =>
    split
    case isTrue good =>
      have check : s.checkAfter = .isMatch := by rw [State.checkAfter, if_pos good]
      exact told { s.mgr with lastSum := some s.imageSum, check := s.checkAfter } false (by rw [check]; rfl) _ _
    case isFalse bad =>
      have check : s.checkAfter = .mismatch := by rw [State.checkAfter, if_neg bad]
      exact told { s.mgr with lastSum := some s.imageSum, check := s.checkAfter } true (by rw [check]; rfl) _ _

theorem State.withMgr_preserves {s : State} {m : Manager} (h : m.check = s.mgr.check) : Preserves [.mgr] s { s with mgr := m } := by
  refine Keeps.preserves (Leaves.keeps (.intro fun a ha => ?_))
  cases a <;> first | rfl | exact absurd (by decide) ha | exact h

theorem State.periodExpired_preserves (s : State) : Preserves passed s s.periodExpired := by
  refine Preserves.trans ?_ (State.configPass_preserves _)
  exact Preserves.mono (A := [.mgr]) (State.withMgr_preserves rfl) (by decide)

/-! ## The clock -/

theorem State.interval_of_clock {s t : State} (hc : t.clock.plantMs = s.clock.plantMs) (hp : t.plant.interval = s.plant.interval) :
    t.interval = s.interval := by rw [State.interval, State.interval, hc, hp]

/-- A schedule whose clock changes its state, but from INVALID, or its mark. -/
theorem State.scheduleOrdered_of_clock {s t : State} (ht : t.sched.table = s.sched.table) (hc : t.clock.plantMs = s.clock.plantMs)
    (hp : t.plant = s.plant) (hs : t.clock.state ≠ .invalid → s.clock.state ≠ .invalid) (h : s.scheduleOrdered) : t.scheduleOrdered := by
  refine ⟨ht ▸ h.size, ht ▸ h.ascending, fun k => ?_⟩
  rw [State.interval_of_clock hc (by rw [hp]), ht]
  exact h.ahead (hs k)

theorem State.causeClock_agree (s : State) (b : Bool) : Agree moded s (s.causeClock b) := (s.causeClock_keeps b).agree

/-- A change of the clock's state that its cause answers. -/
theorem State.clockTold {s : State} (h : s.modeSound) {c : Clock} {b : Bool} (hn : c.state ≠ .invalid) (hb : b = (c.state == .unsynced))
    (ho : s.mode.unsynced ≠ b) (n : NoticeName) (l : List Item) :
    (State.causeClock (State.notify { s with clock := c } n .none l) b).modeSound := by
  have notice : (State.notify { s with clock := c } n .none l).mode = s.mode := (State.notify_own _ n .none l).agree .mode (by decide)
  refine State.causeClock_modeSound ?_ (by rw [notice]; exact ho)
  refine State.causesTold_of_own (State.notify_own _ _ _ _) (fun m => { m with unsynced := b }) ?_
  exact ⟨fun _ => hn, h.config, h.ringOpen, hb⟩

/-- What a notice and the cause leave of the clock and the schedule. -/
theorem State.clockTold_agree (s : State) (c : Clock) (b : Bool) (n : NoticeName) (l : List Item) :
    (State.causeClock (State.notify { s with clock := c } n .none l) b).clock = c ∧
      (State.causeClock (State.notify { s with clock := c } n .none l) b).sched = s.sched ∧
      (State.causeClock (State.notify { s with clock := c } n .none l) b).plant = s.plant := by
  have notice := (State.notify_own { s with clock := c } n .none l).agree
  have cause := (State.notify { s with clock := c } n .none l).causeClock_agree b
  exact ⟨(cause .clock (by decide)).trans (notice .clock (by decide)), (cause .sched (by decide)).trans (notice .sched (by decide)),
    (cause .plant (by decide)).trans (notice .plant (by decide))⟩

theorem State.clockTold_schedule {s : State} {c : Clock} (hp : c.plantMs = s.clock.plantMs)
    (hs : c.state ≠ .invalid → s.clock.state ≠ .invalid) (b : Bool) (n : NoticeName) (l : List Item) (h : s.scheduleOrdered) :
    (State.causeClock (State.notify { s with clock := c } n .none l) b).scheduleOrdered := by
  obtain ⟨clock, sched, plant⟩ := State.clockTold_agree s c b n l
  exact State.scheduleOrdered_of_clock (s := s) (by rw [sched]) (by rw [clock, hp]) plant (by rw [clock]; exact hs) h

theorem State.marked_preserves (s : State) : Preserves (.clock :: .clockState :: moded) s s.marked := by
  refine s.marked_keeps.preserves (schedule := .inr fun h => ?_) (mode := .inr fun h => ?_)
  all_goals unfold State.marked; simp only; split
  · rename_i hu
    exact State.clockTold_schedule (c := { s.clock with mark := s.after (s.plant.markTimeout * 1000), state := .valid }) rfl
      (fun _ => by rw [hu]; decide) _ _ _ h
  · exact State.scheduleOrdered_of_clock (s := s) rfl rfl rfl id h
  · rename_i hu
    exact State.clockTold (c := { s.clock with mark := s.after (s.plant.markTimeout * 1000), state := .valid }) h (by simp) rfl
      (by simp [h.unsynced, hu]) _ _
  · exact ⟨h.auto, h.hold, h.clock, h.config, h.ringOpen, h.unsynced⟩

theorem State.markExpired_preserves (s : State) : Preserves (.clock :: .clockState :: moded) s s.markExpired := by
  refine s.markExpired_keeps.preserves (schedule := .inr fun h => ?_) (mode := .inr fun h => ?_)
  all_goals unfold State.markExpired; simp only; split
  · rename_i hv
    exact State.clockTold_schedule (c := { s.clock with mark := none, state := .unsynced }) rfl (fun _ => by rw [hv]; decide) _ _ _ h
  · exact State.scheduleOrdered_of_clock (s := s) rfl rfl rfl id h
  · rename_i hv
    exact State.clockTold (c := { s.clock with mark := none, state := .unsynced }) h (by simp) rfl (by simp [h.unsynced, hv]) _ _
  · exact ⟨h.auto, h.hold, h.clock, h.config, h.ringOpen, h.unsynced⟩

/-! ## The schedule table -/

theorem State.activate_table (s : State) (j : Nat) : (s.activate j).sched.table = s.sched.table.filter fun e => e.interval != j := by
  unfold State.activate
  split
  case h_1 => rfl
  case h_2 e =>
    have notice : (State.notify { s with sched := { s.sched with active := s.fallbackEntry j } } .scheduleGap .none
        [.fig j, .fig s.plant.fallbackNet, .fig s.plant.fallbackRes]).sched.table = s.sched.table :=
      (State.notify_own _ _ _ _).agree .table (by decide)
    rw [notice]
    refine (List.filter_eq_self.mpr fun x hx => ?_).symm
    have := List.find?_eq_none.mp e x hx
    simpa using this

theorem State.takeBoundary_table (s : State) (k : Nat) :
    (s.takeBoundary k).sched.table = s.sched.table.filter fun e => e.interval != k := by
  have after : ∀ u : State, ((u.airCheck k u.sched.active.net).heatCheck k u.sched.active.net).sched.table = u.sched.table := fun u =>
    ((State.airCheck_own u k _).trans (State.heatCheck_own _ k _)).agree .table (by decide)
  unfold State.takeBoundary
  exact (after _).trans (State.activate_table _ k)

theorem State.takeBoundaries_table (n k : Nat) (s : State) :
    (State.takeBoundaries n k s).sched.table = s.sched.table.filter fun e => decide (e.interval < k ∨ k + n ≤ e.interval) := by
  induction n generalizing k s with
  | zero =>
    refine (List.filter_eq_self.mpr fun e _ => ?_).symm
    simp only [decide_eq_true_eq]
    omega
  | succ n ih =>
    rw [State.takeBoundaries, ih, State.takeBoundary_table, List.filter_filter]
    refine List.filter_congr fun e _ => ?_
    simp only [bne, beq_eq_decide, ← Bool.decide_and, ← decide_not, decide_eq_decide]
    omega

/-- Leaving entries out of the schedule. -/
theorem State.scheduleOrdered_filter {s t : State} {f : Entry → Bool} (ht : t.sched.table = s.sched.table.filter f)
    (ha : t.clock.state ≠ .invalid → ∀ e ∈ t.sched.table, t.interval < e.interval) (h : s.scheduleOrdered) : t.scheduleOrdered :=
  ⟨ht ▸ (List.length_filter_le _ _).trans h.size, ht ▸ h.ascending.filter _, ha⟩

theorem State.stepClock_sound {s : State} {ms : Nat} (h : s.scheduleOrdered) (hv : s.clock.state ≠ .invalid) : (s.stepClock ms).scheduleOrdered := by
  have agree := (s.stepClock_keeps ms).agree
  have plant : (s.stepClock ms).plant = s.plant := agree .plant (by decide)
  generalize hu : ({ s with clock := { s.clock with plantMs := ms } } : State) = u
  have table : (s.stepClock ms).sched.table =
      s.sched.table.filter fun e => decide (e.interval < s.interval + 1 ∨ s.interval + 1 + (u.interval - s.interval) ≤ e.interval) := by
    have judged : ∀ v : State, v.judgeRamp.sched.table = v.sched.table := fun v => v.judgeRamp_keeps.agree .table (by decide)
    rw [State.stepClock, hu, judged, State.takeBoundaries_table, ← hu]
  have clock : (s.stepClock ms).clock = u.clock := by
    have judged : ∀ v : State, v.judgeRamp.clock = v.clock := fun v => v.judgeRamp_keeps.agree .clock (by decide)
    have taken : ∀ (v : State) (n k : Nat), (State.takeBoundaries n k v).clock = v.clock := fun v n k =>
      (State.takeBoundaries_keeps n k v).agree .clock (by decide)
    rw [State.stepClock, hu, judged, taken]
  have interval : (s.stepClock ms).interval = u.interval := State.interval_of_clock (by rw [clock]) (by rw [plant, ← hu])
  refine State.scheduleOrdered_filter table (fun _ e he => ?_) h
  rw [table] at he
  obtain ⟨mem, range⟩ := List.mem_filter.mp he
  have := h.ahead hv e mem
  simp only [decide_eq_true_eq] at range
  rw [interval]
  omega

theorem State.firstMark_sound {s : State} {ms : Nat} (h : s.scheduleOrdered) : (s.firstMark ms).scheduleOrdered := by
  generalize hu : ({ s with clock := { state := .valid, plantMs := ms, mark := s.after (s.plant.markTimeout * 1000) } } : State) = u
  have agree := (s.firstMark_keeps ms).agree
  have plant : (s.firstMark ms).plant = s.plant := agree .plant (by decide)
  generalize hv : ({ u with sched := { u.sched with table := u.sched.table.filter (fun e => decide (u.interval ≤ e.interval)) } } : State) = v
  have shape : s.firstMark ms = State.notify { v.activate u.interval with sched := { (v.activate u.interval).sched with
      ending := none, trim := 0 } } .clockSet .none [.fig (ms / 1000 : Nat), .fig (ms % 1000 : Nat), .fig u.interval] := by
    rw [State.firstMark, hu, hv]
  have table : (s.firstMark ms).sched.table =
      s.sched.table.filter fun e => e.interval != u.interval && decide (u.interval ≤ e.interval) := by
    have notice : (s.firstMark ms).sched.table = (v.activate u.interval).sched.table := by
      rw [shape]; exact (State.notify_own _ _ _ _).agree .table (by decide)
    rw [notice, State.activate_table, ← hv, ← hu, List.filter_filter]
  have clock : (s.firstMark ms).clock = u.clock := by
    have notice : (s.firstMark ms).clock = (v.activate u.interval).clock := by
      rw [shape]; exact (State.notify_own _ _ _ _).agree .clock (by decide)
    have active : (v.activate u.interval).clock = v.clock := (v.activate_keeps _).agree .clock (by decide)
    rw [notice, active, ← hv]
  have interval : (s.firstMark ms).interval = u.interval := State.interval_of_clock (by rw [clock]) (by rw [plant, ← hu])
  refine State.scheduleOrdered_filter table (fun _ e he => ?_) h
  rw [table] at he
  have := (List.mem_filter.mp he).2
  simp only [Bool.and_eq_true, bne_iff_ne, decide_eq_true_eq] at this
  rw [interval]
  omega

theorem State.firstMark_modeSound {s : State} {ms : Nat} (h : s.modeSound) (hi : s.clock.state = .invalid) : (s.firstMark ms).modeSound := by
  have agree := (s.firstMark_keeps ms).agree
  have mode : (s.firstMark ms).mode = s.mode := agree .mode (by decide)
  have check : (s.firstMark ms).mgr.check = s.mgr.check := agree .check (by decide)
  have ring : (s.firstMark ms).ring.continuity = s.ring.continuity := agree .continuity (by decide)
  have state : (s.firstMark ms).clock.state = .valid := by
    generalize hu : ({ s with clock := { state := .valid, plantMs := ms, mark := s.after (s.plant.markTimeout * 1000) } } : State) = u
    have after : Agree [.sched, .table] u (s.firstMark ms) := by
      rw [State.firstMark, hu]
      refine Agree.trans ?_ ((State.notify_own _ _ _ _).agree.mono (by decide))
      exact (((State.withSched_keeps u _).trans (State.activate_keeps _ _)).trans (State.withSched_keeps _ _)).agree
    have clock : (s.firstMark ms).clock = u.clock := after .clock (by decide)
    rw [clock, ← hu]
  refine ⟨mode ▸ h.auto, mode ▸ h.hold, fun _ => by rw [state]; decide, by rw [mode, check]; exact h.config,
    by rw [mode, ring]; exact h.ringOpen, ?_⟩
  rw [mode, state, h.unsynced, hi]
  rfl

theorem State.stepClock_preserves {s : State} (hv : s.clock.state ≠ .invalid) (ms : Nat) :
    Preserves [.clock, .sched, .table] s (s.stepClock ms) :=
  (s.stepClock_keeps ms).preserves (schedule := .inr fun h => State.stepClock_sound h hv)

theorem State.timeTaken_preserves (s : State) (sec milli : Nat) : Preserves timed s (s.timeTaken sec milli).2 := by
  have mark (u : State) : Preserves timed u u.marked := u.marked_preserves.mono (by decide)
  unfold State.timeTaken
  split
  · exact .refl _ s
  · split
    case isTrue hi =>
      exact ((s.firstMark_keeps _).preserves (schedule := .inr State.firstMark_sound)
        (mode := .inr fun h => State.firstMark_modeSound h hi)).mono (by decide)
    case isFalse hv =>
      split
      · exact mark s
      · exact ((State.stepClock_preserves hv _).mono (by decide)).trans (mark _)

/-! ## Entries -/

theorem insertEntry_length_le (e : Entry) (l : List Entry) : (insertEntry e l).length ≤ l.length + 1 := by
  induction l with
  | nil => exact le_refl _
  | cons x l ih =>
    unfold insertEntry
    split
    · simp
    · split <;> simp; omega

theorem insertEntry_length_stored {e : Entry} {l : List Entry} (h : ∃ x ∈ l, x.interval = e.interval)
    (ha : l.Pairwise fun a b => a.interval < b.interval) : (insertEntry e l).length = l.length := by
  induction l with
  | nil => obtain ⟨x, hx, -⟩ := h; cases hx
  | cons y l ih =>
    obtain ⟨x, hx, hxe⟩ := h
    obtain ⟨hy, hl⟩ := List.pairwise_cons.mp ha
    unfold insertEntry
    rcases List.mem_cons.mp hx with rfl | hx
    · rw [if_neg (by omega), if_pos hxe.symm]; rfl
    · have := hy x hx
      rw [if_neg (by omega), if_neg (by omega), List.length_cons, List.length_cons, ih ⟨x, hx, hxe⟩ hl]

end Sys2Proof.Machine
end
section
/-!
PROOFS. What the schedule entries, the boundaries and the passing of time preserve (chapter 6).
-/

namespace Sys2Proof.Machine

/-! ## Schedule entries -/

/-- Where the gate is open the interval has not begun (R106). -/
theorem State.interval_lt_of_gateOpen {s : State} {j : Nat} (h : s.gateClosed j = false) : s.interval < j := by
  have gate : s.clock.plantMs < j * s.plant.interval * 1000 := by
    have := (s.gateClosed_iff j).not.mp (by rw [h]; decide)
    omega
  have seconds : s.clock.plantMs / 1000 < j * s.plant.interval := Nat.div_lt_of_lt_mul (by omega)
  exact Nat.div_lt_of_lt_mul (by rwa [Nat.mul_comm])

theorem Schedule.stored_mem {x : Schedule} {j : Nat} {e : Entry} (h : x.stored j = some e) : e ∈ x.table ∧ e.interval = j :=
  ⟨List.mem_of_find?_eq_some h, by simpa using List.find?_some h⟩

theorem State.takeEntry_sound {s : State} (e : RawEntry) (h : s.scheduleOrdered) : (s.takeEntry e).2.scheduleOrdered := by
  rcases hr : s.entryRefusal e with _ | c
  case some => rw [State.takeEntry_refused hr]; exact h
  rw [State.takeEntry_taken hr]
  have running : s.clock.state ≠ .invalid := fun hc => by rw [State.entryRefusal_of_invalid hc] at hr; cases hr
  have range : s.entryInRange e = true := by
    by_contra hn
    rw [State.entryRefusal_of_outOfRange running (Bool.eq_false_iff.mpr hn)] at hr; cases hr
  have gate : s.gateClosed e.interval = false := by
    by_contra hn
    rw [State.entryRefusal_of_gateClosed running range (Bool.eq_true_of_not_eq_false hn)] at hr; cases hr
  rw [State.entryRefusal_of_gateOpen running range gate] at hr
  refine ⟨?_, Schedule.tableWith_ascending e h.ascending, fun _ x hx => ?_⟩
  · change (s.sched.tableWith e).length ≤ 192
    cases hw : e.withdraw
    · rw [Schedule.tableWith, if_neg (by simp [hw])]
      rcases hs : s.sched.stored e.interval with _ | x
      · rw [hs] at hr
        have room : s.sched.table.length < 192 := by
          by_contra full
          simp [hw, Nat.not_lt.mp full] at hr
        exact (insertEntry_length_le _ _).trans room
      · obtain ⟨mem, key⟩ := Schedule.stored_mem hs
        exact (insertEntry_length_stored ⟨x, mem, key⟩ h.ascending).le.trans h.size
    · rw [Schedule.tableWith, if_pos hw]
      exact (List.length_filter_le _ _).trans h.size
  · change s.interval < x.interval
    change x ∈ s.sched.tableWith e at hx
    cases hw : e.withdraw
    · rcases (Schedule.mem_tableWith_entry h.ascending hw x).mp hx with ⟨mem, -⟩ | rfl
      · exact h.ahead running x mem
      · exact State.interval_lt_of_gateOpen gate
    · exact h.ahead running x ((Schedule.mem_tableWith_withdrawal s.sched hw x).mp hx).1

theorem State.takeEntries_preserves (l : List RawEntry) (s : State) : Preserves [.sched, .table] s (State.takeEntries l s).2 := by
  induction l generalizing s with
  | nil => exact .refl _ s
  | cons e l ih => exact ((s.takeEntry_keeps e).preserves (schedule := .inr (State.takeEntry_sound e))).trans (ih _)

/-! ## The passing of time -/

theorem State.passTo_keeps (s : State) (t : Nat) : Keeps [.now, .clock] s (s.passTo t) := by
  refine Leaves.keeps (.intro fun a ha => ?_)
  cases a <;> first | rfl | exact absurd (by decide) ha | skip
  simp only [Aspect.read, State.passTo]
  split <;> rfl

theorem State.passTo_state (s : State) (t : Nat) : (s.passTo t).clock.state = s.clock.state :=
  (s.passTo_keeps t).agree .clockState (by decide)

theorem State.passTo_plantMs {s : State} {t : Nat} (h : s.clock.state ≠ .invalid) (ht : s.now < t) :
    (s.passTo t).clock.plantMs = min (s.clock.plantMs + (t - s.now)) Config.lastPlantMs := by
  simp [State.passTo, State.clockRuns, h, ht]

theorem State.passTo_clock_past {s : State} {t : Nat} (ht : t ≤ s.now) : (s.passTo t).clock = s.clock := by
  simp [State.passTo, Nat.not_lt.mpr ht]

/-- The instant at which the plant time reaches a figure, if it can. -/
theorem State.instantOf_eq_some {s : State} {ms d : Nat} :
    s.instantOf ms = some d ↔ s.clock.state ≠ .invalid ∧ s.clock.plantMs < ms ∧ ms ≤ Config.lastPlantMs ∧
      s.now + (ms - s.clock.plantMs) = d := by
  unfold State.instantOf State.clockRuns
  split
  case isTrue h =>
    obtain ⟨run, lo, hi⟩ := h
    simp only [Option.some.injEq, bne_iff_ne] at run ⊢
    exact ⟨fun e => ⟨run, lo, hi, e⟩, fun e => e.2.2.2⟩
  case isFalse h =>
    simp only [reduceCtorEq, false_iff]
    rintro ⟨run, lo, hi, -⟩
    exact h ⟨bne_iff_ne.mpr run, lo, hi⟩

/-- An instant of the plant time lies within interval `k` or before it exactly if it is earlier than the start of the next. -/
theorem interval_le_iff {ms l k : Nat} (hl : 0 < l) : ms / 1000 / l ≤ k ↔ ms < (k + 1) * l * 1000 := by
  rw [← Nat.lt_succ_iff, Nat.div_lt_iff_lt_mul hl, Nat.div_lt_iff_lt_mul (by norm_num)]

/-- Until the instant of the next boundary the plant time does not leave its interval for a later one. -/
theorem State.passTo_interval_le {s : State} {t : Nat} (hb : ∀ d, s.boundaryAt = some d → s.now < t → t < d)
    (hv : s.clock.state ≠ .invalid) : (s.passTo t).interval ≤ s.interval := by
  rcases Nat.lt_or_ge s.now t with ht | ht
  case inr => exact (State.interval_of_clock (s := s) (t := s.passTo t) (by rw [State.passTo_clock_past ht]) rfl).le
  rcases Nat.eq_zero_or_pos s.plant.interval with hl | hl
  case inl => simp [State.interval, State.passTo, hl]
  have ms := State.passTo_plantMs hv ht
  have here : s.clock.plantMs < (s.interval + 1) * s.plant.interval * 1000 := (interval_le_iff hl).mp (le_refl s.interval)
  refine (interval_le_iff hl).mpr ?_
  rw [ms]
  rcases Nat.lt_or_ge Config.lastPlantMs ((s.interval + 1) * s.plant.interval * 1000) with beyond | within
  · exact lt_of_le_of_lt (min_le_right _ _) beyond
  · have := hb _ (State.instantOf_eq_some.mpr ⟨hv, here, within, rfl⟩) ht
    exact lt_of_le_of_lt (min_le_left _ _) (by omega)

theorem State.passTo_sound {s : State} {t : Nat} (hb : ∀ d, s.boundaryAt = some d → s.now < t → t < d) (h : s.scheduleOrdered) :
    (s.passTo t).scheduleOrdered := by
  refine ⟨h.size, h.ascending, fun hv e he => ?_⟩
  rw [State.passTo_state] at hv
  exact lt_of_le_of_lt (State.passTo_interval_le hb hv) (h.ahead hv e he)

/-- Time passes to the next boundary: the plant time stands at the start of the next interval. -/
theorem State.passTo_boundary {s : State} {d : Nat} (h : s.boundaryAt = some d) :
    s.clock.state ≠ .invalid ∧ (s.passTo d).interval = s.interval + 1 := by
  obtain ⟨hv, lo, hi, rfl⟩ := State.instantOf_eq_some.mp h
  have hl : 0 < s.plant.interval := by
    rcases Nat.eq_zero_or_pos s.plant.interval with e | e
    · rw [e] at lo; omega
    · exact e
  have ms : (s.passTo (s.now + ((s.interval + 1) * s.plant.interval * 1000 - s.clock.plantMs))).clock.plantMs =
      (s.interval + 1) * s.plant.interval * 1000 := by
    rw [State.passTo_plantMs hv (by omega)]
    exact (min_eq_left (by omega)).trans (by omega)
  refine ⟨hv, ?_⟩
  rw [State.interval, ms]
  change _ / 1000 / s.plant.interval = _
  rw [Nat.mul_div_cancel _ (by norm_num), Nat.mul_div_cancel _ hl]

/-- At a boundary the entry of the interval that begins leaves the table. -/
theorem State.boundary_sound {s : State} {d : Nat} (hd : s.boundaryAt = some d) (h : s.scheduleOrdered) :
    (s.passTo d).boundary.scheduleOrdered := by
  obtain ⟨hv, next⟩ := State.passTo_boundary hd
  have agree := (s.passTo d).boundary_keeps.agree
  have clock : (s.passTo d).boundary.clock = (s.passTo d).clock := agree .clock (by decide)
  have plant : (s.passTo d).boundary.plant = (s.passTo d).plant := agree .plant (by decide)
  have interval : (s.passTo d).boundary.interval = s.interval + 1 :=
    (State.interval_of_clock (s := s.passTo d) (by rw [clock]) (by rw [plant])).trans next
  have table : (s.passTo d).boundary.sched.table = s.sched.table.filter fun e => e.interval != s.interval + 1 := by
    have judged : ∀ v : State, v.judgeRamp.sched.table = v.sched.table := fun v => v.judgeRamp_keeps.agree .table (by decide)
    rw [State.boundary, judged, State.takeBoundary_table, next]
    rfl
  refine State.scheduleOrdered_filter table (fun _ e he => ?_) h
  rw [table] at he
  obtain ⟨mem, other⟩ := List.mem_filter.mp he
  have := h.ahead hv e mem
  simp only [bne_iff_ne] at other
  rw [interval]
  omega

/-! ## Plant table writes -/

theorem State.suppressionAfresh_own (s : State) : Own s s.suppressionAfresh := by
  unfold State.suppressionAfresh
  exact Own.of_counts s rfl

theorem State.gridAfterPlant_keeps (s : State) (b : Option Nat) (old : PlantTable) : Keeps [.grid] s (s.gridAfterPlant b old) := by
  have entered : Keeps [.grid] s (if b.isSome = true ∧ s.gridBound.isNone = true then s.enterFallback else s) :=
    .ite (fun _ => s.enterFallback_keeps) fun _ => .refl _ s
  unfold State.gridAfterPlant
  exact .ite (fun _ => entered.trans (State.evalDev_keeps _)) fun _ => entered

theorem State.converterAfterPlant_keeps (s : State) : Keeps moved s s.converterAfterPlant :=
  .ite (fun _ => s.converterAvailable_keeps) fun _ => .refl _ s

theorem State.withPlant_keeps {s : State} {p : PlantTable} (hp : plantParams p.toWords = some p) :
    Keeps [.plant] s { s with plant := p } := by
  refine Leaves.keeps (.intro ?_ (tables := .inr fun h => ?_))
  · intro a ha
    cases a <;> first | rfl | exact absurd (by decide) ha
  · exact ⟨hp, h.active, h.next, h.chans, h.caverns, h.stores, h.trains⟩

/-- What a write of the plant table may touch. -/
abbrev replanted : List Aspect := .plant :: .grid :: .sched :: .table :: moved

/-- The plant table in place and the grid meter's answer given. -/
def State.planted (s : State) (p : PlantTable) : State :=
  (State.suppressionAfresh { s with plant := p }).gridAfterPlant s.gridBound s.plant

theorem State.writePlant_eq (s : State) (p : PlantTable) :
    s.writePlant p = ((s.planted p).scheduleAfterPlant s.plant).converterAfterPlant := rfl

theorem State.planted_keeps {s : State} {p : PlantTable} (hp : plantParams p.toWords = some p) :
    Keeps [.plant, .grid] s (s.planted p) :=
  ((State.withPlant_keeps hp).own (State.suppressionAfresh_own _)).comp (State.gridAfterPlant_keeps _ _ _)

theorem State.planted_plant (s : State) (p : PlantTable) : (s.planted p).plant = p :=
  ((State.suppressionAfresh_own _).andThen (State.gridAfterPlant_keeps _ s.gridBound s.plant)).agree .plant (by decide)

theorem State.scheduleAfterPlant_sound {s u : State} (ha : Agree [.plant, .grid] s u) (h : s.scheduleOrdered) :
    (u.scheduleAfterPlant s.plant).scheduleOrdered := by
  have clock : u.clock = s.clock := ha .clock (by decide)
  have table : u.sched.table = s.sched.table := ha .table (by decide)
  have agree := (u.scheduleAfterPlant_keeps s.plant).agree
  have clock' : (u.scheduleAfterPlant s.plant).clock = u.clock := agree .clock (by decide)
  have plant' : (u.scheduleAfterPlant s.plant).plant = u.plant := agree .plant (by decide)
  by_cases hv : u.clock.state = .invalid
  · rw [State.scheduleAfterPlant, if_pos hv]
    exact ⟨table ▸ h.size, table ▸ h.ascending, fun k => absurd hv k⟩
  by_cases hi : s.plant.interval = u.plant.interval
  · have table' : (u.scheduleAfterPlant s.plant).sched.table = u.sched.table := by
      rw [State.scheduleAfterPlant, if_neg hv, if_neg (not_not.mpr hi)]
      exact u.rampAfresh_keeps.agree .table (by decide)
    have interval : (u.scheduleAfterPlant s.plant).interval = s.interval :=
      State.interval_of_clock (by rw [clock', clock]) (by rw [plant', hi])
    refine ⟨?_, ?_, fun _ => ?_⟩
    · rw [table', table]; exact h.size
    · rw [table', table]; exact h.ascending
    · rw [table', table, interval]; exact h.ahead (clock ▸ hv)
  · have empty : (u.scheduleAfterPlant s.plant).sched.table = [] := by
      rw [State.scheduleAfterPlant, if_neg hv, if_pos hi]
      exact (State.notify_own _ _ _ _).agree .table (by decide)
    exact ⟨by rw [empty]; exact Nat.zero_le _, by rw [empty]; exact .nil, by rw [empty]; simp⟩

theorem State.writePlant_preserves {s : State} {p : PlantTable} (hp : plantParams p.toWords = some p) :
    Preserves replanted s (s.writePlant p) := by
  have planted := State.planted_keeps (s := s) hp
  have scheduled : Preserves replanted s ((s.planted p).scheduleAfterPlant s.plant) :=
    Keeps.preserves (planted.comp (State.scheduleAfterPlant_keeps _ _))
      (schedule := .inr (State.scheduleAfterPlant_sound planted.agree))
  rw [State.writePlant_eq]
  exact scheduled.trans ((State.converterAfterPlant_keeps _).preserves.mono (by decide))

end Sys2Proof.Machine
end
section
/-!
PROOFS. What readings, freshness expiries and channel writes preserve (chapter 1).
-/

namespace Sys2Proof.Machine

/-! ## One channel -/

theorem State.chan_setChan (s : State) (c d : Fin 96) (x : Channel) : (s.setChan c x).chan d = if d = c then x else s.chan d := by
  split
  case isTrue h => rw [h, State.chan_setChan_same]
  case isFalse h => rw [State.chan_setChan_other _ _ _ _ (Ne.symm h)]

/-- The sum of figures of a range lies between the multiples of its ends. -/
theorem sumOf_between {lo hi : Int} {l : List Int} (h : ∀ v ∈ l, lo ≤ v ∧ v ≤ hi) :
    lo * l.length ≤ sumOf l ∧ sumOf l ≤ hi * l.length := by
  induction l with
  | nil => simp
  | cons v l ih =>
    obtain ⟨lower, upper⟩ := ih fun u hu => h u (List.mem_cons_of_mem _ hu)
    obtain ⟨above, below⟩ := h v List.mem_cons_self
    simp only [List.length_cons, sumOf_cons, Nat.cast_add, Nat.cast_one, mul_add, mul_one]
    exact ⟨by omega, by omega⟩

/-- The mean of figures of a range lies in it. -/
theorem meanOf_between {lo hi : Int} {l : List Int} (hl : l ≠ []) (h : ∀ v ∈ l, lo ≤ v ∧ v ≤ hi) :
    lo ≤ meanOf l ∧ meanOf l ≤ hi := by
  have some : (0 : Int) < l.length := by exact_mod_cast List.length_pos_iff.mpr hl
  obtain ⟨lower, upper⟩ := sumOf_between h
  have le := Int.tdiv_le_tdiv some lower
  have ge := Int.tdiv_le_tdiv some upper
  rw [Int.mul_tdiv_cancel _ some.ne'] at le ge
  exact ⟨le, ge⟩

theorem mem_pushWindow {n : Nat} {l : List Int} {v u : Int} (h : u ∈ pushWindow n l v) : u ∈ l ∨ u = v := by
  unfold pushWindow at h
  split at h <;> simp only [List.mem_append, List.mem_singleton] at h
  · exact h.imp_left List.mem_of_mem_tail
  · exact h

theorem pushWindow_length {n : Nat} {l : List Int} (hn : 1 ≤ n) (h : l.length ≤ n) (v : Int) : (pushWindow n l v).length ≤ n := by
  unfold pushWindow
  split <;> simp only [List.length_append, List.length_tail, List.length_singleton] <;> omega

theorem pushWindow_ne_nil (n : Nat) (l : List Int) (v : Int) : pushWindow n l v ≠ [] := by
  unfold pushWindow
  split <;> simp

theorem Channel.accept_inRange {c : Channel} (h : c.inRange) (raw : Int) (t : Nat) : (c.accept raw t).inRange := by
  have taken := clampTo_mem h.range (engineering c.p raw)
  have values : ∀ u ∈ pushWindow c.p.length c.window (conditioned c.p raw), c.p.rangeLow ≤ u ∧ u ≤ c.p.rangeHigh := fun u hu =>
    (mem_pushWindow hu).elim (h.window.2 u) fun e => e ▸ taken
  exact ⟨h.range, h.length, ⟨pushWindow_length h.length h.window.1 _, values⟩, taken,
    meanOf_between (pushWindow_ne_nil _ _ _) values⟩

theorem clearedChannel_inRange {p : ChanParams} (hr : p.rangeLow ≤ p.rangeHigh) (hl : 1 ≤ p.length) (t : Nat) :
    (clearedChannel p t).inRange :=
  ⟨hr, hl, ⟨Nat.zero_le _, by simp [clearedChannel]⟩, clampTo_mem hr 0, clampTo_mem hr 0⟩

theorem State.setChan_keeps {s : State} {c : Fin 96} {x : Channel}
    (hp : s.tablesInRange → x.present = true → chanParams x.p.toWords = some x.p) : Keeps [.chans] s (s.setChan c x) := by
  refine Leaves.keeps (.intro ?_ (tables := .inr fun h => { h with chans := fun d => ?_ }))
  · intro a ha
    cases a <;> first | rfl | exact absurd (by decide) ha
  · rw [State.chan_setChan]
    split
    case isTrue => exact hp h
    case isFalse => exact h.chans d

/-- A channel that is replaced: its key is no other's, and its figures are in range. -/
theorem State.setChan_preserves {s : State} {c : Fin 96} {x : Channel}
    (hp : s.tablesInRange → x.present = true → chanParams x.p.toWords = some x.p)
    (hk : s.tapMapUnique → x.present = true → ∀ d, d ≠ c → (s.chan d).present = true →
      ¬ ((s.chan d).p.source = x.p.source ∧ (s.chan d).p.slot = x.p.slot))
    (hr : s.channelsInRange → x.present = true → x.inRange) : Preserves [.chans] s (s.setChan c x) := by
  refine (State.setChan_keeps hp).preserves (tap := .inr fun h d e => ?_) (chans := .inr fun h d => ?_)
  · rw [State.chan_setChan, State.chan_setChan]
    split <;> split <;> intro hd he source slot
    case isTrue.isTrue a b => rw [a, b]
    case isTrue.isFalse a b => exact absurd ⟨source.symm, slot.symm⟩ (hk h hd e b he)
    case isFalse.isTrue a b => exact absurd ⟨source, slot⟩ (hk h he d a hd)
    case isFalse.isFalse => exact h d e hd he source slot
  · rw [State.chan_setChan]
    split
    case isTrue => exact hr h
    case isFalse => exact h d

/-- A channel that keeps its parameters. -/
theorem State.setChan_preserves_same {s : State} {c : Fin 96} {x : Channel} (hp : x.p = (s.chan c).p)
    (hr : (s.chan c).inRange → x.inRange) : Preserves [.chans] s (s.setChan c x) := by
  have present : x.present = (s.chan c).present := by rw [Channel.present, hp, Channel.present]
  refine State.setChan_preserves (fun h k => ?_) (fun h k d hd hp' ⟨source, slot⟩ => ?_) fun h k => hr (h c (present ▸ k))
  · rw [hp]; exact h.chans c (present ▸ k)
  · rw [hp] at source slot
    exact hd (h d c hp' (present ▸ k) source slot)

/-! ## Delivery -/

/-- What an accepted reading may touch. -/
abbrev tapped : List Aspect := .chans :: .stores :: triggered

theorem State.deliverValue_keeps (s : State) (n t : Nat) : Keeps (.stores :: triggered) s (s.deliverValue n t) := by
  have caverns (l : List (Fin 4)) (u : State) : Keeps [.caverns] u
      (l.foldl (fun s c => if (s.cavern c).names n then s.cavernValue c (s.viewOf n .pressure) t else s) u) :=
    .foldl (fun s c => .ite (fun _ => s.cavernValue_keeps c _ t) fun _ => .refl _ s) l u
  have stores (l : List (Fin 3)) (u : State) : Keeps [.stores] u
      (l.foldl (fun s m => s.layerEvent n (s.viewOf n .temperature) m) u) :=
    .foldl (fun s m => s.layerEvent_keeps n _ m) l u
  unfold State.deliverValue
  refine Keeps.trans ?_ (.ite (fun _ => (State.gridValue_keeps _ _ _).mono (by decide)) fun _ => .refl _ _)
  refine Keeps.trans ?_ (.ite (fun _ => (stores _ _).mono (by decide)) fun _ => .refl _ _)
  exact .ite (fun _ => (caverns _ _).mono (by decide)) fun _ => .refl _ _

theorem State.deliverQuality_keeps (s : State) (n : Nat) : Keeps [.caverns, .stores] s (s.deliverQuality n) := by
  unfold State.deliverQuality
  refine Keeps.trans ?_ (.foldl (fun s m => (s.layerEvent_keeps n _ m).mono (by decide)) _ _)
  exact .foldl (fun s c => .ite (fun _ => (s.cavernQuality_keeps c _).mono (by decide)) fun _ => .refl _ s) _ _

theorem State.gridStale_keeps (s : State) (n : Nat) (last : Option Nat) : Keeps [.grid] s (s.gridStale n last) := by
  unfold State.gridStale
  refine .ite (fun _ => ?_) fun _ => .refl _ s
  exact ((State.notify_own s _ _ _).andThen (State.enterFallback_keeps _)).trans (State.evalDev_keeps _)

theorem State.gridRewritten_keeps (s : State) (n : Nat) : Keeps [.grid] s (s.gridRewritten n) := by
  unfold State.gridRewritten
  exact .ite (fun _ => (s.enterFallback_keeps).trans (State.evalDev_keeps _)) fun _ => .refl _ s

/-! ## Readings and freshness -/

theorem State.takeReading_preserves (node : Nat) (s : State) (r : Reading) : Preserves tapped s (State.takeReading node s r) := by
  unfold State.takeReading
  split
  case h_1 => exact .refl _ s
  case h_2 c _ =>
    refine .ite (fun _ => ?_) fun _ => ?_
    · exact Preserves.mono (A := [.chans]) (State.setChan_preserves_same rfl fun h => ⟨h.range, h.length, h.window, h.inst, h.avg⟩)
        (by decide)
    · refine Preserves.trans ?_ ((State.deliverValue_keeps _ _ _).preserves.mono (by decide))
      exact Preserves.mono (A := [.chans]) (State.setChan_preserves_same rfl fun h => Channel.accept_inRange h _ _) (by decide)

theorem State.tapSample_preserves (s : State) (f : Frame) : Preserves tapped s (s.tapSample f) := by
  unfold State.tapSample
  split
  · exact .refl _ s
  · exact .foldl (State.takeReading_preserves _) _ s

theorem State.freshnessExpired_preserves (s : State) (c : Fin 96) :
    Preserves [.chans, .caverns, .stores, .grid] s (s.freshnessExpired c) := by
  have marked (q : Quality) : Preserves [.chans] s (s.setChan c { s.chan c with timer := none, quality := q }) :=
    State.setChan_preserves_same rfl fun h => ⟨h.range, h.length, h.window, h.inst, h.avg⟩
  unfold State.freshnessExpired
  refine .ite (fun _ => .ite (fun _ => (marked _).mono (by decide)) fun _ => ?_) fun _ => (marked _).mono (by decide)
  refine Preserves.trans ?_ ((State.gridStale_keeps _ _ _).preserves.mono (by decide))
  exact ((marked _).mono (by decide)).trans ((State.deliverQuality_keeps _ _).preserves.mono (by decide))

/-! ## Channel writes -/

theorem State.keyTaken_eq_false {s : State} {c : Fin 96} {p : ChanParams} (h : s.keyTaken c p = false) {d : Fin 96} (hd : d ≠ c)
    (hp : (s.chan d).present = true) : ¬ ((s.chan d).p.source = p.source ∧ (s.chan d).p.slot = p.slot) := by
  intro ⟨source, slot⟩
  have := List.any_eq_false.mp h d (List.mem_finRange d)
  simp [hd, hp, source, slot] at this

theorem State.writeChannel_preserves {s : State} {c : Fin 96} {p : ChanParams} {ws : List Word} (hp : chanParams ws = some p)
    (hk : p.source ≠ 0 → s.keyTaken c p = false) :
    Preserves [.chans, .caverns, .stores, .grid] s (s.writeChannel c p) := by
  obtain ⟨rfl, range, length⟩ := chanParams_sound hp
  have cleared : Preserves [.chans] s (s.setChan c (clearedChannel p s.now)) :=
    State.setChan_preserves (fun _ _ => hp)
      (fun _ k d hd hpd => State.keyTaken_eq_false (hk (by simpa [Channel.present, clearedChannel] using k)) hd hpd)
      fun _ _ => clearedChannel_inRange range length _
  unfold State.writeChannel
  refine Preserves.trans ?_ ((State.gridRewritten_keeps _ _).preserves.mono (by decide))
  exact (cleared.mono (by decide)).trans ((State.deliverQuality_keeps _ _).preserves.mono (by decide))

end Sys2Proof.Machine
end
section
/-!
PROOFS. What a table entry, a TABLE frame, a directive and a query preserve (chapter 10).
-/

namespace Sys2Proof.Machine

/-! ## Cavern writes -/

/-- A cavern record is replaced, its parameters with it. -/
theorem State.writtenCavern_keeps {s : State} {c : Fin 4} {x : Cavern} (hm : (s.cavern c).markSound → x.markSound)
    (hf : (s.cavern c).bounded → x.bounded) (hp : x.p.present = true → cavernParams x.p.toWords = some x.p) :
    Keeps [.caverns, .cavernParams] s (s.setCavern c x) := by
  refine Leaves.keeps (.intro ?_ (marks := .inr fun h d => ?_) (factors := .inr fun h => ⟨fun d => ?_, h.stores⟩)
    (tables := .inr fun h => { h with caverns := fun d => ?_ }))
  · intro a ha
    cases a <;> first | rfl | exact absurd (by decide) ha
  all_goals
    rw [State.cavern_setCavern]
    split
  · exact hm (h c)
  · exact h d
  · exact hf (h.caverns c)
  · exact h.caverns d
  · exact hp
  · exact h.caverns d

theorem Cavern.written_markSound {x : Cavern} (p : CavernParams) (h : x.markSound) : (x.written p).markSound := by
  intro hm
  simp only [Cavern.written] at hm ⊢
  split at hm
  case isFalse => exact absurd rfl hm
  case isTrue =>
    split
    · exact h hm
    · exact ⟨nofun, nofun⟩

theorem Cavern.written_bounded {x : Cavern} (p : CavernParams) (h : x.bounded) : (x.written p).bounded := by
  have none : isFactor 0 := ⟨le_refl _, by norm_num⟩
  simp only [Cavern.bounded, Cavern.written]
  split
  · exact h
  · exact ⟨none, none⟩

theorem State.writeCavern_keeps {s : State} {c : Fin 4} {p : CavernParams} (hp : cavernParams p.toWords = some p) :
    Keeps [.caverns, .cavernParams] s (s.writeCavern c p) := by
  have written : Keeps [.caverns, .cavernParams] s (s.setCavern c ((s.cavern c).written p)) :=
    State.writtenCavern_keeps (Cavern.written_markSound p) (Cavern.written_bounded p) fun _ => hp
  generalize hu : s.setCavern c ((s.cavern c).written p) = u at written
  have seen : Keeps [.caverns, .cavernParams] s ((u.setCavern c ((u.cavern c).withView (u.pressure c))).evalHold c) := by
    refine Keeps.trans ?_ ((State.evalHold_keeps _ c).mono (by decide))
    exact written.trans ((State.setCavern_keeps (Cavern.withView_p _ _) (Cavern.withView_markSound _) (Cavern.withView_bounded _)).mono
      (by decide))
  simp only [State.writeCavern, hu]
  refine .ite (fun _ => ?_) fun _ => written
  exact .ite (fun _ => seen) fun _ => .ite (fun _ => seen.trans ((State.reopen_keeps _ c).mono (by decide))) fun _ => seen

/-! ## Store writes -/

/-- A store record is replaced, its parameters with it. -/
theorem State.writtenStore_keeps {s : State} {m : Fin 3} {x : Store} (hf : x.bounded)
    (hp : x.p.present = true → storeParams x.p.toWords = some x.p) : Keeps [.stores, .storeParams] s (s.setStore m x) := by
  refine Leaves.keeps (.intro ?_ (factors := .inr fun h => ⟨h.caverns, fun n => ?_⟩)
    (tables := .inr fun h => { h with stores := fun n => ?_ }))
  · intro a ha
    cases a <;> first | rfl | exact absurd (by decide) ha
  all_goals
    rw [State.store_setStore]
    split
  · exact hf
  · exact h.stores n
  · exact hp
  · exact h.stores n

theorem State.writeStore_keeps {s : State} {m : Fin 3} {p : StoreParams} (hp : storeParams p.toWords = some p) :
    Keeps [.stores, .storeParams] s (s.writeStore m p) := by
  unfold State.writeStore
  refine Keeps.own (State.writtenStore_keeps ?_ ?_) (State.storeNotice_own _ _ _) <;> split
  · exact Store.recomputed_bounded _
  · exact Store.emptied_bounded _
  · exact fun _ => hp
  · exact fun _ => hp

/-! ## Train writes -/

/-- A train that is OFFLINE or absent before and after its record is replaced, its parameters with it. -/
theorem State.writtenTrain_keeps {s : State} {i : Fin 8} {x : Train} (old : ∀ st, st ≠ .offline → (s.train i).isIn st = false)
    (new : ∀ st, st ≠ .offline → x.isIn st = false) (hs : x.stack = (s.train i).stack)
    (hsp : (s.train i).setpoint = 0 → x.setpoint = 0) (hp : x.present = true → trainParams x.p.toWords = some x.p) :
    Keeps [.trains, .trainParams] s (s.setTrain i x) := by
  have isIn (j : Fin 8) {st : TrainState} (h : st ≠ .offline) : ((s.setTrain i x).train j).isIn st = (s.train j).isIn st := by
    rw [State.train_setTrain]
    split
    case isTrue e => rw [e, new st h, old st h]
    case isFalse => rfl
  refine Leaves.keeps (.intro ?_ (tables := .inr fun h => { h with trains := fun j => ?_ })) (converter := .inr fun h => ?_)
    (follows := .inr fun h j => ?_) (setpoints := .inr fun _ _ _ h j => ?_)
  · intro a ha
    cases a <;> first | rfl | exact absurd (by decide) ha | skip
    funext j
    simp only [Aspect.read, State.train_setTrain]
    split
    case isTrue e => rw [e, hs]
    case isFalse => rfl
  · rw [State.train_setTrain]
    split
    case isTrue => exact hp
    case isFalse => exact h.trains j
  · exact ⟨fun j => by rw [isIn j (by decide)]; exact h.busy j, h.once, fun j => by rw [isIn j (by decide)]; exact h.waiting j⟩
  · rw [isIn j (by decide), isIn j (by decide)]
    intro carries
    by_cases e : j = i
    · subst e
      rw [old _ (by decide), old _ (by decide)] at carries
      simp at carries
    · rw [State.train_setTrain, if_neg e]
      exact h j carries
  · rw [isIn j (by decide)]
    have := h j
    by_cases e : j = i
    · subst e
      rw [old _ (by decide), if_neg Bool.false_ne_true] at this ⊢
      rw [State.train_setTrain, if_pos rfl]
      exact ⟨hsp this.1, this.2⟩
    · rw [State.train_setTrain, if_neg e]
      exact this

theorem Train.isIn_eq_false {t : Train} (h : t.present = false ∨ t.state = .offline) {st : TrainState} (hst : st ≠ .offline) :
    t.isIn st = false := by
  refine Bool.eq_false_iff.mpr fun k => ?_
  obtain ⟨hp, hs⟩ := (Train.isIn_iff t st).mp k
  rcases h with h | h
  · rw [h] at hp; cases hp
  · exact hst (hs ▸ h)

theorem State.writeTrain_keeps {s : State} {i : Fin 8} {p : TrainParams} (hp : trainParams p.toWords = some p)
    (ho : (s.train i).present = true → (s.train i).state = .offline) : Keeps [.trains, .trainParams] s (s.writeTrain i p) := by
  have old : ∀ st, st ≠ .offline → (s.train i).isIn st = false := fun st h => by
    refine Train.isIn_eq_false ?_ h
    cases hpr : (s.train i).present
    · exact .inl rfl
    · exact .inr (ho hpr)
  have told (u : State) (a b : Item) : Own u (u.trainNotice i a b .write) := State.notify_own _ _ _ _
  unfold State.writeTrain
  refine .ite (fun ha => ?_) fun _ => .ite (fun hpr => ?_) fun _ => ?_
  · have absent : ((s.train i).dropped p).present = false := by simp [Train.present, Train.dropped, ha]
    have dropped : Keeps [.trains, .trainParams] s (s.setTrain i ((s.train i).dropped p)) :=
      State.writtenTrain_keeps old (fun _ => Train.isIn_eq_false (.inl absent)) rfl (fun _ => rfl) fun h => by rw [absent] at h; cases h
    exact .ite (fun _ => dropped.own (told _ _ _)) fun _ => dropped
  · exact State.writtenTrain_keeps old (fun _ => Train.isIn_eq_false (t := { s.train i with p := p }) (.inr (ho hpr))) rfl id fun _ => hp
  · have entered : Keeps [.trains, .trainParams] s (s.setTrain i ((s.train i).entered p s.now)) :=
      State.writtenTrain_keeps old (fun _ => Train.isIn_eq_false (.inr rfl)) rfl (fun _ => rfl) fun _ => hp
    exact entered.own (told _ _ _)

/-! ## Entries -/

/-- What a table entry may touch. -/
abbrev written : List Aspect := [.mgr, .plant, .grid, .sched, .table, .trains, .disp, .conv, .manifold, .caverns, .sets, .chans, .stores,
  .cavernParams, .storeParams, .trainParams]

theorem State.plantEntry_preserves (s : State) (ws : List Word) : Preserves written s (s.plantEntry ws).2 := by
  unfold State.plantEntry
  split
  case isTrue => exact .refl _ s
  case isFalse =>
    split
    case h_1 => exact .refl _ s
    case h_2 p hp =>
      split
      case isTrue => exact .refl _ s
      case isFalse => exact (State.writePlant_preserves ((plantParams_sound hp).1 ▸ hp)).mono (by decide)

theorem State.dispatchEntry_preserves (s : State) (ws : List Word) : Preserves written s (s.dispatchEntry ws).2 := by
  unfold State.dispatchEntry
  split
  case h_1 => exact .refl _ s
  case h_2 p hp =>
    have replaced : Keeps [.disp, .sets] s { s with disp := { s.disp with next := p } } :=
      State.withSets_keeps rfl rfl fun h => ⟨h.active, dispatchParams_words hp ▸ hp⟩
    exact replaced.preserves.mono (by decide)

theorem State.checkEntry_preserves (s : State) (ws : List Word) : Preserves written s (s.checkEntry ws).2 := by
  unfold State.checkEntry
  split
  case h_1 w =>
    have replaced : Preserves [.mgr] s { s with mgr := { s.mgr with checkWord := w } } := State.withMgr_preserves rfl
    exact replaced.mono (by decide)
  case h_2 => exact .refl _ s

theorem State.channelEntry_preserves (s : State) (c : Fin 96) (ws : List Word) : Preserves written s (s.channelEntry c ws).2 := by
  unfold State.channelEntry
  split
  case h_1 => exact .refl _ s
  case h_2 p hp =>
    split
    case isTrue => exact .refl _ s
    case isFalse =>
      split
      case isTrue => exact .refl _ s
      case isFalse hk =>
        have free : p.source ≠ 0 → s.keyTaken c p = false := fun h => by simpa [h] using hk
        dsimp only
        exact (State.writeChannel_preserves hp free).mono (by decide)

theorem State.cavernEntry_preserves (s : State) (c : Fin 4) (ws : List Word) : Preserves written s (s.cavernEntry c ws).2 := by
  unfold State.cavernEntry
  split
  case isTrue => exact .refl _ s
  case isFalse =>
    split
    case h_1 => exact .refl _ s
    case h_2 p hp =>
      split
      case isTrue => exact .refl _ s
      case isFalse =>
        split
        case isTrue => exact .refl _ s
        case isFalse => exact (State.writeCavern_keeps (cavernParams_words hp ▸ hp)).preserves.mono (by decide)

theorem State.storeEntry_preserves (s : State) (m : Fin 3) (ws : List Word) : Preserves written s (s.storeEntry m ws).2 := by
  unfold State.storeEntry
  split
  case isTrue => exact .refl _ s
  case isFalse =>
    split
    case h_1 => exact .refl _ s
    case h_2 p hp =>
      split
      case isTrue => exact .refl _ s
      case isFalse => exact (State.writeStore_keeps (storeParams_words hp ▸ hp)).preserves.mono (by decide)

theorem State.trainEntry_preserves (s : State) (i : Fin 8) (ws : List Word) : Preserves written s (s.trainEntry i ws).2 := by
  unfold State.trainEntry
  split
  case isTrue => exact .refl _ s
  case isFalse ho =>
    split
    case h_1 => exact .refl _ s
    case h_2 p hp =>
      split
      case isTrue => exact .refl _ s
      case isFalse =>
        split
        case isTrue => exact .refl _ s
        case isFalse =>
          have offline : (s.train i).present = true → (s.train i).state = .offline := fun h => by simpa [h] using ho
          exact (State.writeTrain_keeps ((trainParams_sound hp).1 ▸ hp) offline).preserves.mono (by decide)

theorem State.entryAt_preserves (s : State) (t : TableId) (n : Nat) (ws : List Word) : Preserves written s (s.entryAt t n ws).2 := by
  unfold State.entryAt
  split <;> split
  case h_1.isTrue => exact s.plantEntry_preserves ws
  case h_2.isTrue => exact s.dispatchEntry_preserves ws
  case h_3.isTrue => exact s.channelEntry_preserves _ ws
  case h_4.isTrue => exact s.cavernEntry_preserves _ ws
  case h_5.isTrue => exact s.storeEntry_preserves _ ws
  case h_6.isTrue => exact s.trainEntry_preserves _ ws
  case h_7.isTrue => exact s.checkEntry_preserves ws
  all_goals exact .refl _ s

theorem State.takeTableEntry_preserves (s : State) (t : TableId) (n : Nat) (ws : List Word) :
    Preserves written s (s.takeTableEntry t n ws).2 := by
  have entered := s.entryAt_preserves t n ws
  simp only [State.takeTableEntry]
  split
  case isTrue => exact entered.trans ((State.editQuiet_keeps _).preserves.mono (by decide))
  case isFalse => exact entered

theorem State.takeTable_preserves (t : TableId) (n k : Nat) (l : List (List Word)) (s : State) :
    Preserves written s (State.takeTable t n k l s).2.2 := by
  induction n generalizing k l s with
  | zero => exact .refl _ s
  | succ n ih =>
    cases l with
    | nil => exact .refl _ s
    | cons w l => exact (s.takeTableEntry_preserves t k w).trans (ih _ _ _)

/-! ## TABLE frames -/

theorem State.goOn_preserves (s : State) (w : TableWork) (n : Nat) : Preserves written s (s.goOn w n) := by
  have taken := State.takeTable_preserves w.table n w.index w.left s
  have held (o : Option TableWork) : Preserves written s { (State.takeTable w.table n w.index w.left s).2.2 with
      mgr := { (State.takeTable w.table n w.index w.left s).2.2.mgr with work := o } } :=
    taken.trans (Preserves.mono (A := [.mgr]) (State.withMgr_preserves rfl) (by decide))
  unfold State.goOn
  exact .ite (fun _ => (held none).own (State.answer_own _ _ _ _)) fun _ => held _

theorem State.finishWork_preserves (s : State) : Preserves written s s.finishWork := by
  unfold State.finishWork
  split
  · exact .refl _ s
  · exact s.goOn_preserves _ _

theorem State.moreWork_preserves (s : State) (t : TableId) (n : Nat) : Preserves written s (s.moreWork t n) := by
  unfold State.moreWork
  split
  · exact .refl _ s
  · exact .ite (fun _ => s.goOn_preserves _ _) fun _ => .refl _ s

theorem State.takeTableFrame_preserves (s : State) (f : Frame) (n : Nat) : Preserves written s (s.takeTableFrame f n) := by
  unfold State.takeTableFrame
  split
  · exact s.finishWork_preserves.own (State.answer_own _ _ _ _)
  · exact s.finishWork_preserves.trans (State.goOn_preserves _ _ _)

end Sys2Proof.Machine
end
section
/-!
PROOFS. What the consumed frames preserve, the resets apart (section 9.2, chapter 10).
-/

namespace Sys2Proof.Machine

/-! ## Directives -/

/-- What a management frame that is no reset may touch. -/
abbrev managed : List Aspect := [.mgr, .plant, .grid, .sched, .table, .trains, .disp, .conv, .manifold, .caverns, .sets, .chans, .stores,
  .cavernParams, .storeParams, .trainParams, .clock, .clockState, .mode, .commit, .stacks]

theorem State.trainAvailTaken_preserves (s : State) (n v : Nat) : Preserves [.trains] s (s.trainAvailTaken n v).2 := by
  unfold State.trainAvailTaken
  split
  case isFalse => exact .refl _ s
  case isTrue h =>
    split
    case isTrue => exact .refl _ s
    case isFalse =>
      dsimp only
      split
      case isTrue => exact .refl _ s
      case isFalse =>
        split
        case isTrue => exact .refl _ s
        case isFalse =>
          have set : Keeps [.trains] s (s.setTrain ⟨n, h⟩ { s.train ⟨n, h⟩ with available := v == 0 }) :=
            State.setTrain_keeps rfl rfl rfl rfl
          exact (set.own (State.notify_own _ _ _ _)).preserves

theorem State.latchCleared_preserves (s : State) : Preserves [.grid] s s.latchCleared.2 := by
  unfold State.latchCleared
  split
  · exact .refl _ s
  · exact (s.withGrid_keeps _).preserves

theorem State.directiveTaken_preserves {s : State} {f : Frame}
    (hr : ∀ c a b d e, directiveBody f.body = some (c, a, b, d, e) → c.toNat = 6 →
      s.resetTaken (word32 a b d e).toNat f.src f.seq = none) : Preserves managed s (s.directiveTaken f) := by
  have own (t : State) (cs : List Code) (l : List Item) : Own t (t.answer f cs l) := State.answer_own t f cs l
  unfold State.directiveTaken
  split
  case h_1 => exact (own s _ _).preserves
  case h_2 c a b d e hb =>
    split
    case h_1 =>
      have taken := s.requestMode_preserves (word32 a b d e).toNat
      exact (taken.mono (by decide)).own (own _ _ _)
    case h_2 =>
      have taken := (s.trimTaken_keeps (word32 a b d e).toInt).preserves
      exact (taken.mono (by decide)).own (own _ _ _)
    case h_3 => exact (s.swapTaken_keeps.preserves.mono (by decide)).own (own _ _ _)
    case h_4 => exact (s.latchCleared_preserves.mono (by decide)).own (own _ _ _)
    case h_5 => exact ((s.trainAvailTaken_preserves a.toNat b.toNat).mono (by decide)).own (own _ _ _)
    case h_6 hc =>
      rw [State.resetDirective, hr c a b d e hb hc]
      exact (own s _ _).preserves
    case h_7 => exact (own s _ _).preserves

/-! ## Queries -/

theorem State.captureRead_keeps (s : State) (n : Nat) : Keeps [.trains, .stacks] s (s.captureRead n) := by
  unfold State.captureRead
  split
  · refine State.setTrain_keeps_stacked rfl rfl rfl fun h => ?_
    rw [List.length_tail]
    omega
  · exact .refl _ s

theorem State.queryTaken_preserves (s : State) (f : Frame) : Preserves [.trains, .stacks] s (s.queryTaken f) := by
  unfold State.queryTaken
  split
  · exact (State.answer_own _ _ _ _).preserves
  · split
    · exact (State.answer_own _ _ _ _).preserves
    · split
      · exact (State.answer_own _ _ _ _).preserves
      · exact .ite (fun _ => ((State.reply_own _ _ _ _).andThen (State.captureRead_keeps _ _)).preserves) fun _ =>
          (State.reply_own _ _ _ _).preserves

/-! ## Management frames -/

theorem State.scheduleTaken_preserves (s : State) (f : Frame) : Preserves [.sched, .table] s (s.scheduleTaken f) := by
  unfold State.scheduleTaken
  split
  · exact (State.answer_own _ _ _ _).preserves
  · exact (State.takeEntries_preserves _ s).own (State.answer_own _ _ _ _)

theorem State.timeFrame_preserves (s : State) (f : Frame) : Preserves timed s (s.timeFrame f) := by
  unfold State.timeFrame
  split
  · exact (State.answer_own _ _ _ _).preserves
  · exact (s.timeTaken_preserves _ _).own (State.answer_own _ _ _ _)

/-- The reset of a frame, if it is an accepted RESET directive of a known kind. -/
def State.resetOf (s : State) (f : Frame) : Option State :=
  match directiveBody f.body with
  | some (c, a, b, d, e) => if f.kind = kDirective ∧ c.toNat = 6 then s.resetTaken (word32 a b d e).toNat f.src f.seq else none
  | none => none

theorem State.management_preserves {s : State} {f : Frame} (hr : s.resetOf f = none) (n : Nat) :
    Preserves managed s (s.management f n) := by
  unfold State.management
  split
  case isTrue hk =>
    refine State.directiveTaken_preserves fun c a b d e hb hc => ?_
    simpa only [State.resetOf, hb, hk, hc, and_self, if_true] using hr
  case isFalse =>
    split
    · exact (s.takeTableFrame_preserves f n).mono (by decide)
    · split
      · exact (s.scheduleTaken_preserves f).mono (by decide)
      · split
        · exact (s.timeFrame_preserves f).mono (by decide)
        · exact (s.queryTaken_preserves f).mono (by decide)

/-- An accepted RESET directive of a known kind leaves the reset state and nothing else. -/
theorem State.management_reset {s t : State} {f : Frame} (hr : s.resetOf f = some t) (n : Nat) : s.management f n = t := by
  unfold State.resetOf at hr
  split at hr
  case h_2 => cases hr
  case h_1 c a b d e hb =>
    split at hr
    case isFalse => cases hr
    case isTrue h =>
      rw [State.management, if_pos h.1, State.directiveTaken, hb]
      simp only [h.2, State.resetDirective, hr]

end Sys2Proof.Machine
end
section
/-!
PROOFS. What a received frame does to the counts of the ring, and what the order guard preserves (chapters 8 and 9).
-/

namespace Sys2Proof.Machine

/-! ## Counts -/

/-- What `Preserves` says, while the balance of the counts moves by `k`. -/
structure Weighs (A : List Aspect) (k : Word) (s t : State) : Prop extends Preserves A s t where
  weight : t.ring.balance = s.ring.balance + k

theorem Preserves.weighs {A : List Aspect} {s t : State} (h : Preserves A s t) (hA : Aspect.balance ∉ A) : Weighs A 0 s t where
  toPreserves := h
  weight := by
    have balance : t.ring.balance = s.ring.balance := h.agree .balance hA
    rw [balance, add_zero]

theorem Weighs.trans {A : List Aspect} {j k : Word} {a b c : State} (h : Weighs A j a b) (g : Weighs A k b c) : Weighs A (j + k) a c where
  toPreserves := h.toPreserves.trans g.toPreserves
  weight := by rw [g.weight, h.weight, add_assoc]

theorem Weighs.mono {A B : List Aspect} {k : Word} {s t : State} (h : Weighs A k s t) (hs : A ⊆ B) : Weighs B k s t :=
  { h with toPreserves := h.toPreserves.mono hs }

/-- What follows without a change of the counts. -/
theorem Weighs.thenPreserves {A B : List Aspect} {k : Word} {s t u : State} (h : Weighs A k s t) (g : Preserves B t u)
    (hA : A ⊆ .balance :: B := by decide) (hB : Aspect.balance ∉ B := by decide) : Weighs (.balance :: B) k s u where
  toPreserves := (h.toPreserves.mono hA).trans (g.mono (List.subset_cons_self _ _))
  weight := by
    have balance : u.ring.balance = t.ring.balance := g.agree .balance hB
    rw [balance, h.weight]

theorem Weighs.own {A : List Aspect} {k : Word} {s t u : State} (h : Weighs A k s t) (g : Own t u) : Weighs A k s u where
  toPreserves := h.toPreserves.own g
  weight := by
    have balance : u.ring.balance = t.ring.balance := g.agree .balance (by decide)
    rw [balance, h.weight]

theorem Weighs.ite {A : List Aspect} {k : Word} {p : Prop} [Decidable p] {s t u : State} (ht : p → Weighs A k s t)
    (hu : ¬ p → Weighs A k s u) : Weighs A k s (if p then t else u) := by
  split
  case isTrue h => exact ht h
  case isFalse h => exact hu h

/-- A change of the counts alone. -/
theorem State.withCounts {s : State} {r : Ring} {k : Word} (hb : r.balance = s.ring.balance + k)
    (hr : RingBounded s.ring s.rep → RingBounded r s.rep) (hp : s.portSound → ({ s with ring := r } : State).portSound)
    (hc : r.continuity = s.ring.continuity) : Weighs [.balance] k s { s with ring := r } where
  toPreserves := by
    refine Keeps.preserves (Leaves.keeps (.intro ?_ hr hp))
    intro a ha
    cases a <;> first | rfl | exact absurd (by decide) ha | exact hc
  weight := hb

theorem State.countReceived_weighs (s : State) : Weighs [.balance] 1 s s.countReceived :=
  State.withCounts (by simp only [Ring.balance]; ring) (fun h => ⟨h.forward, h.orders, h.reports, h.notices, h.returns, h.run⟩) id rfl

theorem State.countDropped_weighs (s : State) : Weighs [.balance] (-1) s s.countDropped :=
  State.withCounts (by simp only [Ring.balance]; ring) (fun h => ⟨h.forward, h.orders, h.reports, h.notices, h.returns, h.run⟩) id rfl

theorem State.countConsumed_weighs (s : State) : Weighs [.balance] (-1) s s.countConsumed :=
  State.withCounts (by simp only [Ring.balance]; ring) (fun h => ⟨h.forward, h.orders, h.reports, h.notices, h.returns, h.run⟩) id rfl

theorem State.countStripped_weighs (s : State) : Weighs [.balance] (-1) s s.countStripped :=
  State.withCounts (by simp only [Ring.balance]; ring) (fun h => ⟨h.forward, h.orders, h.reports, h.notices, h.returns, h.run⟩) id rfl

theorem State.countWithheld_weighs (s : State) : Weighs [.balance] (-1) s s.countWithheld :=
  State.withCounts (by simp only [Ring.balance]; ring) (fun h => ⟨h.forward, h.orders, h.reports, h.notices, h.returns, h.run⟩) id rfl

theorem State.forwardRoom_iff (s : State) : s.forwardRoom = true ↔ s.ring.forward.length < 24 := decide_eq_true_iff

theorem State.enqueue_weighs {s : State} (h : s.forwardRoom = true) (f : Frame) : Weighs [.balance] (-1) s (s.enqueue f) := by
  have room := s.forwardRoom_iff.mp h
  obtain ⟨r, p, sent, kept⟩ := State.pump_sends { s with ring := { s.ring with forward := s.ring.forward ++ [f] } }
  have sound := State.pump_portSound { s with ring := { s.ring with forward := s.ring.forward ++ [f] } }
  have queued : ({ s.ring with forward := s.ring.forward ++ [f] } : Ring).balance = s.ring.balance + (-1) := by
    simp only [Ring.balance, List.length_append, List.length_singleton, BitVec.ofNat_add]
    change _ - (_ + (_ + (1 : Word))) = _
    ring
  unfold State.enqueue
  rw [sent] at sound ⊢
  refine ⟨Keeps.preserves (Leaves.keeps (.intro ?_ (fun hb => kept.bounded ?_) fun _ => sound)), kept.balance.trans queued⟩
  · intro a ha
    cases a <;> first | rfl | exact absurd (by decide) ha | exact kept.continuity
  · exact ⟨by simp only [List.length_append, List.length_singleton]; omega, hb.orders, hb.reports, hb.notices, hb.returns, hb.run⟩

theorem State.forwardOrDrop_weighs (s : State) (f : Frame) : Weighs [.balance] (-1) s (s.forwardOrDrop f) := by
  unfold State.forwardOrDrop
  exact .ite (fun h => State.enqueue_weighs h f) fun _ => s.countDropped_weighs

/-! ## The guard -/

/-- What the order guard may touch. -/
abbrev passing : List Aspect := .balance :: moved

theorem State.refuse_weighs (s : State) (f : Frame) (x : SourceRecord) (i : Item) (c : Code) :
    Weighs [.balance] (-1) s (s.refuse f x i c) := s.countWithheld_weighs.own (State.notify_own _ _ _ _)

theorem State.letThrough_weighs {s : State} {f : Frame} {v : Option Int} {move : State → State}
    (h : ∀ t, Agree [.balance] s t → Keeps moved t (move t)) : Weighs passing (-1) s (s.letThrough f v move) := by
  unfold State.letThrough
  refine .ite (fun room => ?_) fun _ => s.countDropped_weighs.mono (by decide)
  have queued := State.enqueue_weighs room (guarded f v)
  exact queued.thenPreserves (h _ queued.agree).preserves

theorem State.refuseTrain_weighs (s : State) (f : Frame) (i : Fin 8) (c : Code) : Weighs passing (-1) s (s.refuseTrain f i c) :=
  (s.refuse_weighs f _ _ c).mono (by decide)

theorem State.guardStart_weighs {s : State} {i : Fin 8} (hp : (s.train i).present = true) (f : Frame) :
    Weighs passing (-1) s (s.guardStart f i) := by
  unfold State.guardStart
  split
  case h_1 => exact s.refuseTrain_weighs f i _
  case h_2 ha =>
    have standby := admission_start ha
    refine .ite (fun _ => s.refuseTrain_weighs f i _) fun _ => .ite (fun ready => ?_) fun _ => ?_
    · refine State.letThrough_weighs fun t ht => State.startNow_keeps ?_ (by rw [ht.train (by decide)]; exact hp)
      have conv : t.conv = s.conv := ht .conv (by decide)
      rw [conv, (s.converterReady_iff.mp ready).1]
    · have queued : Keeps moved s.countWithheld (s.countWithheld.startQueued i 1) :=
        State.startQueued_keeps (s := s.countWithheld) hp (by change (s.train i).state ≠ _ ∧ (s.train i).state ≠ _; rw [standby]; decide) 1
      exact s.countWithheld_weighs.thenPreserves queued.preserves

theorem State.clampUpper_between (s : State) {i : Fin 8} (h : (s.train i).p.pMin ≤ (s.train i).p.pMax) :
    (s.train i).p.pMin ≤ s.clampUpper i ∧ s.clampUpper i ≤ (s.train i).p.pMax := by
  unfold State.clampUpper
  exact ⟨le_max_left _ _, max_le h (min_le_left _ _)⟩

theorem admission_setpoint {st : TrainState} (h : admission st .setpoint = none) : st = .loaded := by
  cases st <;> first | rfl | cases h

/-- A setpoint within the bounds of a loaded train becomes its record's and its track's. -/
theorem State.setpointTaken_keeps {s : State} {i : Fin 8} {f : Frame} {v w : Int} (hl : (s.train i).isIn .loaded = true)
    (hw : s.tablesInRange → (s.train i).p.pMin ≤ w ∧ w ≤ (s.train i).p.pMax) : Keeps moved s (s.setpointTaken f i v w) := by
  have train (j : Fin 8) : ((s.recordSetpoint i w).setTrack i w).train j =
      { s.train j with setpoint := if j = i then w else (s.train j).setpoint } := s.recordSetpoint_train i j w
  have isIn (j : Fin 8) (st : TrainState) : (((s.recordSetpoint i w).setTrack i w).train j).isIn st = (s.train j).isIn st := by
    rw [train]
    exact Train.isIn_congr rfl rfl st
  have set : Keeps moved s ((s.recordSetpoint i w).setTrack i w) := by
    refine (((s.recordSetpoint_leaves i w).mono (by decide)).trans ((State.setTrack_leaves _ i w).mono (by decide))).keeps
      (converter := .inr (State.converterSound_congr rfl isIn))
      (follows := .inr (State.manifoldFollows_congr rfl fun j => ⟨by rw [train], isIn j⟩))
      (setpoints := .inr fun _ ht _ h j => ?_)
    have track : ((s.recordSetpoint i w).setTrack i w).disp.tracks.get j = if j = i then w else s.disp.tracks.get j :=
      Vector.get_set _ _ _ _
    rw [isIn, train, track]
    by_cases e : j = i
    · subst e
      rw [if_pos hl]
      simp only [if_true]
      exact ⟨hw ht, hw ht⟩
    · simp only [if_neg e]
      exact h j
  unfold State.setpointTaken
  exact .ite (fun _ => set) fun _ => set.own (State.notify_own _ _ _ _)

theorem State.guardSetpoint_weighs {s : State} {i : Fin 8} (hp : (s.train i).present = true) (f : Frame) (v : Int) :
    Weighs passing (-1) s (s.guardSetpoint f i v) := by
  unfold State.guardSetpoint
  refine .ite (fun _ => (s.countWithheld_weighs.own (State.notify_own _ _ _ _)).mono (by decide)) fun _ => ?_
  split
  case h_1 => exact s.refuseTrain_weighs f i _
  case h_2 ha =>
    refine State.letThrough_weighs fun t ht => ?_
    have train : t.train i = s.train i := ht.train (by decide) i
    refine State.setpointTaken_keeps (by rw [train]; exact (Train.isIn_iff _ _).mpr ⟨hp, admission_setpoint ha⟩) fun hr => ?_
    have range := hr.trains i (by rw [train]; exact hp)
    rw [train] at range ⊢
    have upper := s.clampUpper_between (trainParams_sound range).2.2.1
    have between := clampTo_mem upper.1 v
    exact ⟨between.1, between.2.trans upper.2⟩

theorem State.guardOther_weighs (s : State) (f : Frame) (i : Fin 8) (o : Order) : Weighs passing (-1) s (s.guardOther f i o) := by
  unfold State.guardOther
  split
  case h_1 => exact s.refuseTrain_weighs f i _
  case h_2 hr =>
    refine State.letThrough_weighs fun t ht => State.takeOrder_keeps ?_
    rintro rfl -
    rw [State.orderRefusal] at hr
    split at hr
    case h_1 => cases hr
    case h_2 ha => exact State.mayCarry_of_agree ht (by decide) (State.mayCarry_of_load ha hr)

theorem State.guardTrain_weighs {s : State} {i : Fin 8} (hp : (s.train i).present = true) (f : Frame) (o : Order) (v : Int) :
    Weighs passing (-1) s (s.guardTrain f i o v) := by
  unfold State.guardTrain
  split
  · exact State.guardStart_weighs hp f
  · exact State.guardSetpoint_weighs hp f v
  · exact s.guardOther_weighs f i _

theorem valveNext_cases {v w : ValveState} {o : Order} (h : valveNext v o = some w) : w = .opening ∨ w = .closing := by
  unfold valveNext at h
  split at h <;> cases h
  · exact .inl rfl
  · exact .inl rfl
  · exact .inr rfl

theorem State.moveValve_keeps (s : State) (c : Fin 4) (o : Order) : Keeps [.caverns] s (s.moveValve c o) := by
  unfold State.moveValve
  split
  case h_1 => exact .refl _ s
  case h_2 v hv =>
    refine .ite (fun _ => ?_) fun ho => s.setValve_keeps c ?_
    · exact (State.setValve_setMark_keeps s c fun k => absurd rfl k).trans (State.isolate_keeps _ c)
    · rw [(valveNext_cases hv).resolve_left ho]
      decide

theorem State.guardValve_weighs (s : State) (f : Frame) (c : Fin 4) (o : Order) : Weighs passing (-1) s (s.guardValve f c o) := by
  unfold State.guardValve
  split
  · exact (s.refuse_weighs f _ _ _).mono (by decide)
  · exact State.letThrough_weighs fun t _ => (t.moveValve_keeps c o).mono (by decide)

theorem State.guardUnread_weighs (s : State) (f : Frame) : Weighs passing (-1) s (s.guardUnread f) := by
  unfold State.guardUnread
  split
  · exact (s.refuse_weighs f _ _ _).mono (by decide)
  · exact (s.forwardOrDrop_weighs f).mono (by decide)

theorem State.guardKnown_weighs (s : State) (f : Frame) (o : Order) (v : Int) : Weighs passing (-1) s (s.guardKnown f o v) := by
  have refused (x : SourceRecord) (i : Item) (c : Code) : Weighs passing (-1) s (s.refuse f x i c) :=
    (s.refuse_weighs f x i c).mono (by decide)
  unfold State.guardKnown
  refine .ite (fun _ => refused _ _ _) fun _ => ?_
  split
  case h_1 => exact (s.forwardOrDrop_weighs f).mono (by decide)
  case h_2 ht _ => exact .ite (fun _ => refused _ _ _) fun _ => State.guardTrain_weighs (State.trainAt_present ht) f o v
  case h_3 => exact .ite (fun _ => s.guardValve_weighs f _ o) fun _ => refused _ _ _
  case h_4 ht _ => exact .ite (fun _ => s.guardValve_weighs f _ o) fun _ => State.guardTrain_weighs (State.trainAt_present ht) f o v

theorem State.guard_weighs (s : State) (f : Frame) : Weighs passing (-1) s (s.guard f) := by
  unfold State.guard
  split
  · exact s.guardUnread_weighs f
  · split
    · exact s.guardUnread_weighs f
    · exact s.guardKnown_weighs f _ _

end Sys2Proof.Machine
end
section
/-!
PROOFS. The invariants over the resets (chapter 10.4), and what a step upholds: `Upholds s t`.
-/

namespace Sys2Proof.Machine

/-! ## What a step upholds -/

/-- Every invariant that holds of `s` holds of `t`, and the queue of waiting commands is as it was. -/
structure Upholds (s t : State) : Prop where
  pending : t.pending = s.pending
  counts : s.ringConserved → t.ringConserved
  ring : RingBounded s.ring s.rep → RingBounded t.ring t.rep
  captures : (∀ i, (s.train i).stack.length ≤ 2) → ∀ i, (t.train i).stack.length ≤ 2
  port : s.portSound → t.portSound
  schedule : s.scheduleOrdered → t.scheduleOrdered
  tap : s.tapMapUnique → t.tapMapUnique
  mode : s.modeSound → t.modeSound
  converter : s.converterSound → t.converterSound
  follows : s.manifoldFollows → t.manifoldFollows
  marks : s.marksSound → t.marksSound
  factors : s.factorsBounded → t.factorsBounded
  tables : s.tablesInRange → t.tablesInRange
  chans : s.channelsInRange → t.channelsInRange
  setpoints : s.factorsBounded → s.tablesInRange → s.manifoldFollows → Tracked s → Tracked t

theorem Upholds.refl (s : State) : Upholds s s :=
  ⟨rfl, id, id, id, id, id, id, id, id, id, id, id, id, id, fun _ _ _ => id⟩

theorem Upholds.trans {a b c : State} (h : Upholds a b) (k : Upholds b c) : Upholds a c where
  pending := k.pending.trans h.pending
  counts := k.counts ∘ h.counts
  ring := k.ring ∘ h.ring
  captures := k.captures ∘ h.captures
  port := k.port ∘ h.port
  schedule := k.schedule ∘ h.schedule
  tap := k.tap ∘ h.tap
  mode := k.mode ∘ h.mode
  converter := k.converter ∘ h.converter
  follows := k.follows ∘ h.follows
  marks := k.marks ∘ h.marks
  factors := k.factors ∘ h.factors
  tables := k.tables ∘ h.tables
  chans := k.chans ∘ h.chans
  setpoints hf ht hm hs := k.setpoints (h.factors hf) (h.tables ht) (h.follows hm) (h.setpoints hf ht hm hs)

/-- The counts balance after as before, and every other invariant is kept. -/
theorem Weighs.upholds {A : List Aspect} {s t : State} (h : Weighs A 0 s t) (hA : Aspect.pending ∉ A) : Upholds s t where
  pending := h.agree .pending hA
  counts := by
    rw [State.ringConserved_iff, State.ringConserved_iff, h.weight, add_zero]
    exact id
  ring := h.ring
  captures := h.captures
  port := h.port
  schedule := h.schedule
  tap := h.tap
  mode := h.mode
  converter := h.converter
  follows := h.follows
  marks := h.marks
  factors := h.factors
  tables := h.tables
  chans := h.chans
  setpoints := h.setpoints

theorem Preserves.upholds {A : List Aspect} {s t : State} (h : Preserves A s t)
    (hA : Aspect.balance ∉ A ∧ Aspect.pending ∉ A := by decide) : Upholds s t :=
  (h.weighs hA.1).upholds hA.2

theorem Own.upholds {s t : State} (h : Own s t) : Upholds s t := (h.preserves (A := [])).upholds

/-! ## The unconfigured part -/

/-- Every invariant holds. -/
structure Meets (s : State) : Prop where
  counts : s.ringConserved
  queues : s.queuesBounded
  port : s.portSound
  schedule : s.scheduleOrdered
  tap : s.tapMapUnique
  mode : s.modeSound
  converter : s.converterSound
  follows : s.manifoldFollows
  marks : s.marksSound
  factors : s.factorsBounded
  tables : s.tablesInRange
  chans : s.channelsInRange
  setpoints : Tracked s

theorem Upholds.meets {s t : State} (h : Upholds s t) (k : Meets s) : Meets t := by
  obtain ⟨ring, captures⟩ := (State.queuesBounded_iff s).mp k.queues
  exact ⟨h.counts k.counts, (State.queuesBounded_iff t).mpr ⟨h.ring ring, h.captures captures⟩, h.port k.port,
    h.schedule k.schedule, h.tap k.tap, h.mode k.mode, h.converter k.converter, h.follows k.follows, h.marks k.marks,
    h.factors k.factors, h.tables k.tables, h.chans k.chans, h.setpoints k.factors k.tables k.follows k.setpoints⟩

/-- A state that meets every invariant upholds them all. -/
theorem Meets.upholds {s t : State} (h : Meets t) (hp : t.pending = s.pending) : Upholds s t := by
  obtain ⟨ring, captures⟩ := (State.queuesBounded_iff t).mp h.queues
  exact ⟨hp, fun _ => h.counts, fun _ => ring, fun _ => captures, fun _ => h.port, fun _ => h.schedule, fun _ => h.tap,
    fun _ => h.mode, fun _ => h.converter, fun _ => h.follows, fun _ => h.marks, fun _ => h.factors, fun _ => h.tables,
    fun _ => h.chans, fun _ _ _ _ => h.setpoints⟩

section
variable (node : Byte) (kind : ResetKind) (by' : Option (Byte × SeqNo))

theorem Vector.get_replicate {α : Type} {n : Nat} (x : α) (i : Fin n) : (Vector.replicate n x).get i = x := by
  rw [Vector.get_eq_getElem, Vector.getElem_replicate]

theorem State.unconfigured_chan (c : Fin 96) : (State.unconfigured node kind by').chan c = Channel.zeroed := Vector.get_replicate _ c

theorem State.unconfigured_cavern (c : Fin 4) : (State.unconfigured node kind by').cavern c = Cavern.zeroed := Vector.get_replicate _ c

theorem State.unconfigured_store (m : Fin 3) : (State.unconfigured node kind by').store m = Store.zeroed := Vector.get_replicate _ m

theorem State.unconfigured_train (i : Fin 8) : (State.unconfigured node kind by').train i = Train.zeroed := Vector.get_replicate _ i

theorem Train.zeroed_isIn (st : TrainState) : Train.zeroed.isIn st = false := rfl

theorem isFactor_zero : isFactor 0 := ⟨le_refl _, by norm_num⟩

theorem State.unconfigured_meets : Meets (State.unconfigured node kind by') where
  counts := by unfold State.ringConserved; rfl
  queues := ⟨Nat.zero_le _, Nat.zero_le _, Nat.zero_le _, Nat.zero_le _, Nat.zero_le _, Nat.zero_le _, fun i => by rw [State.unconfigured_train]; decide⟩
  port := fun _ => ⟨rfl, rfl, rfl⟩
  schedule := ⟨Nat.zero_le _, .nil, fun _ _ h => by cases h⟩
  tap := fun c d hc => by rw [State.unconfigured_chan] at hc; cases hc
  mode := ⟨nofun, nofun, nofun, rfl, rfl, rfl⟩
  converter := by
    refine ⟨fun i => ?_, .nil, fun i => ?_⟩ <;> rw [State.unconfigured_train, Train.zeroed_isIn]
    · exact ⟨nofun, nofun⟩
    · exact ⟨nofun, nofun⟩
  follows := fun i => by simp [State.unconfigured_train, Train.zeroed_isIn]
  marks := fun c h => by rw [State.unconfigured_cavern] at h; exact absurd rfl h
  factors := ⟨fun c => by rw [State.unconfigured_cavern]; exact ⟨isFactor_zero, isFactor_zero⟩,
    fun m => by rw [State.unconfigured_store]; exact ⟨isFactor_zero, isFactor_zero⟩⟩
  tables := by
    refine ⟨?_, ?_, ?_, fun c h => ?_, fun c h => ?_, fun m h => ?_, fun i h => ?_⟩
    · change plantParams PlantTable.default'.toWords = some PlantTable.default'
      decide
    · change dispatchParams DispatchSet.default'.toWords = some DispatchSet.default'
      decide
    · change dispatchParams DispatchSet.default'.toWords = some DispatchSet.default'
      decide
    · rw [State.unconfigured_chan] at h; cases h
    · rw [State.unconfigured_cavern] at h; cases h
    · rw [State.unconfigured_store] at h; cases h
    · rw [State.unconfigured_train] at h; cases h
  chans := fun c h => by rw [State.unconfigured_chan] at h; cases h
  setpoints := ⟨fun i => by
    rw [State.unconfigured_train, Train.zeroed_isIn, if_neg Bool.false_ne_true]
    exact ⟨rfl, Vector.get_replicate _ i⟩⟩

end

/-! ## The resets of every block -/

/-- The queue of commands, the reset pin and the time base touch no invariant. -/
theorem State.withPin_preserves (s : State) (l : List Instr) (h : Bool) (n : Nat) :
    Preserves [.pending, .held, .now] s { s with pending := l, held := h, now := n } := by
  refine Keeps.preserves (Leaves.keeps (.intro fun a ha => ?_))
  cases a <;> first | rfl | exact absurd (by decide) ha

theorem Meets.withPin {s : State} (h : Meets s) (l : List Instr) (b : Bool) (n : Nat) :
    Meets { s with pending := l, held := b, now := n } := by
  have kept := s.withPin_preserves l b n
  have balance : ({ s with pending := l, held := b, now := n } : State).ringConserved := h.counts
  obtain ⟨ring, captures⟩ := (State.queuesBounded_iff s).mp h.queues
  exact ⟨balance, (State.queuesBounded_iff _).mpr ⟨kept.ring ring, kept.captures captures⟩, kept.port h.port, kept.schedule h.schedule,
    kept.tap h.tap, kept.mode h.mode, kept.converter h.converter, kept.follows h.follows, kept.marks h.marks, kept.factors h.factors,
    kept.tables h.tables, kept.chans h.chans, kept.setpoints h.factors h.tables h.follows h.setpoints⟩

theorem State.started_own (s : State) : Own s s.started := State.notify_own _ _ _ _

theorem State.powerOn_upholds (s : State) (straps : Byte) : Upholds s (s.powerOn straps) := by
  have fresh : Meets { State.unconfigured straps .powerOn none with pending := s.pending } :=
    (State.unconfigured_meets straps .powerOn none).withPin s.pending false 0
  exact (fresh.upholds (s := s) rfl).trans (State.started_own _).upholds

theorem State.pinAsserted_upholds (s : State) (straps : Byte) : Upholds s (s.pinAsserted straps) :=
  ((State.unconfigured_meets straps .pin none).withPin s.pending true 0).upholds rfl

theorem State.pinReleased_upholds (s : State) : Upholds s s.pinReleased := by
  unfold State.pinReleased
  split
  case isFalse => exact .refl s
  case isTrue =>
    have released : Preserves [.held, .now] s { s with held := false, now := 0 } := by
      refine Keeps.preserves (Leaves.keeps (.intro fun a ha => ?_))
      cases a <;> first | rfl | exact absurd (by decide) ha
    exact released.upholds.trans (State.started_own _).upholds

theorem State.cold_upholds (s : State) (src : Byte) (seq : SeqNo) : Upholds s (s.cold src seq) := by
  have base := State.unconfigured_meets s.node .cold (some (src, seq))
  generalize hu : State.unconfigured s.node .cold (some (src, seq)) = u at base
  have numbered : Upholds u { u with ring := { u.ring with seqNo := s.ring.seqNo } } :=
    Weighs.upholds (A := [.balance]) (State.withCounts (by rw [add_zero]; rfl)
      (fun h => ⟨h.forward, h.orders, h.reports, h.notices, h.returns, h.run⟩) id rfl) (by decide)
  have held : u.held = false := by rw [← hu]; rfl
  have now : u.now = 0 := by rw [← hu]; rfl
  have fresh := (numbered.meets base).withPin s.pending false 0
  unfold State.cold
  rw [hu]
  refine (fresh.upholds (s := s) rfl).trans ?_
  rw [← held, ← now]
  exact (State.started_own _).upholds

/-! ## The WARM reset -/

section
variable (s : State) (src : Byte) (seq : SeqNo)

theorem State.warmed_chan (c : Fin 96) : (s.warmed src seq).chan c = (s.chan c).warm := by
  change (s.chans.map Channel.warm).get c = _
  rw [Vector.get_eq_getElem, Vector.getElem_map]
  rfl

theorem State.warmed_store (m : Fin 3) : (s.warmed src seq).store m = (s.store m).emptied := by
  change (s.stores.map Store.emptied).get m = _
  rw [Vector.get_eq_getElem, Vector.getElem_map]
  rfl

theorem State.warmed_train (i : Fin 8) : (s.warmed src seq).train i = (s.train i).warm := by
  change (s.trains.map Train.warm).get i = _
  rw [Vector.get_eq_getElem, Vector.getElem_map]
  rfl

theorem State.warmed_cavern (c : Fin 4) : ∃ v, (s.warmed src seq).cavern c = (s.cavern c).warm v := by
  refine ⟨({ s with now := 0, chans := s.chans.map Channel.warm } : State).pressure c, ?_⟩
  change (Vector.ofFn fun c => (s.cavern c).warm (({ s with now := 0, chans := s.chans.map Channel.warm } : State).pressure c)).get c = _
  rw [Vector.get_eq_getElem, Vector.getElem_ofFn]

end

theorem Channel.warm_p (x : Channel) : x.warm.p = x.p := by unfold Channel.warm; split <;> rfl

theorem Channel.warm_present (x : Channel) : x.warm.present = x.present := by rw [Channel.present, x.warm_p, Channel.present]

theorem Train.warm_p (t : Train) : t.warm.p = t.p := by unfold Train.warm; split <;> rfl

theorem Train.warm_stack (t : Train) : t.warm.stack = t.stack := by unfold Train.warm; split <;> rfl

theorem Train.warm_present (t : Train) : t.warm.present = t.present := by rw [Train.present, t.warm_p, Train.present]

theorem Train.warm_isIn (t : Train) {st : TrainState} (h : st ≠ .unknown) : t.warm.isIn st = false := by
  unfold Train.warm
  split
  case isTrue => simp [Train.isIn, Ne.symm h]
  case isFalse hp => simp [Train.isIn, hp]

theorem Train.warm_setpoint {t : Train} (h : t.isIn .loaded = false → t.setpoint = 0) : t.warm.setpoint = 0 := by
  unfold Train.warm
  split
  case isTrue => rfl
  case isFalse hp => exact h (by simp [Train.isIn, hp])

theorem Cavern.warm_sound (x : Cavern) (v : View) : (x.warm v).p = x.p ∧ (x.warm v).valve = .unknown ∧ (x.warm v).bounded := by
  have none : Cavern.bounded { x with valve := .unknown, timer := none, rates := [], rate := 0, rateValid := false, hold := false, gen := 0, absorb := 0 } :=
    ⟨isFactor_zero, isFactor_zero⟩
  unfold Cavern.warm
  split
  case isFalse => exact ⟨rfl, rfl, none⟩
  case isTrue =>
    refine ⟨Cavern.withView_p _ v, ?_, Cavern.withView_bounded v none⟩
    simp only [Cavern.withView]
    split
    · rfl
    · split <;> rfl

theorem State.warmed_upholds (s : State) (src : Byte) (seq : SeqNo) : Upholds s (s.warmed src seq) where
  pending := rfl
  counts := fun _ => by unfold State.ringConserved; rfl
  ring := fun _ => ⟨Nat.zero_le _, Nat.zero_le _, Nat.zero_le _, Nat.zero_le _, Nat.zero_le _, Nat.zero_le _⟩
  captures := fun h i => by rw [State.warmed_train, Train.warm_stack]; exact h i
  port := fun _ _ => ⟨rfl, rfl, rfl⟩
  schedule := fun h => ⟨h.size, h.ascending, h.ahead⟩
  tap := fun h c d => by
    simp only [State.warmed_chan, Channel.warm_present, Channel.warm_p]
    exact h c d
  mode := fun h => by
    have mode : (s.warmed src seq).mode = s.warmMode := rfl
    have check : (s.warmed src seq).mgr.check = s.mgr.check := rfl
    have clock : (s.warmed src seq).clock.state = s.clock.state := rfl
    have clear : s.warmMode.clear = ({ s.mode with ringOpen := false, unsynced := s.clock.state == .unsynced } : ModeRecord).clear := rfl
    have kept : s.warmMode.mode = if s.mode.mode.dispatches then
        (if s.warmMode.clear then .auto else .hold) else s.mode.mode := rfl
    refine ⟨?_, ?_, ?_, ?_, rfl, rfl⟩ <;> simp only [mode]
    · rw [kept]
      cases hm : s.mode.mode <;> cases hc : s.warmMode.clear <;> simp [Mode.dispatches]
    · rw [kept]
      cases hm : s.mode.mode <;> cases hc : s.warmMode.clear <;> simp [Mode.dispatches]
    · intro hd
      rw [clock]
      refine h.clock ?_
      rw [kept] at hd
      split at hd
      case isTrue k => exact k
      case isFalse k => exact hd
    · rw [check]
      exact h.config
  converter := fun _ => by
    refine ⟨fun i => ?_, .nil, fun i => ?_⟩ <;> rw [State.warmed_train, Train.warm_isIn _ (by decide)]
    · exact ⟨nofun, nofun⟩
    · exact ⟨nofun, nofun⟩
  follows := fun _ i => by
    rw [State.warmed_train, Train.warm_isIn _ (by decide), Train.warm_isIn _ (by decide)]
    simp
  marks := fun _ c _ => by
    obtain ⟨v, hv⟩ := s.warmed_cavern src seq c
    rw [hv, ((s.cavern c).warm_sound v).2.1]
    decide
  factors := fun _ => by
    refine ⟨fun c => ?_, fun m => ?_⟩
    · obtain ⟨v, hv⟩ := s.warmed_cavern src seq c
      rw [hv]
      exact ((s.cavern c).warm_sound v).2.2
    · rw [State.warmed_store]
      exact Store.emptied_bounded _
  tables := fun h => by
    refine ⟨h.plant, h.active, h.next, fun c => ?_, fun c => ?_, fun m => ?_, fun i => ?_⟩
    · rw [State.warmed_chan, Channel.warm_present, Channel.warm_p]; exact h.chans c
    · obtain ⟨v, hv⟩ := s.warmed_cavern src seq c
      rw [hv, ((s.cavern c).warm_sound v).1]; exact h.caverns c
    · rw [State.warmed_store]; exact h.stores m
    · rw [State.warmed_train, Train.warm_present, Train.warm_p]; exact h.trains i
  chans := fun h c => by
    rw [State.warmed_chan, Channel.warm_present]
    intro hp
    rw [Channel.warm, if_pos hp]
    exact clearedChannel_inRange (h c hp).range (h c hp).length 0
  setpoints := fun _ _ _ h => ⟨fun i => by
    rw [State.warmed_train, Train.warm_isIn _ (by decide), if_neg Bool.false_ne_true]
    have before := h.inRange i
    refine ⟨Train.warm_setpoint fun hl => ?_, Vector.get_replicate _ i⟩
    rw [hl, if_neg Bool.false_ne_true] at before
    exact before.1⟩

theorem State.warm_upholds (s : State) (src : Byte) (seq : SeqNo) : Upholds s (s.warm src seq) := by
  have started : Upholds s (s.warmed src seq).started := (s.warmed_upholds src seq).trans (State.started_own _).upholds
  unfold State.warm
  split
  case isTrue => exact started.trans (State.adoptSet_keeps _ 0).preserves.upholds
  case isFalse => exact started

theorem State.resetOf_upholds {s t : State} {f : Frame} (h : s.resetOf f = some t) : Upholds s t := by
  unfold State.resetOf at h
  split at h
  case h_2 => cases h
  case h_1 =>
    split at h
    case isFalse => cases h
    case isTrue =>
      unfold State.resetTaken at h
      split at h <;> cases h
      · exact s.cold_upholds _ _
      · exact s.warm_upholds _ _

end Sys2Proof.Machine
end
section
/-!
PROOFS. What reception, the expiries and the passing of time uphold, and with them the invariants of every step.
-/

namespace Sys2Proof.Machine

/-! ## Reception -/

/-- What a received frame that is no reset may touch, the balance of the counts apart. -/
abbrev heardOf : List Aspect := .continuity :: .figures :: .last :: managed

theorem State.tap_preserves (s : State) (f : Frame) : Preserves heardOf s (s.tap f) := by
  unfold State.tap
  refine .ite (fun _ => (s.tapSample_preserves f).mono (by decide)) fun _ => .ite (fun _ => ?_) fun _ => .refl _ s
  exact (s.tapStatus_keeps f).preserves.mono (by decide)

/-- A consumed frame is counted and answered, or resets the part. -/
theorem State.consume_cases (s : State) (f : Frame) (n : Nat) : Weighs (.balance :: heardOf) (-1) s (s.consume f n) ∨
    s.countConsumed.resetOf f = some (s.consume f n) := by
  have counted := s.countConsumed_weighs
  have answered (cs : List Code) : Weighs (.balance :: heardOf) (-1) s (s.countConsumed.answer f cs []) :=
    (counted.own (State.answer_own _ _ _ _)).mono (by decide)
  unfold State.consume
  dsimp only
  split
  case isTrue hm =>
    split
    case isTrue =>
      cases hr : s.countConsumed.resetOf f with
      | none => exact .inl (counted.thenPreserves ((State.management_preserves hr n).mono (by decide)))
      | some t => exact .inr (by rw [State.management_reset hr])
    case isFalse => exact .inl (answered _)
  case isFalse =>
    split
    case isTrue => exact .inl (counted.mono (by decide))
    case isFalse => exact .inl (answered _)

theorem State.dispose_cases (s : State) (f : Frame) (n : Nat) : Weighs (.balance :: heardOf) (-1) s (s.dispose f n) ∨
    s.countConsumed.resetOf f = some (s.dispose f n) := by
  unfold State.dispose
  split
  case isTrue => exact .inl (s.countDropped_weighs.mono (by decide))
  case isFalse =>
    split
    case isTrue => exact s.consume_cases f n
    case isFalse =>
      split
      case isTrue => exact .inl ((s.guard_weighs f).mono (by decide))
      case isFalse => exact .inl ((s.forwardOrDrop_weighs f).mono (by decide))

/-- What is received and then accounted for leaves the balance. -/
theorem Weighs.received {A : List Aspect} {s t : State} (h : Weighs A (-1) s.countReceived t) (hA : Aspect.pending ∉ A)
    (hs : [Aspect.balance] ⊆ A) : Upholds s t := by
  have both := (s.countReceived_weighs.mono hs).trans h
  rw [add_neg_cancel] at both
  exact both.upholds hA

theorem State.dropped_upholds (s : State) : Upholds s s.countReceived.countDropped :=
  (State.countDropped_weighs _).received (by decide) (by decide)

theorem State.checked_upholds (s : State) (f : Frame) (n : Nat) : Upholds s (s.checked f n) := by
  unfold State.checked
  dsimp only
  split
  case isTrue => exact (State.forwardOrDrop_weighs _ f).received (by decide) (by decide)
  case isFalse =>
    split
    case isTrue =>
      have stripped : Weighs (.balance :: ringed) (-1) s.countReceived (s.countReceived.countStripped.returned f.seq) :=
        (State.countStripped_weighs _).thenPreserves (State.returned_preserves _ _)
      exact stripped.received (by decide) (by decide)
    case isFalse =>
      have tapped := (s.countReceived.tap_preserves f).weighs (by decide)
      generalize s.countReceived.tap f = u at tapped
      rcases u.dispose_cases f n with disposed | reset
      · have both := (tapped.mono (List.subset_cons_self _ _)).trans disposed
        rw [zero_add] at both
        exact both.received (by decide) (by decide)
      · have consumed := (tapped.mono (List.subset_cons_self Aspect.balance _)).trans (u.countConsumed_weighs.mono (by decide))
        rw [zero_add] at consumed
        exact (consumed.received (by decide) (by decide)).trans (State.resetOf_upholds reset)

theorem State.receiveSome_upholds (s : State) (f : Frame) (n : Nat) : Upholds s (s.receiveSome f n) := by
  unfold State.receiveSome
  split
  case isTrue => exact .refl s
  case isFalse =>
    split
    case isTrue => exact s.dropped_upholds
    case isFalse => exact s.checked_upholds f n

theorem State.receiveBytes_upholds (s : State) (bs : List Byte) : Upholds s (s.receiveBytes bs) := by
  unfold State.receiveBytes
  split
  case isTrue => exact .refl s
  case isFalse =>
    split
    case h_1 => exact s.dropped_upholds
    case h_2 => exact s.receiveSome_upholds _ 256

/-! ## Expiries -/

theorem State.quietExpired_preserves (s : State) : Preserves [.mgr] s s.quietExpired := State.withMgr_preserves rfl

theorem State.expire_upholds (s : State) (t : Timer) : Upholds s (s.expire t) := by
  cases t with
  | freshness c => exact (s.freshnessExpired_preserves c).upholds
  | fallback => exact s.fallbackExpired_keeps.preserves.upholds
  | travel c => exact (s.travelExpired_keeps c).preserves.upholds
  | deadband => exact s.deadbandExpired_keeps.preserves.upholds
  | sequence i => exact (s.sequenceExpired_keeps i).preserves.upholds
  | cooldown => exact s.cooldownExpired_keeps.preserves.upholds
  | retry => exact s.retryExpired_keeps.preserves.upholds
  | mark => exact s.markExpired_preserves.upholds
  | watch => exact s.returnExpired_preserves.upholds
  | quiet => exact s.quietExpired_preserves.upholds
  | period => exact s.periodExpired_preserves.upholds

/-! ## The passing of time -/

/-- Time passes up to, but not onto, the next boundary. -/
theorem State.passTo_upholds {s : State} {t : Nat} (hb : ∀ d, s.boundaryAt = some d → s.now < t → t < d) : Upholds s (s.passTo t) :=
  ((s.passTo_keeps t).preserves (schedule := .inr (State.passTo_sound hb))).upholds

theorem State.boundary_upholds {s : State} {d : Nat} (hd : s.boundaryAt = some d) : Upholds s (s.passTo d).boundary := by
  have kept : Keeps [.now, .clock, .sched, .table] s (s.passTo d).boundary := (s.passTo_keeps d).comp (State.boundary_keeps _)
  exact (kept.preserves (schedule := .inr (State.boundary_sound hd))).upholds

theorem State.judgeRamp_upholds (s : State) : Upholds s s.judgeRamp := s.judgeRamp_keeps.preserves.upholds

/-- No instant of a list lies at or before `t`. -/
theorem noneBy_iff {t : Nat} {l : List (Option Nat)} : noneBy t l = true ↔ ∀ d, some d ∈ l → t < d := by
  rw [noneBy, List.all_eq_true]
  refine ⟨fun h d hd => by simpa using h (some d) hd, fun h o ho => ?_⟩
  cases o with
  | none => rfl
  | some d => exact decide_eq_true (h d ho)

theorem State.expiry_upholds (s : State) (t : Timer) : Upholds s (s.expiry t) := by
  unfold State.expiry
  split
  case h_1 => exact .refl s
  case h_2 d _ =>
    split
    case isFalse => exact .refl s
    case isTrue h =>
      have clear := noneBy_iff.mp (Bool.and_eq_true_iff.mp h.2).2
      refine Upholds.trans (State.passTo_upholds fun e he _ => ?_) (State.expire_upholds _ t)
      exact lt_of_le_of_lt (le_max_right _ _) (clear e (he ▸ List.mem_cons_self))

theorem State.plantEvent_upholds {s : State} {t : Option Nat} {before after : List (Option Nat)} {act : State → State}
    (h : ∀ d, t = some d → (∀ e, some e ∈ before → d < e) → Upholds s (act (s.passTo d))) :
    Upholds s (s.plantEvent t before after act) := by
  unfold State.plantEvent
  split
  case h_1 => exact .refl s
  case h_2 d =>
    split
    case isFalse => exact .refl s
    case isTrue k =>
      have clear := noneBy_iff.mp (Bool.and_eq_true_iff.mp (Bool.and_eq_true_iff.mp k.2).1).2
      exact h d rfl clear

theorem State.tick_upholds (s : State) : Upholds s s.tick := by
  have passed : Upholds s (if s.boundaryAt = some (s.now + 1) then (s.passTo (s.now + 1)).boundary else s.passTo (s.now + 1)) := by
    split
    case isTrue h => exact State.boundary_upholds h
    case isFalse h =>
      refine State.passTo_upholds fun d hd _ => ?_
      have later : s.now < d := by
        obtain ⟨-, lo, -, rfl⟩ := State.instantOf_eq_some.mp hd
        omega
      have other : d ≠ s.now + 1 := fun e => h (e ▸ hd)
      omega
  unfold State.tick
  dsimp only
  split
  case isTrue => exact passed.trans (State.judgeRamp_upholds _)
  case isFalse => exact passed

theorem State.idle_upholds (s : State) : Upholds s s.idle := by
  unfold State.idle
  split
  case isTrue => exact .refl s
  case isFalse =>
    split
    · exact s.expire_upholds _
    · exact s.tick_upholds

/-! ## Every command -/

/-- What a command does, by the few ways in which one acts. -/
theorem exec_upholds (c : Instr) (s : State) : ∃ t, exec c s = .next t ∧ Upholds s t := by
  have got (f : Frame) (n : Nat) : ∃ t, (Host.Outcome.next (s.receiveSome f n) : Host.Outcome State Fault Refusal) = .next t ∧ Upholds s t :=
    ⟨_, rfl, s.receiveSome_upholds f n⟩
  have table (i : TableId) (a : TableArrival) : ∃ t, tableArrives i a s = .next t ∧ Upholds s t := by
    cases a with
    | frame snd first count entries n => exact got _ n
    | more n => exact ⟨_, rfl, (s.moreWork_preserves i n).upholds⟩
  have expired (t : Timer) : ∃ u, (Host.Outcome.next (s.expiry t) : Host.Outcome State Fault Refusal) = .next u ∧ Upholds s u :=
    ⟨_, rfl, s.expiry_upholds t⟩
  cases c with
  | powerOnReset straps => exact ⟨_, rfl, s.powerOn_upholds straps⟩
  | pinReset straps => exact ⟨_, rfl, s.pinAsserted_upholds straps⟩
  | resetPinRelease => exact ⟨_, rfl, s.pinReleased_upholds⟩
  | frameDropped bytes => exact ⟨_, rfl, s.receiveBytes_upholds bytes⟩
  | sendingEnd => exact ⟨_, rfl, s.sendingEnded_own.upholds⟩
  | boundaryEvent => exact ⟨_, rfl, State.plantEvent_upholds fun d hd _ => State.boundary_upholds hd⟩
  | endOfRamp =>
    exact ⟨_, rfl, State.plantEvent_upholds fun d _ clear =>
      (State.passTo_upholds fun e he _ => clear e (he ▸ List.mem_cons_self)).trans (State.judgeRamp_upholds _)⟩
  | plantTimeLimit =>
    exact ⟨_, rfl, State.plantEvent_upholds fun d _ clear => State.passTo_upholds fun e he _ => clear e (he ▸ List.mem_cons_self)⟩
  | plantTableWrite a => exact table .plant a
  | dispatchWrite a => exact table .dispatch a
  | channelWrite a => exact table .channel a
  | cavernWrite a => exact table .cavern a
  | storeWrite a => exact table .store a
  | trainWrite a => exact table .train a
  | checkWrite a => exact table .check a
  | freshnessExpiry c => exact expired (.freshness c)
  | fallbackExpiry => exact expired .fallback
  | travelTimerExpiry c => exact expired (.travel c)
  | deadbandExpiry => exact expired .deadband
  | sequenceTimerExpiry i => exact expired (.sequence i)
  | cooldownExpiry => exact expired .cooldown
  | serviceRetryExpiry => exact expired .retry
  | markTimerExpiry => exact expired .mark
  | returnWatchExpiry => exact expired .watch
  | periodTimerExpiry => exact expired .period
  | editQuietExpiry => exact expired .quiet
  | _ => exact got _ 256

/-- The queue of waiting commands touches no invariant. -/
theorem State.withPending_weighs (s : State) (l : List Instr) : Weighs [.pending] 0 s { s with pending := l } := by
  refine Preserves.weighs (Keeps.preserves (Leaves.keeps (.intro fun a ha => ?_))) (by decide)
  cases a <;> first | rfl | exact absurd (by decide) ha

/-- A step takes a command off the queue, if one waits, and upholds what held then. -/
theorem step_upholds {s t : State} (h : step s = .next t) : ∃ u, Weighs [.pending] 0 s u ∧ Upholds u t := by
  unfold step at h
  split at h
  case h_1 =>
    cases h
    exact ⟨s, (Preserves.refl _ s).weighs (by decide), s.idle_upholds⟩
  case h_2 c rest hp =>
    obtain ⟨u, hu, upholds⟩ := exec_upholds c { s with pending := rest }
    rw [hu] at h
    cases h
    exact ⟨_, s.withPending_weighs rest, upholds⟩

end Sys2Proof.Machine

open Sys2Proof Sys2Proof.Machine

/-! ## The invariants of every step -/

/-- Settles O2: every command answers a state, and all keep the waiting queue. -/
theorem everyCommandCompletes : Obligations.EveryCommandCompletes := by
  intro c s
  obtain ⟨t, ht, upholds⟩ := exec_upholds c s
  exact ⟨t, ht, upholds.pending⟩

/-- Settles O5: a received frame weighs 1 in the balance of the counts, its disposition -1. -/
theorem countsConserved : Obligations.CountsConserved := by
  intro s t h hs
  obtain ⟨u, taken, upholds⟩ := step_upholds hs
  refine upholds.counts ((State.ringConserved_iff u).mpr ?_)
  rw [taken.weight, (State.ringConserved_iff s).mp h, add_zero]

/-- Settles O6. -/
theorem queuesAndPortStaySound : Obligations.QueuesAndPortStaySound := by
  refine ⟨fun s t h hs => ?_, fun s t h hs => ?_⟩ <;> obtain ⟨u, taken, upholds⟩ := step_upholds hs
  · obtain ⟨ring, captures⟩ := (State.queuesBounded_iff s).mp h
    exact (State.queuesBounded_iff t).mpr ⟨upholds.ring (taken.ring ring), upholds.captures (taken.captures captures)⟩
  · exact upholds.port (taken.port h)

/-- Settles O8. -/
theorem scheduleStaysOrdered : Obligations.ScheduleStaysOrdered := by
  intro s t h hs
  obtain ⟨u, taken, upholds⟩ := step_upholds hs
  exact upholds.schedule (taken.schedule h)

/-- Settles O9. -/
theorem tapMapStaysUnique : Obligations.TapMapStaysUnique := by
  intro s t h hs
  obtain ⟨u, taken, upholds⟩ := step_upholds hs
  exact upholds.tap (taken.tap h)

/-- Settles O10. -/
theorem modeAnswersCauses : Obligations.ModeAnswersCauses := by
  intro s t h hs
  obtain ⟨u, taken, upholds⟩ := step_upholds hs
  exact upholds.mode (taken.mode h)

/-- Settles O11. -/
theorem converterServesOne : Obligations.ConverterServesOne := by
  intro s t h hs
  obtain ⟨u, taken, upholds⟩ := step_upholds hs
  exact upholds.converter (taken.converter h)

/-- Settles O12. -/
theorem manifoldAndMarksStaySound : Obligations.ManifoldAndMarksStaySound := by
  refine ⟨fun s t h hs => ?_, fun s t h hs => ?_⟩ <;> obtain ⟨u, taken, upholds⟩ := step_upholds hs
  · exact upholds.follows (taken.follows h)
  · exact upholds.marks (taken.marks h)

/-- Settles O14. -/
theorem figuresStayInRange : Obligations.FiguresStayInRange := by
  refine ⟨fun s t h hs => ?_, fun s t h hs => ?_⟩ <;> obtain ⟨u, taken, upholds⟩ := step_upholds hs
  · exact upholds.factors (taken.factors h)
  · exact upholds.chans (taken.chans h)

/-- Settles O15. -/
theorem tablesStayInRange : Obligations.TablesStayInRange := by
  intro s t h hs
  obtain ⟨u, taken, upholds⟩ := step_upholds hs
  exact upholds.tables (taken.tables h)

/-- Settles O17: the setpoints are kept together with the factors, the tables and the manifold. -/
theorem setpointsStayInRange : Obligations.SetpointsStayInRange := by
  intro s t factors tables follows h hs
  obtain ⟨u, taken, upholds⟩ := step_upholds hs
  exact (upholds.setpoints (taken.factors factors) (taken.tables tables) (taken.follows follows)
    (taken.setpoints factors tables follows ⟨h⟩)).inRange

end
section
/-!
PROOFS. A step by its command and without one, and what the resets leave (chapters 6 and 10).
-/

namespace Sys2Proof.Machine

/-! ## The unconfigured part -/

/-- The machine right after a POWER_ON is the unconfigured part but for its STARTED notice. -/
theorem State.reset_own : Own (State.unconfigured 1 .powerOn none) State.reset :=
  ⟨State.reset.ring, State.reset.rep, rfl,
    ⟨rfl, rfl, rfl, rfl, rfl, rfl, rfl, fun _ => ⟨Nat.zero_le _, Nat.zero_le _, Nat.zero_le _, Nat.zero_le _, by decide, Nat.zero_le _⟩⟩,
    fun _ h => by cases h⟩

/-! ## Timers and instants -/

theorem mem_allTimers (t : Timer) : t ∈ allTimers := by
  have cavern (c : Fin 4) : c ∈ cavernNumbers := by revert c; decide
  cases t <;> simp [allTimers, mem_slotNumbers, cavern]

theorem State.firstDue_eq_none {s : State} (h : s.firstDue = none) {t : Timer} {d : Nat} (hd : s.deadline t = some d) : s.now < d := by
  have late := List.find?_eq_none.mp h t (mem_allTimers t)
  rw [hd] at late
  simpa using late

theorem State.firstDue_eq_some {s : State} {t : Timer} (h : s.firstDue = some t) : ∃ d, s.deadline t = some d ∧ d ≤ s.now := by
  have due := List.find?_some h
  cases hd : s.deadline t with
  | none => rw [hd] at due; cases due
  | some d => rw [hd] at due; exact ⟨d, rfl, of_decide_eq_true due⟩

theorem noneBefore_iff {now t : Nat} {l : List (Option Nat)} : noneBefore now t l = true ↔ ∀ d, some d ∈ l → t ≤ max now d := by
  rw [noneBefore, List.all_eq_true]
  refine ⟨fun h d hd => by simpa using h (some d) hd, fun h o ho => ?_⟩
  cases o with
  | none => rfl
  | some d => exact decide_eq_true (h d ho)

theorem State.instantOf_later {s : State} {ms d : Nat} (h : s.instantOf ms = some d) : s.now < d := by
  obtain ⟨-, lo, -, rfl⟩ := State.instantOf_eq_some.mp h
  omega

theorem State.boundaryAt_later {s : State} {d : Nat} (h : s.boundaryAt = some d) : s.now < d := State.instantOf_later h

theorem State.rampEndAt_later {s : State} {d : Nat} (h : s.rampEndAt = some d) : s.now < d := by
  obtain ⟨x, -, hx⟩ := Option.bind_eq_some_iff.mp h
  exact State.instantOf_later hx

theorem State.mem_deadlines {s : State} {d : Nat} : some d ∈ s.deadlines ↔ ∃ t, s.deadline t = some d := by
  simp [State.deadlines, mem_allTimers]

/-- Where nothing is due, an event of the plant time of the next millisecond can be next. -/
theorem State.plantNext_of_tick {s : State} (h : s.firstDue = none) {before after : List (Option Nat)}
    (hb : ∀ e, some e ∈ before → s.now + 1 < e) (ha : ∀ e, some e ∈ after → s.now < e) :
    s.plantNext (s.now + 1) before after = true := by
  have timers : noneBefore s.now (s.now + 1) s.deadlines = true := noneBefore_iff.mpr fun d hd => by
    obtain ⟨t, ht⟩ := State.mem_deadlines.mp hd
    have := State.firstDue_eq_none h ht
    omega
  have others : noneBefore s.now (s.now + 1) after = true := noneBefore_iff.mpr fun d hd => by
    have := ha d hd
    omega
  simp only [State.plantNext, timers, noneBy_iff.mpr hb, others, Bool.and_self]

/-- A timer already due can be next. -/
theorem State.timerNext_of_due {s : State} {d : Nat} (h : d ≤ s.now) : s.timerNext d = true := by
  have now : max s.now d = s.now := max_eq_left h
  have timers : noneBefore s.now s.now s.deadlines = true := noneBefore_iff.mpr fun _ _ => le_max_left _ _
  have events : noneBy s.now [s.boundaryAt, s.rampEndAt] = true := noneBy_iff.mpr fun d hd => by
    simp only [List.mem_cons, List.not_mem_nil, or_false] at hd
    rcases hd with hd | hd
    · exact State.boundaryAt_later hd.symm
    · exact State.rampEndAt_later hd.symm
  simp only [State.timerNext, now, timers, events, Bool.and_self]

theorem State.passTo_past {s : State} {t : Nat} (h : t ≤ s.now) : s.passTo t = s := by
  simp [State.passTo, Nat.not_lt.mpr h, max_eq_left h]

theorem State.passTo_next (s : State) : s.passTo (s.now + 1) = { s with
    now := s.now + 1
    clock := if s.clock.state = .invalid then s.clock
             else { s.clock with plantMs := min (s.clock.plantMs + 1) 4294967295999 } } := by
  by_cases h : s.clock.state = .invalid <;> simp [State.passTo, State.clockRuns, h, Config.lastPlantMs]

theorem State.judgeRamp_judgeRamp (s : State) : s.judgeRamp.judgeRamp = s.judgeRamp := by
  cases h : s.sched.ending with
  | none => simp only [State.judgeRamp, h]
  | some x =>
    by_cases hx : s.clockRuns = true ∧ x.2 ≤ s.clock.plantMs
    · simp only [State.judgeRamp, h, if_pos hx]
    · simp only [State.judgeRamp, h, if_neg hx]

theorem State.boundary_judgeRamp (s : State) : s.boundary.judgeRamp = s.boundary := State.judgeRamp_judgeRamp _

theorem exec_timer (s : State) (t : Timer) : exec t.command s = .next (s.expiry t) := by cases t <;> rfl

theorem step_idle {s : State} (h : s.pending = []) : step s = .next s.idle := by
  unfold step
  rw [h]

theorem State.idle_tick {s : State} (hh : s.held = false) (hd : s.firstDue = none) : s.idle = s.tick := by
  simp [State.idle, hh, hd]

theorem State.idle_expire {s : State} (hh : s.held = false) {t : Timer} (hd : s.firstDue = some t) : s.idle = s.expire t := by
  simp [State.idle, hh, hd]

/-- A timer whose deadline has come expires without time passing. -/
theorem State.expiry_due {s : State} {t : Timer} {d : Nat} (hh : s.held = false) (hd : s.deadline t = some d) (h : d ≤ s.now) :
    s.expiry t = s.expire t := by
  simp only [State.expiry, hd, hh, State.timerNext_of_due h, and_self, if_true, State.passTo_past h]

theorem State.plantEvent_next {s : State} {d : Nat} {before after : List (Option Nat)} {act : State → State} (hh : s.held = false)
    (h : s.plantNext d before after = true) : s.plantEvent (some d) before after act = act (s.passTo d) := by
  simp only [State.plantEvent, hh, h, and_self, if_true]

end Sys2Proof.Machine

open Sys2Proof Sys2Proof.Machine

/-- Settles O1, by the definition of `step`. -/
theorem stepRunsFront : Obligations.StepRunsFront := fun _ _ _ => rfl

/-- Settles O3: the step is `tick` where nothing is due, and the expiry of the first due timer otherwise. -/
theorem idleStepPassesTime : Obligations.IdleStepPassesTime := by
  intro s hp hh
  refine ⟨fun hd => ⟨fun t d => State.firstDue_eq_none hd, fun hb hr => ?_, fun hb => ?_, fun hb hr => ?_⟩, fun t ht => ?_⟩
  · rw [step_idle hp, State.idle_tick hh hd, State.tick]
    simp only [if_neg hb, if_neg hr]
    rw [State.passTo_next]
  · have next := State.plantNext_of_tick hd (before := []) (after := [s.rampEndAt]) (by simp) fun e he =>
      State.rampEndAt_later (List.mem_singleton.mp he).symm
    have event : exec .boundaryEvent s = .next (s.passTo (s.now + 1)).boundary := by
      change Host.Outcome.next (s.plantEvent s.boundaryAt [] [s.rampEndAt] State.boundary) = _
      rw [hb, State.plantEvent_next hh next]
    rw [event, step_idle hp, State.idle_tick hh hd, State.tick]
    simp only [if_pos hb, State.boundary_judgeRamp, ite_self]
  · have next := State.plantNext_of_tick hd (before := [s.boundaryAt]) (after := []) (fun e he => by
      have at' := (List.mem_singleton.mp he).symm
      have later := State.boundaryAt_later at'
      have : e ≠ s.now + 1 := fun k => hb (k ▸ at')
      omega) (by simp)
    have event : exec .endOfRamp s = .next (s.passTo (s.now + 1)).judgeRamp := by
      change Host.Outcome.next (s.plantEvent s.rampEndAt [s.boundaryAt] [] State.judgeRamp) = _
      rw [hr, State.plantEvent_next hh next]
    rw [event, step_idle hp, State.idle_tick hh hd, State.tick]
    simp only [if_neg hb, if_pos hr]
  · obtain ⟨d, hd, due⟩ := State.firstDue_eq_some ht
    rw [step_idle hp, State.idle_expire hh ht, exec_timer, State.expiry_due hh hd due]
    exact ⟨rfl, d, hd, due⟩

/-- Settles O4: the machine after a POWER_ON is the unconfigured part with an own report on its port. -/
theorem resetMeetsInvariants : Obligations.ResetMeetsInvariants := by
  have meets := State.reset_own.upholds.meets (State.unconfigured_meets 1 .powerOn none)
  exact ⟨meets.counts, meets.queues, meets.port, meets.schedule, meets.tap, meets.mode, meets.converter, meets.follows, meets.marks,
    meets.factors, meets.tables, meets.chans, meets.setpoints.inRange⟩

/-- Settles O25, block by block from the definition of the unconfigured part. -/
theorem resetValues : Obligations.ResetValues := by
  intro node k b u
  refine ⟨rfl, rfl, rfl, rfl, rfl, rfl, rfl, rfl, fun c => ?chan, fun c => ?cavern, fun m => ?store, fun i => ?train, ?rest⟩
  case chan => rw [State.unconfigured_chan]; exact ⟨rfl, rfl, rfl, rfl, rfl, rfl⟩
  case cavern => rw [State.unconfigured_cavern]; exact ⟨rfl, rfl, rfl, rfl, rfl, rfl⟩
  case store => rw [State.unconfigured_store]; exact ⟨rfl, rfl, rfl, rfl, rfl⟩
  case train => rw [State.unconfigured_train]; exact ⟨rfl, rfl, rfl⟩
  case rest => and_intros <;> rfl

end
section
/-!
PROOFS. What the resets leave (chapter 10.4) and the STARTED notice at their end.
-/

namespace Sys2Proof.Machine

/-! ## A notice at an idle port -/

/-- A report that joins the empty queue of an idle port with nothing to send leaves at once. -/
theorem State.joinReports_idle {s : State} (hs : s.ring.sending = none) (hf : s.ring.forward = []) (ho : s.ring.orders = [])
    (hq : s.rep.queue = []) (r : Report) : s.joinReports r = { s with
      ring := { s.ring.remember s.now s.plant.returnTimeout kReport with sending := some (.report s.ring.seqNo r), run := 0 }
      rep := { s.rep with queue := [], suppressed := (s.rep.suppressed || decide (s.plant.fullMark ≤ 1)) &&
                                                     !decide (0 ≤ s.plant.almostEmpty) } } := by
  simp [State.joinReports, State.pump, hs, State.chooseNext, hf, ho, State.sendReport, hq, Reports.left]

theorem State.admitsNotice_of_class {s : State} {c : NoticeClass} (hc : c = .safety ∨ c = .config) (x : SourceRecord) :
    s.admitsNotice c x = true := by
  rcases hc with rfl | rfl <;> rfl

theorem State.noticeRoom_of_empty {s : State} (h : s.rep.queue = []) : s.noticeRoom = true :=
  s.noticeRoom_iff.mpr (by simp [Reports.noticeCount, h])

/-- A part that is not PASSIVE and whose port is idle sends the notice of a reset at once. -/
theorem State.started_idle {s : State} (hp : s.passive = false) (hs : s.ring.sending = none) (hf : s.ring.forward = [])
    (ho : s.ring.orders = []) (hq : s.rep.queue = []) : ∃ n, s.started = { s with
      ring := { s.ring.remember s.now s.plant.returnTimeout kReport with
                  sending := some (.report s.ring.seqNo ⟨s.noticeDest, .notice n⟩), run := 0 }
      rep := { s.rep with queue := [], lostNotice := 0, suppressed := (s.rep.suppressed || decide (s.plant.fullMark ≤ 1)) &&
                                                     !decide (0 ≤ s.plant.almostEmpty) } } ∧
      n = ⟨.started, .config, .none, s.plantSec, s.plantMilli, s.rep.lostNotice,
        s.mgr.resetBy.items ++ [.fig s.node.toNat] ++ s.mode.items ++ [.code s.clock.state.num, .code s.mgr.check.num]⟩ := by
  refine ⟨_, ?_, rfl⟩
  have joined := State.joinReports_idle (s := { s with rep := { s.rep with lostNotice := 0 } }) hs hf ho hq
  have admits := State.admitsNotice_of_class (s := s) (.inr (rfl : NoticeName.started.cls = .config)) .none
  simp only [State.started, State.notify, State.notifyAs, hp, admits, and_self, if_true, State.offerNotice, State.noticeRoom_of_empty hq, joined]
  rfl

/-! ## The unconfigured part and its notice -/

/-- The unconfigured part with commands waiting and an own sequence counter. -/
def State.fresh (node : Byte) (kind : ResetKind) (by' : Option (Byte × SeqNo)) (l : List Instr) (q : SeqNo) : State :=
  { State.unconfigured node kind by' with
    pending := l
    ring := { (State.unconfigured node kind by').ring with seqNo := q } }

/-- The STARTED notice of an unconfigured part. -/
def startedReport (node : Byte) (kind : ResetKind) (by' : Option (Byte × SeqNo)) : Report :=
  ⟨255, .notice ⟨.started, .config, .none, 0, 0, 0,
    (ResetRecord.mk kind by').items ++ [.fig node.toNat] ++ [.code 0, .code 0] ++ [.code 0, .code 0]⟩⟩

section
variable {node : Byte} {kind : ResetKind} {by' : Option (Byte × SeqNo)} {l : List Instr} {q : SeqNo}

theorem State.fresh_reportsOnly : ReportsOnly { State.unconfigured node kind by' with pending := l } (State.fresh node kind by' l q).started :=
  ReportsOnly.trans ⟨none, 0, q, [], none, _, rfl⟩ (State.notify_reportsOnly (fun _ => ⟨rfl, rfl, rfl⟩) _ _ _).1

theorem State.fresh_started_passive (h : node = 0 ∨ node = 255) :
    (State.fresh node kind by' l q).started = State.fresh node kind by' l q := by
  have passive : (State.fresh node kind by' l q).passive = true := by rcases h with rfl | rfl <;> rfl
  simp [State.started, State.notify, State.notifyAs, State.admitsNotice, passive]

theorem State.fresh_started (h0 : node ≠ 0) (h1 : node ≠ 255) : (State.fresh node kind by' l q).started =
    { State.fresh node kind by' l q with
      ring := { (State.fresh node kind by' l q).ring with
        sending := some (.report q (startedReport node kind by')), seqNo := q + 1, returns := [⟨q, kReport, 0⟩], watch := some 100 } } := by
  have passive : (State.fresh node kind by' l q).passive = false :=
    Bool.or_eq_false_iff.mpr ⟨beq_eq_false_iff_ne.mpr h0, beq_eq_false_iff_ne.mpr h1⟩
  obtain ⟨n, sent, rfl⟩ := State.started_idle passive rfl rfl rfl rfl
  rw [sent]
  simp only [startedReport]
  rfl

end

theorem State.powerOn_eq (s : State) (straps : Byte) : s.powerOn straps = (State.fresh straps .powerOn none s.pending 0).started := rfl

theorem State.cold_eq (s : State) (src : Byte) (seq : SeqNo) :
    s.cold src seq = (State.fresh s.node .cold (some (src, seq)) s.pending s.ring.seqNo).started := rfl

/-! ## A part held in reset -/

/-- A part held in reset with nothing under way takes no command but another reset and the release. -/
theorem exec_held {s : State} (hh : s.held = true) (hw : s.mgr.work = none) (hs : s.ring.sending = none) {c : Instr}
    (hr : c ≠ .resetPinRelease) (hp : ∀ x, c ≠ .powerOnReset x ∧ c ≠ .pinReset x) : exec c s = .next s := by
  have frame (f : Frame) (n : Nat) : (Host.Outcome.next (s.receiveSome f n) : Host.Outcome State Fault Refusal) = .next s := by
    simp [State.receiveSome, hh]
  have table (t : TableId) (a : TableArrival) : tableArrives t a s = .next s := by
    cases a with
    | frame snd first count entries n => exact frame _ n
    | more n => simp [tableArrives, State.moreWork, hw]
  have timer (t : Timer) : (Host.Outcome.next (s.expiry t) : Host.Outcome State Fault Refusal) = .next s := by
    cases hd : s.deadline t <;> simp [State.expiry, hd, hh]
  have event (o : Option Nat) (b a : List (Option Nat)) (f : State → State) :
      (Host.Outcome.next (s.plantEvent o b a f) : Host.Outcome State Fault Refusal) = .next s := by
    cases o <;> simp [State.plantEvent, hh]
  cases c with
  | powerOnReset x => exact absurd rfl (hp x).1
  | pinReset x => exact absurd rfl (hp x).2
  | resetPinRelease => exact absurd rfl hr
  | frameDropped bytes => simp [exec, execFrameDropped, State.receiveBytes, hh]
  | sendingEnd => simp [exec, execSendingEnd, State.sendingEnded, hs]
  | boundaryEvent => exact event _ _ _ _
  | endOfRamp => exact event _ _ _ _
  | plantTimeLimit => exact event _ _ _ _
  | plantTableWrite a => exact table .plant a
  | dispatchWrite a => exact table .dispatch a
  | channelWrite a => exact table .channel a
  | cavernWrite a => exact table .cavern a
  | storeWrite a => exact table .store a
  | trainWrite a => exact table .train a
  | checkWrite a => exact table .check a
  | freshnessExpiry c => exact timer (.freshness c)
  | fallbackExpiry => exact timer .fallback
  | travelTimerExpiry c => exact timer (.travel c)
  | deadbandExpiry => exact timer .deadband
  | sequenceTimerExpiry i => exact timer (.sequence i)
  | cooldownExpiry => exact timer .cooldown
  | serviceRetryExpiry => exact timer .retry
  | markTimerExpiry => exact timer .mark
  | returnWatchExpiry => exact timer .watch
  | periodTimerExpiry => exact timer .period
  | editQuietExpiry => exact timer .quiet
  | _ => exact frame _ 256

end Sys2Proof.Machine

open Sys2Proof Sys2Proof.Machine

/-- Settles O26. -/
theorem powerOnReset : Obligations.PowerOnReset := by
  intro s straps
  refine ⟨_, rfl, ?_, fun h => ?_, fun h0 h1 => ?_, fun h => ?_⟩ <;> rw [State.powerOn_eq]
  · exact State.fresh_reportsOnly
  · exact State.fresh_started_passive h
  · rw [State.fresh_started h0 h1]
    exact ⟨rfl, rfl, rfl, rfl, rfl⟩
  · subst h
    rw [State.fresh_started (by decide) (by decide)]
    rfl

/-- Settles O27. -/
theorem pinReset : Obligations.PinReset := by
  refine ⟨fun _ _ => rfl, fun s c hh hw hs hr hp => exec_held hh hw hs hr hp, fun s hh => ?_, fun s hh sound passive => ?_⟩
  · change Host.Outcome.next s.pinReleased = _
    rw [State.pinReleased, hh, if_neg Bool.false_ne_true]
  · refine ⟨s.pinReleased, rfl, ?_⟩
    rw [State.pinReleased, hh, if_pos rfl]
    refine ⟨(State.notify_reportsOnly (s := { s with held := false, now := 0 }) sound _ _ _).1, fun hq hs lost => ?_⟩
    obtain ⟨hf, ho, -⟩ := sound hs
    obtain ⟨n, sent, rfl⟩ := State.started_idle (s := { s with held := false, now := 0 }) passive hs hf ho hq
    rw [sent]
    exact ⟨_, rfl, rfl, rfl, lost⟩

end
section
/-!
PROOFS. The RESET directive, and the frame of a directive (chapter 10).
-/

namespace Sys2Proof.Machine

/-! ## A directive -/

/-- The frame of a directive that the part accepts. -/
theorem State.receive_directive {s : State} {snd : Sender} (h : s.mayCommand snd.src) (c a b d e : Byte) {rest : List Byte}
    (hl : rest.length ≤ 239) : s.receive (directiveFrame s.node snd c (a :: b :: d :: e :: rest)) =
      s.heard.directiveTaken (directiveFrame s.node snd c (a :: b :: d :: e :: rest)) := by
  have fits : (c :: a :: b :: d :: e :: rest).length ≤ 244 := by simp only [List.length_cons]; omega
  exact s.receiveSome_management 256 (f := directiveFrame s.node snd c (a :: b :: d :: e :: rest)) h fits (.inl rfl) rfl

theorem State.directiveTaken_reset (s : State) (n : Byte) (snd : Sender) (a b d e : Byte) (rest : List Byte) :
    s.directiveTaken (directiveFrame n snd 6 (a :: b :: d :: e :: rest)) =
      s.resetDirective (directiveFrame n snd 6 (a :: b :: d :: e :: rest)) (word32 a b d e).toNat := rfl

theorem exec_reset {s : State} {snd : Sender} (h : s.mayCommand snd.src) (a b d e : Byte) {rest : List Byte} (hl : rest.length ≤ 239) :
    exec (.reset snd (a :: b :: d :: e :: rest)) s =
      .next (s.heard.resetDirective (directiveFrame s.node snd 6 (a :: b :: d :: e :: rest)) (word32 a b d e).toNat) :=
  congrArg Host.Outcome.next ((State.receive_directive h 6 a b d e hl).trans (State.directiveTaken_reset _ _ _ _ _ _ _ _))

/-! ## The WARM reset -/

theorem State.heard_warmed (s : State) (src : Byte) (seq : SeqNo) : s.heard.warmed src seq = s.warmed src seq := rfl

theorem State.heard_warm (s : State) (src : Byte) (seq : SeqNo) : s.heard.warm src seq = s.warm src seq := by
  unfold State.warm
  rw [State.heard_warmed]
  rfl

theorem Cavern.withView_frame (x : Cavern) (v : View) : (x.withView v).mark = x.mark ∧ (x.withView v).timer = x.timer ∧
    (x.rates = [] → (x.withView v).rates = []) ∧ (x.rateValid = false → (x.withView v).rateValid = false) := by
  unfold Cavern.withView
  split
  · exact ⟨rfl, rfl, fun _ => rfl, fun _ => rfl⟩
  · split
    · exact ⟨rfl, rfl, id, id⟩
    · exact ⟨rfl, rfl, id, id⟩

/-- What a WARM reset clears of a cavern. -/
theorem Cavern.warm_frame (x : Cavern) (v : View) :
    (x.warm v).mark = x.mark ∧ (x.warm v).timer = none ∧ (x.warm v).rates = [] ∧ (x.warm v).rateValid = false := by
  unfold Cavern.warm
  split
  case isFalse => exact ⟨rfl, rfl, rfl, rfl⟩
  case isTrue =>
    obtain ⟨mark, timer, rates, valid⟩ := Cavern.withView_frame
      { x with valve := .unknown, timer := none, rates := [], rate := 0, rateValid := false, hold := false, gen := 0, absorb := 0 } v
    exact ⟨mark, timer, rates rfl, valid rfl⟩

/-- A report that joins the queue while the port sends waits there. -/
theorem State.joinReports_busy {s : State} (h : s.ring.sending ≠ none) (r : Report) : s.joinReports r = { s with rep := { s.rep with
    queue := s.rep.queue ++ [r], suppressed := s.rep.suppressed || decide (s.plant.fullMark ≤ s.rep.queue.length + 1) } } :=
  State.pump_busy h

/-- What a notice at a port that sends may do to the reports. -/
structure ToldTo (s : State) (p : Reports) : Prop where
  lostAnswer : p.lostAnswer = s.rep.lostAnswer
  declined : p.declined = s.rep.declined
  lost : s.noticeRoom = true → s.rep.lostNotice = 0 → p.lostNotice = 0
  calm : s.rep.suppressed = false → s.rep.queue.length + 1 < s.plant.fullMark → p.suppressed = false

/-- A notice at a port that sends waits in the queue, is lost, or is not admitted. -/
theorem State.notify_busy {s : State} (h : s.ring.sending ≠ none) (n : NoticeName) (x : SourceRecord) (l : List Item) :
    ∃ p, s.notify n x l = { s with rep := p } ∧ ToldTo s p := by
  unfold State.notify State.notifyAs State.offerNotice
  split
  case isFalse => exact ⟨s.rep, rfl, rfl, rfl, fun _ => id, fun hs _ => hs⟩
  case isTrue =>
    split
    case isTrue =>
      have joined := State.joinReports_busy (s := { s with rep := { s.rep with lostNotice := 0 } }) h
      rw [joined]
      refine ⟨_, rfl, rfl, rfl, fun _ _ => rfl, fun hs hf => ?_⟩
      simp only [hs, Bool.false_or, decide_eq_false_iff_not, not_le]
      exact hf
    case isFalse hr => exact ⟨_, rfl, rfl, rfl, fun hr' => absurd hr' hr, fun hs _ => hs⟩

/-- The state after a WARM reset with its STARTED notice on the port. -/
def State.warmTold (s : State) (src : Byte) (seq : SeqNo) (n : Notice) (p : Reports) : State :=
  { s.warmed src seq with
    ring := { (s.warmed src seq).ring with
      sending := some (.report s.ring.seqNo ⟨s.noticeDest, .notice n⟩), seqNo := s.ring.seqNo + 1
      returns := [⟨s.ring.seqNo, kReport, 0⟩], watch := some s.plant.returnTimeout }
    rep := p }

/-- No report is lost or declined, and suppression is off unless the full mark is low. -/
structure Reports.calm (p : Reports) (almostFull : Nat) : Prop where
  lostNotice : p.lostNotice = 0
  lostAnswer : p.lostAnswer = 0
  declined : p.declined = 0
  suppressed : almostFull ≤ 44 → p.suppressed = false

theorem State.warmed_started {s : State} (hp : s.passive = false) (src : Byte) (seq : SeqNo) :
    ∃ n p, (s.warmed src seq).started = s.warmTold src seq n p ∧ p.queue = [] ∧ p.calm s.plant.almostFull := by
  obtain ⟨n, sent, -⟩ := State.started_idle (s := s.warmed src seq) hp rfl rfl rfl rfl
  refine ⟨n, (s.warmed src seq).started.rep, ?_, by rw [sent], by rw [sent], by rw [sent]; rfl, by rw [sent]; rfl, fun h => ?_⟩
  · have watch : some (0 + s.plant.returnTimeout) = some s.plant.returnTimeout := by rw [Nat.zero_add]
    rw [sent, State.warmTold, ← watch]
    rfl
  · have far : ¬ s.plant.fullMark ≤ 1 := by simp only [PlantTable.fullMark, Config.reportCap]; omega
    rw [sent]
    simp only [State.warmed, State.unconfigured, far, decide_false, Bool.or_false, Bool.false_and]

/-- The set in force after a WARM reset. -/
def State.warmDisp (s : State) (src : Byte) (seq : SeqNo) : Dispatch :=
  if s.warmAdopts then { (s.warmed src seq).disp with active := s.disp.next, swap := false } else (s.warmed src seq).disp

/-- The pending set is adopted while the port sends. -/
theorem State.adoptSet_busy {s : State} (h : s.ring.sending ≠ none) (n : Word) : ∃ p, s.adoptSet n = { s with
    disp := { s.disp with active := s.disp.next, swap := false }
    mgr := { s.mgr with quiet := some (s.now + 10000) }
    rep := p } ∧ ToldTo s p := by
  obtain ⟨p, told, kept⟩ := State.notify_busy
    (s := { s with disp := { s.disp with active := s.disp.next, swap := false }, mgr := { s.mgr with quiet := some (s.now + 10000) } })
    h .dispatchSetAdopted .none [.fig n.toNat]
  exact ⟨p, told, kept.lostAnswer, kept.declined, kept.lost, kept.calm⟩

theorem State.warmDisp_frame (s : State) (src : Byte) (seq : SeqNo) : (s.warmDisp src seq).last = none ∧
    (s.warmDisp src seq).count = 0 ∧ (s.warmDisp src seq).target = 0 ∧ (s.warmDisp src seq).next = s.disp.next ∧
    (s.warmDisp src seq).active = (if s.mode.mode = .off ∧ s.disp.swap then s.disp.next else s.disp.active) ∧
    (s.warmDisp src seq).swap = (s.disp.swap && s.mode.mode != .off) := by
  have adopts : s.warmAdopts = true ↔ s.mode.mode = .off ∧ s.disp.swap = true := by simp [State.warmAdopts]
  unfold State.warmDisp
  by_cases h : s.mode.mode = .off ∧ s.disp.swap = true
  · rw [if_pos (adopts.mpr h), if_pos h, h.1, h.2]
    exact ⟨rfl, rfl, rfl, rfl, rfl, rfl⟩
  · rw [if_neg (adopts.not.mpr h), if_neg h]
    refine ⟨rfl, rfl, rfl, rfl, rfl, ?_⟩
    change s.disp.swap = _
    by_cases hs : s.disp.swap = true <;> simp_all

/-- What a WARM reset comes to: its STARTED notice on the port, and where it adopts the pending set, that set in force and
a notice that may wait. -/
theorem State.warm_eq {s : State} (hp : s.passive = false) (src : Byte) (seq : SeqNo) :
    ∃ n p, s.warm src seq = { s.warmTold src seq n p with disp := s.warmDisp src seq } ∧ p.calm s.plant.almostFull := by
  obtain ⟨n, p, started, queue, calm⟩ := State.warmed_started hp src seq
  unfold State.warm State.warmDisp
  rw [started]
  split
  case isFalse => exact ⟨n, p, rfl, calm⟩
  case isTrue =>
    have busy : (s.warmTold src seq n p).ring.sending ≠ none := Option.some_ne_none _
    obtain ⟨p', adopted, kept⟩ := State.adoptSet_busy busy 0
    have quiet : some ((s.warmTold src seq n p).now + 10000) = (s.warmTold src seq n p).mgr.quiet := congrArg some (Nat.zero_add _)
    refine ⟨n, p', ?_, kept.lost (State.noticeRoom_of_empty queue) calm.lostNotice, kept.lostAnswer.trans calm.lostAnswer,
      kept.declined.trans calm.declined, fun h => kept.calm (calm.suppressed h) ?_⟩
    · rw [quiet] at adopted
      exact adopted
    · change p.queue.length + 1 < 48 - s.plant.almostFull
      rw [queue, List.length_nil]
      omega

theorem State.resetTaken_none (s : State) {code : Nat} (h2 : code ≠ 2) (h3 : code ≠ 3) (src : Byte) (seq : SeqNo) :
    s.resetTaken code src seq = none := by
  unfold State.resetTaken
  split
  · exact absurd rfl h2
  · exact absurd rfl h3
  · rfl

theorem State.resetDirective_warm (s : State) (f : Frame) : s.resetDirective f 3 = s.warm f.src f.seq := rfl

theorem State.resetDirective_none (s : State) {code : Nat} (h2 : code ≠ 2) (h3 : code ≠ 3) (f : Frame) :
    s.resetDirective f code = s.answer f [.range] [] := by
  rw [State.resetDirective, s.resetTaken_none h2 h3]

end Sys2Proof.Machine

open Sys2Proof Sys2Proof.Machine

/-- Settles O28. -/
theorem coldReset : Obligations.ColdReset := by
  intro s snd rest h hl
  have cold : exec (.reset snd (0 :: 0 :: 0 :: 2 :: rest)) s =
      .next (State.fresh s.node .cold (some (snd.src, snd.seq)) s.pending s.ring.seqNo).started := exec_reset h 0 0 0 2 hl
  refine ⟨_, cold, State.fresh_reportsOnly, ?_⟩
  obtain ⟨⟨-, passive⟩, -, -⟩ := h
  obtain ⟨h0, h1⟩ := Bool.or_eq_false_iff.mp passive
  rw [State.fresh_started (beq_eq_false_iff_ne.mp h0) (beq_eq_false_iff_ne.mp h1)]
  exact ⟨rfl, rfl, rfl, rfl, rfl⟩

/-- Settles O29: the reset's state field by field, with its notices on the port and in the queue. -/
theorem warmReset : Obligations.WarmReset := by
  intro s snd a3 a2 a1 a0 rest h hl kind arg
  have taken := exec_reset h a3 a2 a1 a0 hl
  refine ⟨fun h2 h3 => taken.trans (by rw [State.resetDirective_none _ h2 h3]), fun h3 => ?_⟩
  · have warm : exec (.reset snd arg) s = .next (s.warm snd.src snd.seq) := by
      rw [taken, show (word32 a3 a2 a1 a0).toNat = 3 from h3, State.resetDirective_warm, ← State.heard_warm]
      rfl
    obtain ⟨n, p, eq, calm⟩ := State.warm_eq h.1.2 snd.src snd.seq
    generalize s.warm snd.src snd.seq = t at warm eq
    refine ⟨t, warm, ?_⟩
    subst eq
    refine ⟨rfl, h.1.1.symm, rfl, rfl, rfl, rfl, rfl, fun c hc => ?chan, fun c hc => ?absentChan, fun c => ?cavern, rfl,
      fun m => ?store, fun i hi => ?train, fun i hi => ?absentTrain, rfl, rfl, rfl, rfl, rfl, fun hd => ?mode, fun hd => ?dispatches,
      rfl, ?rest⟩
    case chan => exact (s.warmed_chan snd.src snd.seq c).trans (if_pos hc)
    case absentChan => exact (s.warmed_chan snd.src snd.seq c).trans (if_neg (by rw [hc]; decide))
    case cavern =>
      obtain ⟨v, hv⟩ := s.warmed_cavern snd.src snd.seq c
      obtain ⟨params, valve, -⟩ := (s.cavern c).warm_sound v
      obtain ⟨mark, timer, rates, valid⟩ := (s.cavern c).warm_frame v
      rw [← hv] at params valve mark timer rates valid
      exact ⟨params, mark, valve, timer, rates, valid⟩
    case store =>
      have store := s.warmed_store snd.src snd.seq m
      exact ⟨(congrArg Store.p store :), (congrArg Store.energy store :), (congrArg Store.quality store :),
        (congrArg Store.gen store :), (congrArg Store.absorb store :)⟩
    case train => exact (s.warmed_train snd.src snd.seq i).trans (if_pos hi)
    case absentTrain => exact (s.warmed_train snd.src snd.seq i).trans (if_neg (by rw [hi]; decide))
    case mode => exact if_neg (by rw [hd]; decide)
    case dispatches => exact if_pos hd
    case rest =>
      obtain ⟨last, count, target, next, active, swap⟩ := s.warmDisp_frame snd.src snd.seq
      exact ⟨last, count, target, next, active, swap, rfl, rfl, rfl, rfl, rfl, rfl, rfl, rfl, rfl, rfl, rfl, rfl, rfl, rfl, rfl, rfl,
        calm.lostNotice, calm.lostAnswer, calm.declined, calm.suppressed⟩

end
section
/-!
PROOFS. Frames that end at the part, pass it or return to it, the arbiter and the report queue (chapters 9 and 10).
-/

namespace Sys2Proof.Machine

/-! ## Frames that end here -/

theorem exec_frameDropped {s : State} (hh : s.held = false) {bs : List Byte} (h : checkedFrame bs = none) :
    exec (.frameDropped bs) s = .next s.countReceived.countDropped := by
  simp [exec, execFrameDropped, State.receiveBytes, hh, h]

/-- A frame of a source no node has, that is not tapped, is dropped. -/
theorem State.receive_sourceless {s : State} (h : s.listens) {f : Frame} (hf : f.src = 0 ∨ f.src = 255) (hb : f.body.length ≤ 244)
    (h1 : f.kind ≠ kSample) (h2 : f.kind ≠ kStatus) : s.receive f = s.countReceived.countDropped := by
  obtain ⟨held, passive⟩ := h
  have other : f.src ≠ s.countReceived.node := by
    obtain ⟨n0, n1⟩ := Bool.or_eq_false_iff.mp passive
    rintro e
    rw [e] at hf
    rcases hf with hf | hf
    · exact beq_eq_false_iff_ne.mp n0 hf
    · exact beq_eq_false_iff_ne.mp n1 hf
  have passive' : s.countReceived.passive = false := passive
  simp only [State.receive, State.receiveSome, held, Bool.false_eq_true, if_false, Nat.not_lt.mpr hb, State.checked, passive',
    other, State.tap, h1, h2, State.dispose, hf, if_true]

/-- A frame to the part that is not tapped is consumed. -/
theorem State.receive_consumed {s : State} (h : s.listens) {f : Frame} (hf : s.foreign f.src) (hb : f.body.length ≤ 244)
    (hd : f.dest = s.node) (h1 : f.kind ≠ kSample) (h2 : f.kind ≠ kStatus) (n : Nat) :
    s.receiveSome f n = s.countReceived.consume f n := by
  have dest : f.dest = s.countReceived.node := hd
  rw [State.receiveSome_foreign n h hf hb]
  simp only [State.tap, if_neg h1, if_neg h2, State.dispose, if_neg (not_or.mpr hf.2), dest, true_or, if_true]

theorem unknown_kind {k : Byte} (h : k = 0 ∨ 9 < k.toNat) :
    isManagement k = false ∧ isSilent k = false ∧ k ≠ kSample ∧ k ≠ kStatus := by
  revert k
  decide

theorem State.receive_unknown {s : State} (h : s.listens) {snd : Sender} (hf : s.foreign snd.src) {k : Byte}
    (hk : k = 0 ∨ 9 < k.toNat) {body : List Byte} (hb : body.length ≤ 244) :
    s.receive (sentTo s.node snd k body) = s.heard.answer (sentTo s.node snd k body) [.unknownKind] [] := by
  obtain ⟨management, silent, h1, h2⟩ := unknown_kind hk
  rw [State.receive, State.receive_consumed h (f := sentTo s.node snd k body) hf hb rfl h1 h2, State.consume]
  simp only [sentTo, management, silent, Bool.false_eq_true, if_false]
  rfl

theorem State.receive_silent {s : State} (h : s.listens) {snd : Sender} (hf : s.foreign snd.src) {k : Byte}
    (hk : k = kOrder ∨ k = kReport) {body : List Byte} (hb : body.length ≤ 244) :
    s.receive (sentTo s.node snd k body) = s.heard := by
  have kind : isManagement k = false ∧ isSilent k = true ∧ k ≠ kSample ∧ k ≠ kStatus := by
    rcases hk with rfl | rfl <;> decide
  obtain ⟨management, silent, h1, h2⟩ := kind
  rw [State.receive, State.receive_consumed h (f := sentTo s.node snd k body) hf hb rfl h1 h2, State.consume]
  simp only [sentTo, management, silent, Bool.false_eq_true, if_false, if_true]
  rfl

theorem State.accepts_eq_false {s : State} {src : Byte} (h0 : s.plant.master ≠ 0) (h : s.plant.master ≠ src.toNat) :
    s.accepts src = false :=
  Bool.or_eq_false_iff.mpr ⟨beq_eq_false_iff_ne.mpr h0, beq_eq_false_iff_ne.mpr h⟩

/-! ## Frames that return -/

theorem returnedRest_none {seq : SeqNo} {l : List Return} (h : ∀ e ∈ l, e.seq ≠ seq) : returnedRest seq l = none := by
  induction l with
  | nil => rfl
  | cons e l ih =>
    rw [returnedRest, if_neg (h e List.mem_cons_self)]
    exact ih fun x hx => h x (List.mem_cons_of_mem _ hx)

theorem returnedRest_some {seq : SeqNo} {old rest : List Return} {e : Return} (he : e.seq = seq) (h : ∀ x ∈ old, x.seq ≠ seq) :
    returnedRest seq (old ++ e :: rest) = some rest := by
  induction old with
  | nil => rw [List.nil_append, returnedRest, if_pos he]
  | cons x old ih =>
    rw [List.cons_append, returnedRest, if_neg (h x List.mem_cons_self)]
    exact ih fun y hy => h y (List.mem_cons_of_mem _ hy)

/-- A frame of the part's own comes back to it. -/
theorem exec_strip {s : State} (h : s.listens) {body : List Byte} (hb : body.length ≤ 244) (dest kind flags : Byte) (seq : SeqNo) :
    exec (.strip dest kind flags seq body) s = .next (s.countReceived.countStripped.returned seq) := by
  obtain ⟨held, passive⟩ := h
  have passive' : s.countReceived.passive = false := passive
  change Host.Outcome.next (s.receiveSome _ 256) = _
  simp only [State.receiveSome, held, Bool.false_eq_true, if_false, Nat.not_lt.mpr hb, State.checked, passive']
  exact congrArg Host.Outcome.next (if_pos rfl)

/-! ## Frames that pass -/

theorem exec_forwardFrame {s : State} {f : Frame} (hb : f.body.length ≤ 244) (h : (s.held = false ∧ s.passive = true) ∨
    (s.listens ∧ s.foreign f.src ∧ f.dest ≠ s.node ∧ f.kind ≠ kSample ∧ f.kind ≠ kStatus ∧ f.kind ≠ kOrder ∧
      ¬ (f.dest = 255 ∧ f.kind = kTime))) : exec (.forwardFrame f) s = .next (s.countReceived.forwardOrDrop f) := by
  change Host.Outcome.next (s.receiveSome f 256) = _
  rcases h with ⟨held, passive⟩ | ⟨listens, foreign, hd, h1, h2, h3, ht⟩
  · have passive' : s.countReceived.passive = true := passive
    simp only [State.receiveSome, held, Bool.false_eq_true, if_false, Nat.not_lt.mpr hb, State.checked, passive', if_true]
  · have dest : ¬ (f.dest = s.countReceived.node ∨ (f.dest = 255 ∧ f.kind = kTime)) := not_or.mpr ⟨hd, ht⟩
    rw [State.receiveSome_foreign 256 listens foreign hb]
    simp only [State.tap, if_neg h1, if_neg h2, State.dispose, if_neg (not_or.mpr foreign.2), if_neg dest, if_neg h3]

theorem State.forwardOrDrop_room {s : State} (h : s.ring.forward.length < 24) (f : Frame) : s.forwardOrDrop f = s.enqueue f :=
  if_pos (s.forwardRoom_iff.mpr h)

theorem State.forwardOrDrop_full {s : State} (h : 24 ≤ s.ring.forward.length) (f : Frame) : s.forwardOrDrop f = s.countDropped :=
  if_neg fun k => Nat.not_lt.mpr h (s.forwardRoom_iff.mp k)

/-- A frame that joins at an idle, sound port leaves at once. -/
theorem State.enqueue_idle {s : State} (hs : s.ring.sending = none) (sound : s.portSound) (f : Frame) : s.enqueue f = { s with
    ring := { s.ring with forwarded := s.ring.forwarded + 1, sending := some (.forwarded f), run := min (s.ring.run + 1) 8 } } := by
  obtain ⟨hf, ho, hq⟩ := sound hs
  simp [State.enqueue, State.pump, hs, State.chooseNext, hf, ho, hq, State.sendForward, Config.runLimit]

/-! ## The arbiter -/

/-- The return entries that stay beside a new one. -/
def Ring.kept (r : Ring) : List Return := if r.returns.length < 64 then r.returns else r.returns.tail

/-- What an own frame leaves of the return list and its watch. -/
theorem Ring.remember_eq (r : Ring) (now timeout : Nat) (k : Byte) : r.remember now timeout k = { r with
    seqNo := r.seqNo + 1
    returns := r.kept ++ [⟨r.seqNo, k, now⟩]
    watch := if r.returns.length < 64 ∧ r.returns ≠ [] then r.watch
             else (r.kept ++ [(⟨r.seqNo, k, now⟩ : Return)]).head?.map fun e => e.instant + timeout } := by
  unfold Ring.remember Ring.kept Config.returnCap
  by_cases h : 64 ≤ r.returns.length
  · have full : ¬ r.returns.length < 64 := Nat.not_lt.mpr h
    simp only [h, full, if_true, if_false, false_and, watchFor]
  · have room : r.returns.length < 64 := Nat.not_le.mp h
    simp only [h, room, if_true, if_false, true_and]
    cases hr : r.returns with
    | nil => rfl
    | cons e l => rfl

/-- The arbiter's turn is that of an own frame. -/
def State.ownTurn (s : State) : Prop :=
  s.ring.forward = [] ∨ (8 ≤ s.ring.run ∧ (s.ring.orders ≠ [] ∨ s.rep.queue ≠ []))

theorem State.ownTurn_iff (s : State) : s.ownTurn ↔
    ¬ (s.ring.forward ≠ [] ∧ (s.ring.run < Config.runLimit ∨ (s.ring.orders = [] ∧ s.rep.queue = []))) := by
  unfold State.ownTurn Config.runLimit
  rw [← Nat.not_lt]
  tauto

theorem State.chooseNext_forward {s : State} {f : Frame} {fs : List Frame} (hf : s.ring.forward = f :: fs)
    (h : s.ring.run < 8 ∨ (s.ring.orders = [] ∧ s.rep.queue = [])) : s.chooseNext = { s with ring := { s.ring with
      forward := fs, sending := some (.forwarded f), run := min (s.ring.run + 1) 8, forwarded := s.ring.forwarded + 1 } } := by
  rw [State.chooseNext, if_pos ⟨by rw [hf]; exact List.cons_ne_nil _ _, h⟩]
  simp only [State.sendForward, hf]
  rfl

theorem State.chooseNext_order {s : State} (h : s.ownTurn) {o : OwnOrder} {os : List OwnOrder} (ho : s.ring.orders = o :: os) :
    s.chooseNext = { s with ring := { s.ring.remember s.now s.plant.returnTimeout kOrder with
      orders := os, sending := some (.order s.ring.seqNo o), run := 0 } } := by
  rw [State.chooseNext, if_neg (s.ownTurn_iff.mp h), if_pos (by rw [ho]; exact List.cons_ne_nil _ _)]
  simp only [State.sendOrder, ho]

theorem State.chooseNext_report {s : State} (h : s.ownTurn) (ho : s.ring.orders = []) {r : Report} {rs : List Report}
    (hq : s.rep.queue = r :: rs) : s.chooseNext = { s with
      ring := { s.ring.remember s.now s.plant.returnTimeout kReport with sending := some (.report s.ring.seqNo r), run := 0 }
      rep := { s.rep with queue := rs, suppressed := s.rep.suppressed && decide (s.plant.almostEmpty < rs.length) } } := by
  rw [State.chooseNext, if_neg (s.ownTurn_iff.mp h), if_neg (not_not.mpr ho)]
  simp only [State.sendReport, hq, Reports.left, ← decide_not, not_le]

theorem exec_sendingEnd {s : State} (h : s.ring.sending ≠ none) :
    exec .sendingEnd s = .next (State.chooseNext { s with ring := { s.ring with sending := none } }) := by
  change Host.Outcome.next s.sendingEnded = _
  cases hs : s.ring.sending with
  | none => exact absurd hs h
  | some x => simp only [State.sendingEnded, hs]

/-! ## The report queue -/

theorem State.offerReply_full {s : State} (h : 48 ≤ s.rep.queue.length) (r : Report) :
    s.offerReply r = { s with rep := { s.rep with lostAnswer := s.rep.lostAnswer + 1 } } :=
  if_neg fun k => Nat.not_lt.mpr h (s.replyRoom_iff.mp k)

theorem State.offerReply_busy {s : State} (hs : s.ring.sending ≠ none) (h : s.rep.queue.length < 48) (r : Report) :
    s.offerReply r = { s with rep := { s.rep with
      queue := s.rep.queue ++ [r], suppressed := s.rep.suppressed || decide (s.plant.fullMark ≤ s.rep.queue.length + 1) } } :=
  (if_pos (s.replyRoom_iff.mpr h)).trans (State.joinReports_busy hs r)

theorem State.notify_passive {s : State} (h : s.passive = true) (n : NoticeName) (x : SourceRecord) (l : List Item) :
    s.notify n x l = s := if_neg fun k => by rw [h] at k; cases k.1

/-- A notice of a class, at a part that is not PASSIVE. -/
theorem State.notify_active {s : State} (h : s.passive = false) (n : NoticeName) (x : SourceRecord) (l : List Item) :
    s.notify n x l = if s.admitsNotice n.cls x then s.offerNotice ⟨n, n.cls, x, s.plantSec, s.plantMilli, 0, l⟩ else s := by
  simp only [State.notify, State.notifyAs, h, true_and]

end Sys2Proof.Machine

open Sys2Proof Sys2Proof.Machine

/-- Settles O30. -/
theorem framesEndHere : Obligations.FramesEndHere := by
  refine ⟨?_, fun s snd body h hf hb => ⟨fun kind hk => ?_, fun report => ?_, fun h0 hm kind n hk => ?_, fun h0 hm => ?_⟩⟩
  · intro s dropped
    refine ⟨fun bytes hh h => exec_frameDropped hh h, fun all dest kind flags seq body h hb h1 h2 => ?_⟩
    refine congrArg Host.Outcome.next (State.receive_sourceless h ?_ hb h1 h2)
    cases all
    · exact .inl rfl
    · exact .inr rfl
  · exact congrArg Host.Outcome.next (State.receive_unknown h hf hk hb)
  · refine congrArg Host.Outcome.next (State.receive_silent h hf ?_ hb)
    cases report
    · exact .inl rfl
    · exact .inr rfl
  · refine State.receiveSome_refused n h (f := sentTo s.node snd kind body) hf (State.accepts_eq_false h0 hm) hb (.inl rfl) ?_
    rcases hk with rfl | rfl | rfl | rfl | rfl <;> rfl
  · exact congrArg Host.Outcome.next (State.receiveSome_refused 256 h (f := sentTo 255 snd kTime body) hf (State.accepts_eq_false h0 hm)
      hb (.inr ⟨rfl, rfl⟩) rfl)

/-- Settles O31. -/
theorem stripAndReturn : Obligations.StripAndReturn := by
  intro s dest kind flags seq body h hb
  refine ⟨fun bytes hc => exec_frameDropped h.1 hc, fun hn => ?_, ?_⟩
  · rw [exec_strip h hb, State.returned]
    simp only [State.countStripped, State.countReceived, returnedRest_none hn]
  · intro old e rest hl he hn u v
    have removed : (old ++ e :: rest).length - rest.length = old.length + 1 := by
      simp only [List.length_append, List.length_cons]
      omega
    rw [exec_strip h hb, State.returned]
    simp only [State.countStripped, State.countReceived, hl, returnedRest_some he hn, removed]
    cases s.ring.continuity <;> rfl

/-- Settles O32. -/
theorem framesForwarded : Obligations.FramesForwarded := by
  intro s f hb h
  refine ⟨fun room => ?_, fun full => ?_, fun hs => State.enqueue_busy (s := s.countReceived) f hs,
    fun hs sound => State.enqueue_idle (s := s.countReceived) hs sound f⟩
  · rw [exec_forwardFrame hb h, State.forwardOrDrop_room (s := s.countReceived) room]
    rfl
  · rw [exec_forwardFrame hb h, State.forwardOrDrop_full (s := s.countReceived) full]
    rfl

/-- Settles O33: the arbiter's choice, branch by branch. -/
theorem sendingEnds : Obligations.SendingEnds := by
  intro s
  refine ⟨fun hs => ?_, fun hs => ?_⟩
  · change Host.Outcome.next s.sendingEnded = _
    simp only [State.sendingEnded, hs]
  · intro e kept watch
    rw [exec_sendingEnd hs]
    refine ⟨fun f fs hf hr => ?_, fun turn => ⟨fun o os ho => ?_, fun r rs ho hq => ?_⟩, fun hf ho hq => ?_⟩
    · exact congrArg Host.Outcome.next (State.chooseNext_forward (s := { s with ring := { s.ring with sending := none } }) hf hr)
    · rw [State.chooseNext_order (s := { s with ring := { s.ring with sending := none } }) turn ho, Ring.remember_eq]
      rfl
    · rw [State.chooseNext_report (s := { s with ring := { s.ring with sending := none } }) turn ho hq, Ring.remember_eq]
      rfl
    · simp only [State.chooseNext, hf, ho, ne_eq, not_true_eq_false, false_and, if_false, State.sendReport, hq]

/-- Settles O34. -/
theorem reportQueue : Obligations.ReportQueue := by
  refine ⟨?_, ?_⟩
  · intro s hs joined free
    have room : s.noticeRoom = true ↔ free := s.noticeRoom_iff
    refine ⟨fun f codes extra => ⟨fun h => State.offerReply_busy hs h _, fun h => State.offerReply_full h _⟩,
      fun f kind items => ⟨fun h => State.offerReply_busy hs h _, fun h => State.offerReply_full h _⟩,
      fun n => ⟨fun h => ?_, fun h => if_neg (room.not.mpr h)⟩, fun items => ⟨fun h hq => ?_, fun h => if_neg ?_⟩⟩
    · exact (if_pos (room.mpr h)).trans (State.joinReports_busy (s := { s with rep := { s.rep with lostNotice := 0 } }) hs _)
    · exact (if_pos ⟨hq, room.mpr h⟩).trans (State.joinReports_busy hs _)
    · rintro ⟨hq, hr⟩
      exact h.elim (· (room.mp hr)) fun hq' => by rw [hq'] at hq; cases hq
  · intro s name src items offered flag
    refine ⟨fun hp => State.notify_passive hp _ _ _, fun hp => ?_⟩
    have flagged : s.notifyFlag src = flag := by cases src <;> rfl
    rw [State.notify_active hp]
    have gated {c : NoticeClass} {b : Bool} (hc : name.cls = c) (hb : s.admitsNotice c src = (b && s.notifyFlag src)) :
        (if s.admitsNotice name.cls src then offered else s) = if b && flag then offered else s := by
      rw [← flagged, ← hb, ← hc]
    exact ⟨fun hc => if_pos (State.admitsNotice_of_class hc src), fun hc => gated hc rfl, fun hc => gated hc rfl,
      fun hc => gated hc rfl, fun hc => gated hc rfl, fun hc => gated hc rfl⟩

end
section
/-!
PROOFS. Frames and orders decode to what was encoded (chapter 11).
-/

namespace Sys2Proof.Machine

/-! ## Figures and their bytes -/

theorem append_toNat {m n : Nat} (x : BitVec m) (y : BitVec n) : (x ++ y).toNat = x.toNat * 2 ^ n + y.toNat := by
  rw [BitVec.toNat_append, ← Nat.shiftLeft_add_eq_or_of_lt y.isLt, Nat.shiftLeft_eq]

theorem word16_toNat (a b : Byte) : (word16 a b).toNat = a.toNat * 256 + b.toNat := append_toNat a b

theorem word32_toNat (a b c d : Byte) :
    (word32 a b c d).toNat = ((a.toNat * 256 + b.toNat) * 256 + c.toNat) * 256 + d.toNat := by
  have cut : (word32 a b c d).toNat = (a ++ b ++ c).toNat * 2 ^ 8 + d.toNat := append_toNat (a ++ b ++ c) d
  rw [cut, append_toNat, append_toNat]
  norm_num

theorem byteAt_toNat {n : Nat} (w : BitVec n) (k : Nat) : (w.extractLsb' k 8).toNat = w.toNat / 2 ^ k % 256 := by
  rw [BitVec.extractLsb'_toNat, Nat.shiftRight_eq_div_pow]

theorem word16_bytes16 (w : BitVec 16) : word16 (w.extractLsb' 8 8) (w.extractLsb' 0 8) = w := by
  refine BitVec.eq_of_toNat_eq ?_
  rw [word16_toNat, byteAt_toNat, byteAt_toNat]
  have := w.isLt
  omega

theorem bytes16_word16 (a b : Byte) : bytes16 (word16 a b) = [a, b] := by
  have ha := a.isLt
  have hb := b.isLt
  have high : (word16 a b).extractLsb' 8 8 = a := BitVec.eq_of_toNat_eq (by rw [byteAt_toNat, word16_toNat]; omega)
  have low : (word16 a b).extractLsb' 0 8 = b := BitVec.eq_of_toNat_eq (by rw [byteAt_toNat, word16_toNat]; omega)
  rw [bytes16, high, low]

theorem word32_bytes32 (w : Word) :
    word32 (w.extractLsb' 24 8) (w.extractLsb' 16 8) (w.extractLsb' 8 8) (w.extractLsb' 0 8) = w := by
  refine BitVec.eq_of_toNat_eq ?_
  rw [word32_toNat, byteAt_toNat, byteAt_toNat, byteAt_toNat, byteAt_toNat]
  have := w.isLt
  omega

/-! ## Frames -/

/-- The bytes of a header with its body length and what follows, as the checks read them. -/
theorem frameBytes_eq (f : Frame) : frameBytes f = f.dest :: f.src :: f.kind :: f.flags :: f.seq.extractLsb' 8 8 ::
    f.seq.extractLsb' 0 8 :: (BitVec.ofNat 16 f.body.length).extractLsb' 8 8 :: (BitVec.ofNat 16 f.body.length).extractLsb' 0 8 ::
    (f.body ++ bytes32 (crc32 (coveredBytes f))) := by
  simp [frameBytes, coveredBytes, bytes16]

theorem checkedFrame_frameBytes {f : Frame} (h : f.body.length ≤ 244) : checkedFrame (frameBytes f) = some f := by
  have crc : (bytes32 (crc32 (coveredBytes f))).length = 4 := rfl
  have length : (f.body ++ bytes32 (crc32 (coveredBytes f))).length = f.body.length + 4 := by rw [List.length_append, crc]
  have field : (BitVec.ofNat 16 f.body.length).toNat = f.body.length := by
    rw [BitVec.toNat_ofNat]; exact Nat.mod_eq_of_lt (by omega)
  have fits : ¬ (f.body.length + 4 < 4 ∨ 248 < f.body.length + 4) := by omega
  rw [frameBytes_eq, checkedFrame]
  simp only [length, Nat.add_sub_cancel, List.take_left', List.drop_left', word16_bytes16, field, fits, if_false, ne_eq,
    not_true_eq_false]

/-- Bytes that pass the checks are a header, a body within the limit and its CRC. -/
theorem checkedFrame_eq_some {bs : List Byte} {f : Frame} (h : checkedFrame bs = some f) : frameBytes f = bs ∧ f.body.length ≤ 244 := by
  unfold checkedFrame at h
  split at h
  case h_2 => cases h
  case h_1 d s k fl q1 q0 l1 l0 rest =>
    simp only at h
    split at h
    case isTrue => cases h
    case isFalse fits =>
      split at h
      case isTrue => cases h
      case isFalse field =>
        split at h
        case isTrue => cases h
        case isFalse crc =>
          have body : (rest.take (rest.length - 4)).length = rest.length - 4 := by
            rw [List.length_take]; omega
          have frame := Option.some.inj h
          subst frame
          have header : BitVec.ofNat 16 (rest.length - 4) = word16 l1 l0 := by
            rw [← not_not.mp field, BitVec.ofNat_toNat, BitVec.setWidth_eq]
          refine ⟨?_, by simp only [body]; omega⟩
          simp only [frameBytes, ← not_not.mp crc]
          simp only [coveredBytes, body, header, bytes16_word16, List.append_assoc, List.take_append_drop]
          rfl

/-! ## Orders -/

theorem orderBody_orderBytes (o : Order) {v : Int} (lo : -2147483648 ≤ v) (hi : v ≤ 2147483647) (rest : List Byte) :
    orderBody (orderBytes o v ++ rest) = some (BitVec.ofNat 8 o.num, v) := by
  have value : (BitVec.ofInt 32 v).toInt = v := by
    rw [BitVec.toInt_ofInt]
    exact Int.bmod_eq_of_le (by norm_num; omega) (by norm_num; omega)
  simp only [orderBytes, bytes32, List.cons_append, List.nil_append, orderBody, word32_bytes32, value]

end Sys2Proof.Machine

open Sys2Proof Sys2Proof.Machine

/-- Settles O18. -/
theorem framesRoundTrip : Obligations.FramesRoundTrip :=
  ⟨fun _ h => checkedFrame_frameBytes h, fun _ _ h => checkedFrame_eq_some h,
    fun o _ rest lo hi => ⟨orderBody_orderBytes o lo hi rest, by cases o <;> rfl⟩⟩

end
section
/-!
PROOFS. TABLE frames, directives and queries at the part (sections 10.1, 10.2 and 10.6).
-/

namespace Sys2Proof.Machine

/-! ## One entry -/

/-- An outcome of an entry that leaves the state where it refuses. -/
abbrev State.Refuses (s : State) (r : Code × State) : Prop := r.1 ≠ .done → r.2 = s

theorem State.Refuses.refused (s : State) (c : Code) : s.Refuses (c, s) := fun _ => rfl

theorem State.Refuses.taken (s t : State) : s.Refuses (.done, t) := fun h => absurd rfl h

theorem State.Refuses.ite {s : State} {p : Prop} [Decidable p] {a b : Code × State} (ha : s.Refuses a) (hb : s.Refuses b) :
    s.Refuses (if p then a else b) := by
  split <;> assumption

theorem State.Refuses.dite {s : State} {p : Prop} [Decidable p] {a : p → Code × State} (ha : ∀ h, s.Refuses (a h)) (c : Code) :
    s.Refuses (if h : p then a h else (c, s)) := by
  split
  · exact ha _
  · exact .refused s c

theorem State.plantEntry_refuses (s : State) (ws : List Word) : s.Refuses (s.plantEntry ws) := by
  refine .ite (.refused s _) ?_
  split
  · exact .refused s _
  · exact .ite (.refused s _) (.taken s _)

theorem State.dispatchEntry_refuses (s : State) (ws : List Word) : s.Refuses (s.dispatchEntry ws) := by
  unfold State.dispatchEntry
  split
  · exact .refused s _
  · exact .taken s _

theorem State.checkEntry_refuses (s : State) (ws : List Word) : s.Refuses (s.checkEntry ws) := by
  unfold State.checkEntry
  split
  · exact .taken s _
  · exact .refused s _

theorem State.channelEntry_refuses (s : State) (c : Fin 96) (ws : List Word) : s.Refuses (s.channelEntry c ws) := by
  unfold State.channelEntry
  split
  · exact .refused s _
  · exact .ite (.refused s _) (.ite (.refused s _) (.taken s _))

theorem State.cavernEntry_refuses (s : State) (c : Fin 4) (ws : List Word) : s.Refuses (s.cavernEntry c ws) := by
  refine .ite (.refused s _) ?_
  split
  · exact .refused s _
  · exact .ite (.refused s _) (.ite (.refused s _) (.taken s _))

theorem State.storeEntry_refuses (s : State) (m : Fin 3) (ws : List Word) : s.Refuses (s.storeEntry m ws) := by
  refine .ite (.refused s _) ?_
  split
  · exact .refused s _
  · exact .ite (.refused s _) (.taken s _)

theorem State.trainEntry_refuses (s : State) (i : Fin 8) (ws : List Word) : s.Refuses (s.trainEntry i ws) := by
  refine .ite (.refused s _) ?_
  split
  · exact .refused s _
  · exact .ite (.refused s _) (.ite (.refused s _) (.taken s _))

theorem State.entryAt_refuses (s : State) (t : TableId) (n : Nat) (ws : List Word) : s.Refuses (s.entryAt t n ws) := by
  cases t with
  | plant => exact .ite (s.plantEntry_refuses ws) (.refused s _)
  | dispatch => exact .ite (s.dispatchEntry_refuses ws) (.refused s _)
  | channel => exact .dite (fun _ => s.channelEntry_refuses _ ws) _
  | cavern => exact .dite (fun _ => s.cavernEntry_refuses _ ws) _
  | store => exact .dite (fun _ => s.storeEntry_refuses _ ws) _
  | train => exact .dite (fun _ => s.trainEntry_refuses _ ws) _
  | check => exact .ite (s.checkEntry_refuses ws) (.refused s _)

/-! ## The entries of a frame -/

/-- Entries taken in two events leave what they leave in one. -/
theorem State.takeTable_add (t : TableId) (a b n : Nat) (ws : List (List Word)) (s : State) :
    State.takeTable t (a + b) n ws s =
      ((State.takeTable t a n ws s).1 ++ (State.takeTable t b (n + (State.takeTable t a n ws s).1.length)
          (State.takeTable t a n ws s).2.1 (State.takeTable t a n ws s).2.2).1,
        (State.takeTable t b (n + (State.takeTable t a n ws s).1.length)
          (State.takeTable t a n ws s).2.1 (State.takeTable t a n ws s).2.2).2) := by
  induction a generalizing n ws s with
  | zero => rw [Nat.zero_add]; rfl
  | succ a ih =>
    cases ws with
    | nil => rw [Nat.succ_add]; cases b <;> rfl
    | cons w ws =>
      rw [Nat.succ_add]
      have next (m : Nat) : n + 1 + m = n + (m + 1) := by omega
      simp only [State.takeTable, ih, List.cons_append, List.length_cons, next]

/-- Where every entry is taken, none is left, and each has its code. -/
theorem State.takeTable_all (t : TableId) {k : Nat} (n : Nat) {ws : List (List Word)} (h : ws.length ≤ k) (s : State) :
    (State.takeTable t k n ws s).1.length = ws.length ∧ (State.takeTable t k n ws s).2.1 = [] := by
  induction ws generalizing k n s with
  | nil => cases k <;> exact ⟨rfl, rfl⟩
  | cons w ws ih =>
    obtain ⟨k, rfl⟩ : ∃ m, k = m + 1 := ⟨k - 1, by simp only [List.length_cons] at h; omega⟩
    obtain ⟨codes, left⟩ := ih (k := k) (n + 1) (by simpa using h) (s.takeTableEntry t n w).2
    exact ⟨by rw [State.takeTable, List.length_cons, codes, List.length_cons], left⟩

theorem pieces_length (k n : Nat) (bs : List Byte) : (pieces k n bs).length = n := by
  induction n generalizing bs with
  | zero => rfl
  | succ n ih => rw [pieces, List.length_cons, ih]

theorem tableOf_num (t : TableId) : tableOf (BitVec.ofNat 8 t.num) = some t := by cases t <;> rfl

theorem tableBody_none {t : TableId} {count : Byte} {bs : List Byte}
    (h : count.toNat = 0 ∨ 16 < count.toNat ∨ bs.length < 4 * t.words * count.toNat) (first : Byte) :
    tableBody (tableFrameBody t first count bs) = none := by
  simp only [tableBody, tableFrameBody, tableOf_num, if_pos h]

theorem tableBody_some {t : TableId} {count : Byte} {bs : List Byte} (h1 : 1 ≤ count.toNat) (h2 : count.toNat ≤ 16)
    (h3 : 4 * t.words * count.toNat ≤ bs.length) (first : Byte) : tableBody (tableFrameBody t first count bs) =
      some (t, first.toNat, (pieces (4 * t.words) count.toNat bs).map wordsOf) := by
  have h : ¬ (count.toNat = 0 ∨ 16 < count.toNat ∨ bs.length < 4 * t.words * count.toNat) := by omega
  simp only [tableBody, tableFrameBody, tableOf_num, if_neg h]

/-- The entries of a frame all taken in one event, with its answer. -/
theorem State.goOn_all {s : State} {w : TableWork} {n : Nat} (h : w.left.length ≤ n) :
    ∃ codes u, s.goOn w n = State.answer u (s.workFrame w.snd) codes [] ∧
      codes.length = w.codes.length + w.left.length ∧ u.mgr.work = none := by
  obtain ⟨codes, left⟩ := State.takeTable_all w.table w.index h s
  refine ⟨w.codes ++ (State.takeTable w.table n w.index w.left s).1, { (State.takeTable w.table n w.index w.left s).2.2 with
    mgr := { (State.takeTable w.table n w.index w.left s).2.2.mgr with work := none } }, ?_, ?_, rfl⟩
  · simp only [State.goOn, left, List.isEmpty_nil, if_true]
  · rw [List.length_append, codes]

theorem exec_table_frame (t : TableId) (snd : Sender) (first count : Byte) (bs : List Byte) (n : Nat) (s : State) :
    exec (t.command (.frame snd first count bs n)) s =
      .next (s.receiveSome (sentTo s.node snd kTable (tableFrameBody t first count bs)) n) := by cases t <;> rfl

theorem exec_table_more (t : TableId) (n : Nat) (s : State) : exec (t.command (.more n)) s = .next (s.moreWork t n) := by
  cases t <;> rfl

/-- A TABLE frame the part accepts while none is held. -/
theorem State.receive_table {s : State} {snd : Sender} (h : s.mayCommand snd.src) (hw : s.mgr.work = none) {body : List Byte}
    (hb : body.length ≤ 244) (n : Nat) : s.receiveSome (sentTo s.node snd kTable body) n =
      s.heard.takeTableFrame (sentTo s.node snd kTable body) n ∧ s.heard.finishWork = s.heard := by
  refine ⟨s.receiveSome_management n (f := sentTo s.node snd kTable body) h hb (.inl rfl) rfl, ?_⟩
  have none : s.heard.mgr.work = Option.none := hw
  simp only [State.finishWork, none]

/-! ## Directives -/

theorem clampTo_eq {lo hi : Int} (h : lo ≤ hi) (x : Int) : clampTo lo hi x = max lo (min hi x) := by
  unfold clampTo; split <;> [skip; split] <;> omega

theorem State.trainAvailTaken_range {s : State} {n v : Nat} (h : 8 ≤ n ∨ 1 < v) : s.trainAvailTaken n v = (.range, s) := by
  unfold State.trainAvailTaken
  by_cases hn : n < 8
  · rw [dif_pos hn, if_pos (h.resolve_left (by omega))]
  · rw [dif_neg hn]

/-- A TRAIN_AVAIL directive for a slot. -/
theorem State.trainAvailTaken_slot (s : State) (i : Fin 8) {v : Nat} (h : v ≤ 1) : s.trainAvailTaken i.val v =
    if (s.train i).present = false then (.state, s)
    else if (s.train i).available = (v == 0) then (.done, s)
    else (.done, (s.setTrain i { s.train i with available := v == 0 }).notify .trainState (.train i)
      [.fig i.val, flagItem (!(s.train i).available), flagItem (!(v == 0)), .unstated 7]) := by
  rw [State.trainAvailTaken, dif_pos i.isLt, if_neg (by omega)]

theorem flagItem_not (b : Bool) : flagItem (!b) = .code (if b then 0 else 1) := by cases b <;> rfl

theorem Byte.toNat_beq_zero (b : Byte) : (b.toNat == 0) = (b == 0) := by revert b; decide

/-! ## Queries -/

theorem exec_query (k : RecordKind) (snd : Sender) (l : List Byte) (s : State) :
    exec (k.command snd l) s = .next (s.receive (queryFrame s.node snd k l)) := by cases k <;> rfl

theorem recordOf_num (k : RecordKind) : recordOf (BitVec.ofNat 8 k.num) = some k := by cases k <;> rfl

/-- The frame of a query that the part accepts. -/
theorem State.receive_query {s : State} {snd : Sender} (h : s.mayCommand snd.src) (k : RecordKind) (a b c d : Byte)
    {rest : List Byte} (hl : rest.length ≤ 239) : s.receive (queryFrame s.node snd k (a :: b :: c :: d :: rest)) =
      s.heard.queryTaken (queryFrame s.node snd k (a :: b :: c :: d :: rest)) := by
  have fits : (BitVec.ofNat 8 k.num :: a :: b :: c :: d :: rest).length ≤ 244 := by simp only [List.length_cons]; omega
  exact s.receiveSome_management 256 (f := queryFrame s.node snd k (a :: b :: c :: d :: rest)) h fits (.inl rfl) rfl

/-- A query whose index is beyond its table. -/
theorem exec_query_range {s : State} {snd : Sender} (h : s.mayCommand snd.src) {k : RecordKind} {a b c d : Byte}
    {rest : List Byte} (hl : rest.length ≤ 239) (hq : s.heard.queryItems k (word32 a b c d).toNat = none) :
    exec (k.command snd (a :: b :: c :: d :: rest)) s =
      .next (s.heard.answer (queryFrame s.node snd k (a :: b :: c :: d :: rest)) [.range] []) := by
  rw [exec_query, State.receive_query h k a b c d hl]
  simp only [State.queryTaken, queryFrame, sentTo, queryBody, recordOf_num, hq]

/-- A query that is answered with items. -/
theorem exec_query_items {s : State} {snd : Sender} (h : s.mayCommand snd.src) {k : RecordKind} {a b c d : Byte}
    {rest : List Byte} (hl : rest.length ≤ 239) {l : List Item} (hq : s.heard.queryItems k (word32 a b c d).toNat = some l) :
    exec (k.command snd (a :: b :: c :: d :: rest)) s =
      .next (if k = .tripCapture ∧ s.replyRoom then
        (s.heard.reply (queryFrame s.node snd k (a :: b :: c :: d :: rest)) k l).captureRead (word32 a b c d).toNat
      else s.heard.reply (queryFrame s.node snd k (a :: b :: c :: d :: rest)) k l) := by
  rw [exec_query, State.receive_query h k a b c d hl]
  simp only [State.queryTaken, queryFrame, sentTo, queryBody, recordOf_num, hq]
  rfl

/-- A query that reads and takes nothing. -/
theorem exec_query_reads {s : State} {snd : Sender} (h : s.mayCommand snd.src) {k : RecordKind} (hk : k ≠ .tripCapture)
    {a b c d : Byte} {rest : List Byte} (hl : rest.length ≤ 239) {l : List Item}
    (hq : s.heard.queryItems k (word32 a b c d).toNat = some l) : exec (k.command snd (a :: b :: c :: d :: rest)) s =
      .next (s.heard.reply (queryFrame s.node snd k (a :: b :: c :: d :: rest)) k l) := by
  rw [exec_query_items h hl hq, if_neg fun x => hk x.1]

theorem State.queryItems_beyond (s : State) {k : RecordKind} {size n : Nat} (h : size ≤ n)
    (hk : (k, size) ∈ [(RecordKind.channel, 96), (.cavern, 4), (.store, 3), (.train, 8), (.tripCapture, 8)]) :
    s.queryItems k n = none := by
  simp only [List.mem_cons, Prod.mk.injEq, List.not_mem_nil, or_false] at hk
  obtain ⟨rfl, rfl⟩ | ⟨rfl, rfl⟩ | ⟨rfl, rfl⟩ | ⟨rfl, rfl⟩ | ⟨rfl, rfl⟩ := hk <;> exact dif_neg (by omega)

/-- The older record is taken from a slot's stack. -/
theorem State.captureRead_slot (s : State) (i : Fin 8) :
    s.captureRead i.val = s.setTrain i { s.train i with stack := (s.train i).stack.tail, overrun := false } := dif_pos i.isLt

end Sys2Proof.Machine

open Sys2Proof Sys2Proof.Machine

/-- Settles O52: the entries one by one, `takeTable_add` for two events, `goOn_all` for a frame taken whole. -/
theorem tableFrames : Obligations.TableFrames := by
  refine ⟨fun s t n ws => s.entryAt_refuses t n ws, fun t a b n ws s => State.takeTable_add t a b n ws s, ?_, ?_⟩
  · intro s t snd first count bytes n h hw hl f
    have fits : (tableFrameBody t first count bytes).length ≤ 244 := by
      simp only [tableFrameBody, List.length_cons]
      omega
    obtain ⟨received, finished⟩ := State.receive_table h hw fits n
    rw [exec_table_frame, received, State.takeTableFrame, finished]
    refine ⟨fun bad => ?_, fun h1 h2 h3 hn => ?_⟩
    · simp only [sentTo, tableBody_none bad]
      rfl
    · simp only [sentTo, tableBody_some h1 h2 h3]
      obtain ⟨codes, u, gone, length, work⟩ := State.goOn_all (s := s.heard) (n := n)
        (w := ⟨⟨snd.src, snd.flags, snd.seq⟩, t, first.toNat, (pieces (4 * t.words) count.toNat bytes).map wordsOf, []⟩)
        (by simp only [List.length_map, pieces_length]; exact hn)
      refine ⟨codes, u, congrArg Host.Outcome.next gone, ?_, work⟩
      rw [length, List.length_map, pieces_length, List.length_nil, Nat.zero_add]
  · intro s t n hw
    rw [exec_table_more]
    simp only [State.moreWork, hw]

/-- Settles O57: each directive's frame is the master's, so it is taken by the directive's own function. -/
theorem otherDirectives : Obligations.OtherDirectives := by
  intro s snd a3 a2 a1 a0 rest h hl arg f quiet
  have taken (c : Byte) : s.receive (directiveFrame s.node snd c arg) = s.heard.directiveTaken (f c) :=
    State.receive_directive h c a3 a2 a1 a0 hl
  have trim : exec (.trim snd arg) s = .next (State.answered (s.heard.trimTaken (word32 a3 a2 a1 a0).toInt) (f 2)) :=
    congrArg Host.Outcome.next (taken 2)
  have swap : exec (.swap snd arg) s = .next (s.heard.swapTaken.answer (f 3) [.done] []) := congrArg Host.Outcome.next (taken 3)
  have latch : exec (.clearLatch snd arg) s = .next (State.answered s.heard.latchCleared (f 4)) :=
    congrArg Host.Outcome.next (taken 4)
  have avail : exec (.trainAvail snd arg) s = .next (State.answered (s.heard.trainAvailTaken a3.toNat a2.toNat) (f 5)) :=
    congrArg Host.Outcome.next (taken 5)
  refine ⟨fun hc => ?_, fun hc => ?_, fun hm => ?_, fun hm => ?_, fun hd => ?_, fun hd => ?_, fun hr => ?_, ?_⟩
  · rw [trim, State.trimTaken, if_pos (show s.heard.clock.state = .invalid from hc)]
    rfl
  · rw [trim, State.trimTaken, if_neg (show s.heard.clock.state ≠ .invalid from hc), clampTo_eq (by decide)]
    rfl
  · rw [swap]
    exact congrArg (fun t => Host.Outcome.next (State.answer t (f 3) [.done] [])) (if_neg hm)
  · rw [swap]
    exact congrArg (fun t => Host.Outcome.next (State.answer t (f 3) [.done] [])) (if_pos hm)
  · rw [latch]
    exact congrArg (fun r => Host.Outcome.next (State.answered r (f 4))) (if_pos hd)
  · rw [latch]
    exact congrArg (fun r => Host.Outcome.next (State.answered r (f 4))) (if_neg (by rw [show s.heard.grid.dev = false from hd]; decide))
  · rw [avail, State.trainAvailTaken_range hr]
    rfl
  · intro i hi h2 new
    rw [avail, hi, State.trainAvailTaken_slot s.heard i h2, Byte.toNat_beq_zero]
    refine ⟨fun hp => ?_, fun hp ha => ?_, fun hp ha => ?_⟩
    · rw [if_pos (show (s.heard.train i).present = false from hp)]
      rfl
    · have here : (s.heard.train i).present ≠ false := hp ▸ nofun
      rw [if_neg here, if_pos (show (s.heard.train i).available = (a2 == 0) from ha)]
      rfl
    · have here : (s.heard.train i).present ≠ false := hp ▸ nofun
      have other : (s.heard.train i).available = !new := Bool.eq_not_of_ne ha
      rw [if_neg here, if_neg (show (s.heard.train i).available ≠ (a2 == 0) from ha), other, Bool.not_not, flagItem_not]
      rfl

/-- Settles O58: a query is answered with the items of its record; the trip capture is then taken off the stack. -/
theorem queries : Obligations.Queries := by
  intro s snd a b c d rest h hl index n f u
  have reads (k : RecordKind) (hk : k ≠ .tripCapture) {l : List Item} (hq : u.queryItems k n = some l) :
      exec (k.command snd index) s = .next (u.reply (f k) k l) := exec_query_reads h hk hl hq
  refine ⟨fun k size hk hn => exec_query_range h hl (u.queryItems_beyond hn hk),
    fun i hi => reads .channel nofun (hi ▸ dif_pos i.isLt), fun i hi => reads .cavern nofun (hi ▸ dif_pos i.isLt),
    fun i hi => reads .store nofun (hi ▸ dif_pos i.isLt), fun i hi => reads .train nofun (hi ▸ dif_pos i.isLt),
    reads .manifold nofun rfl, reads .converter nofun rfl, reads .schedule nofun rfl, reads .computation nofun rfl,
    reads .ring nofun rfl, reads .plant nofun rfl, reads .dispatchSet nofun rfl, ?_⟩
  intro i hi x w
  have items : u.queryItems .tripCapture n = some x.captureItems := hi ▸ dif_pos i.isLt
  have taken := exec_query_items (k := .tripCapture) h hl items
  refine ⟨fun room => ?_, fun full => ?_⟩
  · have full : (RecordKind.tripCapture = .tripCapture ∧ s.replyRoom = true) := ⟨rfl, decide_eq_true room⟩
    obtain ⟨r, p, replied, -⟩ := State.reply_own u (f .tripCapture) .tripCapture x.captureItems
    have same : (u.reply (f .tripCapture) .tripCapture x.captureItems).train i = x := by rw [replied]; rfl
    rw [if_pos full, show (word32 a b c d).toNat = i.val from hi, State.captureRead_slot, same] at taken
    exact taken
  · have none : ¬ (RecordKind.tripCapture = .tripCapture ∧ s.replyRoom = true) := fun h => by
      have := of_decide_eq_true h.2
      simp only [Config.reportCap] at this
      omega
    rw [if_neg none] at taken
    exact taken

end
section
/-!
PROOFS. The MODE directive (section 8.1).
-/

namespace Sys2Proof.Machine

/-! ## Own reports and other changes -/

/-- A change that neither reads nor writes ring and reports. -/
structure Silent (g : State → State) : Prop where
  commutes : ∀ s r p, g { s with ring := r, rep := p } = { g s with ring := r, rep := p }
  ring : ∀ s, (g s).ring = s.ring
  rep : ∀ s, (g s).rep = s.rep

theorem Silent.comp {g k : State → State} (hg : Silent g) (hk : Silent k) : Silent (fun s => g (k s)) where
  commutes s r p := by rw [hk.commutes, hg.commutes]
  ring s := (hg.ring _).trans (hk.ring s)
  rep s := (hg.rep _).trans (hk.rep s)

theorem ReportsOnly.map {g : State → State} (hg : Silent g) {s t : State} (h : ReportsOnly s t) : ReportsOnly (g s) (g t) := by
  obtain ⟨x, run, q, l, w, p, rfl⟩ := h
  refine ⟨x, run, q, l, w, p, ?_⟩
  rw [hg.commutes, hg.ring]

theorem Silent.portSound {g : State → State} (hg : Silent g) {s : State} (h : s.portSound) : (g s).portSound := by
  unfold State.portSound
  rw [hg.ring, hg.rep]
  exact h

/-! ## The change of mode -/

/-- The pending set adopted, without its notice. -/
def State.setAdopted (s : State) : State :=
  { s with disp := { s.disp with active := s.disp.next, swap := false }, mgr := { s.mgr with quiet := some (s.now + 10000) } }

/-- A change to OFF adopts a marked set. -/
def State.offAdopts (new : Mode) (s : State) : State := if new = .off ∧ s.disp.swap then s.setAdopted else s

theorem State.setAdopted_silent : Silent State.setAdopted := ⟨fun _ _ _ => rfl, fun _ => rfl, fun _ => rfl⟩

theorem State.offAdopts_silent (new : Mode) : Silent (State.offAdopts new) where
  commutes s r p := by unfold State.offAdopts; split <;> rfl
  ring s := by unfold State.offAdopts; split <;> rfl
  rep s := by unfold State.offAdopts; split <;> rfl

theorem State.modeTracks_silent (old new : Mode) : Silent (fun s => s.modeTracks old new) where
  commutes s r p := by unfold State.modeTracks; split <;> rfl
  ring s := by unfold State.modeTracks; split <;> rfl
  rep s := by unfold State.modeTracks; split <;> rfl

theorem State.modeStops_silent (old : Mode) : Silent (fun s => s.modeStops old) where
  commutes s r p := by unfold State.modeStops; split <;> rfl
  ring s := by unfold State.modeStops; split <;> rfl
  rep s := by unfold State.modeStops; split <;> rfl

theorem State.modeAdopts_told {s : State} (h : s.portSound) (new : Mode) :
    ReportsOnly (s.offAdopts new) (s.modeAdopts new) ∧ (s.modeAdopts new).portSound := by
  unfold State.modeAdopts State.offAdopts
  split
  case isTrue => exact State.notify_reportsOnly (s := s.setAdopted) (State.setAdopted_silent.portSound h) _ _ _
  case isFalse => exact ⟨.refl s, h⟩

/-- What a change of mode leaves, its notices and reopenings apart. -/
def State.modeSet (s : State) (new : Mode) : State :=
  ((State.offAdopts new { s with mode := { s.mode with mode := new } }).modeTracks s.mode.mode new).modeStops s.mode.mode

theorem State.setMode_told {s : State} (sound : s.portSound) {new : Mode} (h : s.mode.mode ≠ new) (n : Nat) :
    ∃ t, ReportsOnly (s.modeSet new) t ∧ t.portSound ∧ s.setMode new n = t.modeReopens new := by
  obtain ⟨noticed, sound1⟩ : ReportsOnly { s with mode := { s.mode with mode := new } } (s.modeNoticed new n) ∧ _ :=
    State.notify_reportsOnly (s := { s with mode := { s.mode with mode := new } }) sound _ _ _
  obtain ⟨adopted, sound2⟩ := State.modeAdopts_told sound1 new
  have tracks := State.modeTracks_silent s.mode.mode new
  have stops := State.modeStops_silent s.mode.mode
  exact ⟨_, (((noticed.map (State.offAdopts_silent new)).trans adopted).map tracks).map stops,
    stops.portSound (tracks.portSound sound2), State.setMode_eq h n⟩

theorem State.setMode_told_other {s : State} (sound : s.portSound) {new : Mode} (h : s.mode.mode ≠ new) (ha : new ≠ .auto) (n : Nat) :
    ReportsOnly (s.modeSet new) (s.setMode new n) := by
  obtain ⟨t, told, -, set⟩ := State.setMode_told sound h n
  rwa [set, State.modeReopens, if_neg ha]

theorem ReportsOnly.mode {s t : State} (h : ReportsOnly s t) : t.mode = s.mode := by
  obtain ⟨_, _, _, _, _, _, rfl⟩ := h
  rfl

theorem State.modeSet_mode (s : State) (new : Mode) : (s.modeSet new).mode = { s.mode with mode := new } := by
  unfold State.modeSet State.modeStops State.modeTracks State.offAdopts
  split <;> split <;> split <;> rfl

/-- The stop candidate after a change out of a mode. -/
def Commitment.after (x : Commitment) (old : Mode) : Commitment := if old = .auto then { x with stop := none } else x

/-- The dispatch engine's record after a change from a mode to AUTO or HOLD. -/
def State.dispAfresh (s : State) : Dispatch :=
  if s.mode.mode.dispatches then s.disp
  else { s.disp with tracks := s.trains.map (fun t => if t.present then t.setpoint else 0), fresh := true }

theorem State.modeStops_eq (s : State) (old : Mode) : s.modeStops old = { s with commit := s.commit.after old } := by
  unfold State.modeStops Commitment.after
  split <;> rfl

theorem State.modeSet_manual (s : State) : s.modeSet .manual =
    { s with mode := { s.mode with mode := .manual }, commit := s.commit.after s.mode.mode } := by
  have idle : ¬ (s.mode.mode.dispatches = false ∧ Mode.manual.dispatches = true) := fun h => nomatch h.2
  rw [State.modeSet, State.offAdopts, if_neg (fun h => nomatch h.1), State.modeTracks, if_neg idle, State.modeStops_eq]

theorem State.modeSet_off (s : State) : s.modeSet .off = { s with
    mode := { s.mode with mode := .off }
    commit := s.commit.after s.mode.mode
    disp := if s.disp.swap then { s.disp with active := s.disp.next, swap := false } else s.disp
    mgr := if s.disp.swap then { s.mgr with quiet := some (s.now + 10000) } else s.mgr } := by
  have idle : ¬ (s.mode.mode.dispatches = false ∧ Mode.off.dispatches = true) := fun h => nomatch h.2
  rw [State.modeSet, State.modeTracks, if_neg idle, State.modeStops_eq, State.offAdopts]
  cases h : s.disp.swap <;> rfl

theorem State.modeSet_dispatching (s : State) {new : Mode} (h : new.dispatches = true) : s.modeSet new =
    { s with mode := { s.mode with mode := new }, commit := s.commit.after s.mode.mode, disp := s.dispAfresh } := by
  have on : new ≠ .off := by rintro rfl; exact nomatch h
  rw [State.modeSet, State.offAdopts, if_neg fun x => on x.1, State.modeStops_eq, State.modeTracks, State.dispAfresh, h]
  cases s.mode.mode.dispatches <;> rfl

/-- What the reopenings after a change to AUTO leave. -/
theorem State.setMode_auto {s : State} (sound : s.portSound) (h : s.mode.mode ≠ .auto) (n : Nat) :
    Agree [.caverns, .balance] (s.modeSet .auto) (s.setMode .auto n) := by
  obtain ⟨t, told, -, set⟩ := State.setMode_told sound h n
  have reports : Agree [.caverns, .balance] (s.modeSet .auto) t := by
    obtain ⟨_, _, _, _, _, _, rfl⟩ := told
    intro a _
    cases a <;> rfl
  rw [set]
  exact reports.trans ((t.modeReopens_keeps .auto).agree.mono (by decide))

/-- A MODE directive the part accepts. -/
theorem exec_mode {s : State} {snd : Sender} (h : s.mayCommand snd.src) (a b d e : Byte) {rest : List Byte} (hl : rest.length ≤ 239) :
    exec (.mode snd (a :: b :: d :: e :: rest)) s = .next ((s.heard.requestMode (word32 a b d e).toNat).2.answer
      (directiveFrame s.node snd 1 (a :: b :: d :: e :: rest)) [(s.heard.requestMode (word32 a b d e).toNat).1]
      (s.heard.requestMode (word32 a b d e).toNat).2.mode.items) :=
  congrArg Host.Outcome.next (State.receive_directive h 1 a b d e hl)

theorem State.requestMode_other (s : State) {n : Nat} (h : 2 < n) : s.requestMode n = (.range, s) := by
  unfold State.requestMode
  split <;> first | omega | rfl

theorem State.requestMode_auto {s : State} (h : s.clock.state ≠ .invalid) :
    s.requestMode 2 = (.done, s.setMode (if s.mode.clear then .auto else .hold) 0) := if_neg h

end Sys2Proof.Machine

open Sys2Proof Sys2Proof.Machine

/-- Settles O56: a change of mode is its notice, the adoption, the tracks and the stop candidate, one after the other
(`setMode_told`); the caverns are then reopened in AUTO. -/
theorem modeDirective : Obligations.ModeDirective := by
  intro s snd a3 a2 a1 a0 rest h hl sound arg f v same becomes goes stopped afresh
  have run := exec_mode h a3 a2 a1 a0 hl
  have hears : s.heard.portSound := sound
  have sames {c : Code} (hr : s.heard.requestMode v = (c, s.heard)) : same c := by
    rw [show (word32 a3 a2 a1 a0).toNat = v from rfl, hr] at run
    exact run
  have moves {m : Mode} (hr : s.heard.requestMode v = (.done, s.heard.setMode m 0)) (hm : s.mode.mode ≠ m) (ha : m ≠ .auto) :
      becomes (s.heard.modeSet m) := by
    have told := State.setMode_told_other hears hm ha 0
    rw [show (word32 a3 a2 a1 a0).toNat = v from rfl, hr] at run
    exact ⟨_, told, run.trans (by rw [told.mode])⟩
  refine ⟨fun hv => sames (State.requestMode_other _ hv), fun hv hc => sames ?_, fun hv hm => sames ?_, fun hv hm => sames ?_,
    fun hv hc hm => sames ?_, fun hv hm => ?_, fun hv hm => ?_, fun hv hc hx hm => ?_, fun hv hc hx hm => ?_⟩
  · rw [hv]
    exact if_pos hc
  · rw [hv]
    exact congrArg (Prod.mk Code.done) (State.setMode_same (s := s.heard) hm 0)
  · rw [hv]
    exact congrArg (Prod.mk Code.done) (State.setMode_same (s := s.heard) hm 0)
  · rw [hv, State.requestMode_auto (s := s.heard) hc]
    exact congrArg (Prod.mk Code.done) (State.setMode_same (s := s.heard) hm 0)
  · have done := moves (m := .manual) (by rw [hv]; rfl) hm nofun
    rw [State.modeSet_manual] at done
    exact done
  · have done := moves (m := .off) (by rw [hv]; rfl) hm nofun
    rw [State.modeSet_off] at done
    exact done
  · have taken : s.heard.requestMode v = (.done, s.heard.setMode .hold 0) := by
      rw [hv, State.requestMode_auto (s := s.heard) hc, show s.heard.mode.clear = false from hx]
      rfl
    have done := moves (m := .hold) taken hm nofun
    rw [State.modeSet_dispatching _ rfl] at done
    exact done
  · have taken : s.heard.requestMode v = (.done, s.heard.setMode .auto 0) := by
      rw [hv, State.requestMode_auto (s := s.heard) hc, show s.heard.mode.clear = true from hx]
      rfl
    have agree := State.setMode_auto hears (show s.heard.mode.mode ≠ .auto from hm) 0
    rw [State.modeSet_dispatching _ rfl] at agree
    rw [show (word32 a3 a2 a1 a0).toNat = v from rfl, taken] at run
    have mode : (s.heard.setMode .auto 0).mode = (goes .auto).mode := agree .mode (by decide)
    have commit : (s.heard.setMode .auto 0).commit = s.commit := (agree .commit (by decide)).trans (if_neg hm)
    exact ⟨s.heard.setMode .auto 0, run.trans (by rw [mode]), mode, agree .disp (by decide), commit, agree .trains (by decide),
      agree .manifold (by decide), agree .sched (by decide), agree .clock (by decide)⟩

end
section
/-!
PROOFS. The reserve response and the ramp (sections 7.4 and 7.9).
-/

namespace Sys2Proof.Machine

/-- The reserve called upon at a deviation beyond the deadband. -/
def DispatchSet.response (p : DispatchSet) (reserve fDev : Int) : Int :=
  reserve * min (magnitude fDev - p.deadband) (p.fFull - p.deadband) / (p.fFull - p.deadband)

theorem DispatchSet.response_nonneg {p : DispatchSet} {reserve fDev : Int} (hf : p.deadband < p.fFull) (hr : 0 ≤ reserve)
    (h : p.deadband < magnitude fDev) : 0 ≤ p.response reserve fDev :=
  Int.ediv_nonneg (mul_nonneg hr (by omega)) (by omega)

/-- Beyond the deadband the response is against the sign of the deviation. -/
theorem reserveResponse_beyond {p : DispatchSet} {reserve fDev : Int} (hf : p.deadband < p.fFull) (hr : 0 ≤ reserve)
    (h : p.deadband < magnitude fDev) :
    reserveResponse p reserve fDev = if fDev < 0 then p.response reserve fDev else -(p.response reserve fDev) := by
  have same : (reserve * min (magnitude fDev - p.deadband) (p.fFull - p.deadband)).tdiv (p.fFull - p.deadband) =
      p.response reserve fDev := Int.tdiv_eq_ediv_of_nonneg (mul_nonneg hr (by omega))
  rw [reserveResponse, if_neg (by omega)]
  simp only [same]

theorem magnitude_reserveResponse {p : DispatchSet} {reserve fDev : Int} (hf : p.deadband < p.fFull) (hr : 0 ≤ reserve)
    (h : p.deadband < magnitude fDev) : magnitude (reserveResponse p reserve fDev) = p.response reserve fDev := by
  rw [reserveResponse_beyond hf hr h]
  split
  · exact magnitude_of_nonneg (DispatchSet.response_nonneg hf hr h)
  · rw [magnitude_neg, magnitude_of_nonneg (DispatchSet.response_nonneg hf hr h)]

theorem reserveResponse_inside {p : DispatchSet} {reserve fDev : Int} (h : magnitude fDev ≤ p.deadband) :
    reserveResponse p reserve fDev = 0 := if_pos h

theorem rampStep_eq {ramp : Int} {dt : Nat} (h : 1000 ≤ ramp * dt) : rampStep ramp dt = ramp * dt / 1000 := by
  rw [rampStep, Int.tdiv_eq_ediv_of_nonneg (by omega)]
  omega

/-- A ramped value lies between the track and the share, no further than a step from the track. -/
theorem ramped_step {track share step : Int} (h : 1 ≤ step) :
    (magnitude (share - track) ≤ step → ramped track share step = share) ∧
    (track < share → track < ramped track share step ∧ ramped track share step ≤ share) ∧
    (share < track → share ≤ ramped track share step ∧ ramped track share step < track) ∧
    magnitude (ramped track share step - track) ≤ step := by
  unfold ramped magnitude
  refine ⟨fun h => if_pos h, fun h => ?_, fun h => ?_, ?_⟩ <;> split_ifs <;> omega

end Sys2Proof.Machine

open Sys2Proof Sys2Proof.Machine

/-- Settles O21: the response beyond the deadband is its figure with the sign against the deviation; the ramped value by
cases on the step. -/
theorem responseAndRampBounded : Obligations.ResponseAndRampBounded := by
  refine ⟨fun p reserve fDev hd hf hr => ?_, fun track share ramp dt _ => ?_⟩
  · refine ⟨reserveResponse_inside, fun h hu => ?_, fun h => ?_, fun h => ?_, fun h => ?_⟩
    · rw [magnitude_reserveResponse hf hr h, DispatchSet.response, min_eq_left (by omega)]
    · rw [magnitude_reserveResponse hf hr (by omega), DispatchSet.response, min_eq_right (by omega)]
      exact Int.mul_ediv_cancel _ (by omega)
    · rcases le_or_gt (magnitude fDev) p.deadband with hin | hout
      · exact (reserveResponse_inside hin).ge
      · rw [reserveResponse_beyond hf hr hout, if_pos h]
        exact DispatchSet.response_nonneg hf hr hout
    · rcases le_or_gt (magnitude fDev) p.deadband with hin | hout
      · exact (reserveResponse_inside hin).le
      · rw [reserveResponse_beyond hf hr hout, if_neg (by omega)]
        have := DispatchSet.response_nonneg hf hr hout
        omega
  · obtain ⟨reaches, up, down, bounded⟩ := ramped_step (track := track) (share := share) (rampStep_pos ramp dt)
    exact ⟨rampStep_pos ramp dt, rampStep_eq, reaches, up, down, bounded⟩

end
section
/-!
PROOFS. Orders at the guard: who they concern, which are refused, which are let through (section 8.3).
-/

namespace Sys2Proof.Machine

/-! ## The frame of an order -/

theorem Order.num_toNat (o : Order) : (BitVec.ofNat 8 o.num : Byte).toNat = o.num := by cases o <;> rfl

theorem orderOf_num (o : Order) : orderOf (BitVec.ofNat 8 o.num) = some o := by cases o <;> rfl

theorem Order.num_eq_setpoint {o : Order} : (BitVec.ofNat 8 o.num : Byte) = BitVec.ofNat 8 Order.setpoint.num ↔ o = .setpoint := by
  cases o <;> decide

theorem four_bytes {l : List Byte} (h : 4 ≤ l.length) : ∃ v3 v2 v1 v0 rest, l = v3 :: v2 :: v1 :: v0 :: rest :=
  match l, h with
  | v3 :: v2 :: v1 :: v0 :: rest, _ => ⟨v3, v2, v1, v0, rest, rfl⟩

/-- An order frame with its code and its value. -/
def carriesOrder (f : Frame) (o : Order) (v : Int) : Prop := orderBody f.body = some (BitVec.ofNat 8 o.num, v)

theorem orderItem_of {f : Frame} {o : Order} {v : Int} (h : carriesOrder f o v) : orderItem f = .code o.num := by
  unfold orderItem
  rw [show orderBody f.body = _ from h]
  exact congrArg Item.code (Order.num_toNat o)

theorem valueItems_of {f : Frame} {o : Order} {v : Int} (h : carriesOrder f o v) (w : Option Int) :
    valueItems f w = if o = .setpoint then [.fig v, figItem w] else [] := by
  unfold valueItems
  rw [show orderBody f.body = _ from h]
  simp only [Order.num_eq_setpoint]

theorem orderFrame_carries (h : Passing) (o : Order) (v3 v2 v1 v0 : Byte) (rest : List Byte) :
    carriesOrder (orderFrame h o (v3 :: v2 :: v1 :: v0 :: rest)) o (word32 v3 v2 v1 v0).toInt := rfl

theorem exec_order (o : Order) (h : Passing) (tail : List Byte) (s : State) :
    exec (o.command h tail) s = .next (s.receive (orderFrame h o tail)) := by cases o <;> rfl

/-- The guard's disposition of an order frame of a known code. -/
theorem State.guard_known {s : State} {f : Frame} {o : Order} {v : Int} (h : carriesOrder f o v) : s.guard f = s.guardKnown f o v := by
  unfold State.guard
  rw [show orderBody f.body = _ from h]
  simp only [orderOf_num]

/-- The guard's disposition of an order frame without a code, or of an unknown one. -/
theorem State.guard_unread {s : State} {f : Frame} (h : ∀ x, orderBody f.body = some x → orderOf x.1 = none) :
    s.guard f = s.guardUnread f := by
  unfold State.guard
  split
  · rfl
  case h_2 x hx => rw [h x hx]

theorem State.passes.foreign_frame {s : State} {h : Passing} (p : s.passes h) {body : List Byte} (hb : body.length ≤ 244) :
    s.receive (passingFrame h kOrder body) = s.countReceived.guard (passingFrame h kOrder body) :=
  State.receive_guard p.1 p.2.1 p.2.2 rfl hb

/-- An order to one node comes to the guard. -/
theorem exec_ordered {s : State} {h : Passing} {tail : List Byte} (hs : s.ordered h tail) {o : Order} {v : Int}
    (ho : carriesOrder (orderFrame h o tail) o v) :
    exec (o.command h tail) s = .next (s.countReceived.guardKnown (orderFrame h o tail) o v) := by
  obtain ⟨passes, -, -, short⟩ := hs
  have fits : (BitVec.ofNat 8 o.num :: tail).length ≤ 244 := by rw [List.length_cons]; omega
  rw [exec_order, orderFrame, passes.foreign_frame fits]
  exact congrArg Host.Outcome.next (State.guard_known ho)

theorem State.guardKnown_train {s : State} {f : Frame} {i : Fin 8} (hd : f.dest ≠ 255) (hn : s.trainNode f.dest.toNat i) {o : Order}
    (ho : o.isValve = false) (v : Int) : s.guardKnown f o v = s.guardTrain f i o v := by
  obtain ⟨train, cavern⟩ := hn
  simp only [State.guardKnown, if_neg hd, train, cavern, ho, Bool.false_eq_true, if_false]

theorem State.guardKnown_valve {s : State} {f : Frame} {c : Fin 4} (hd : f.dest ≠ 255) (hn : s.valveNode f.dest.toNat c) {o : Order}
    (ho : o.isValve = true) (v : Int) : s.guardKnown f o v = s.guardValve f c o := by
  obtain ⟨train, cavern⟩ := hn
  simp only [State.guardKnown, if_neg hd, train, cavern, ho, if_true]

theorem State.guardKnown_other {s : State} {f : Frame} (hd : f.dest ≠ 255) (hn : s.unknownNode f.dest.toNat) (o : Order) (v : Int) :
    s.guardKnown f o v = s.forwardOrDrop f := by
  obtain ⟨train, cavern⟩ := hn
  simp only [State.guardKnown, if_neg hd, train, cavern]

/-- An order of the other class than its node. -/
theorem State.guardKnown_mismatched {s : State} {f : Frame} (hd : f.dest ≠ 255) {o : Order}
    (h : (∃ i, o.isValve = true ∧ s.trainNode f.dest.toNat i) ∨ (∃ c, o.isValve = false ∧ s.valveNode f.dest.toNat c)) (v : Int) :
    s.guardKnown f o v = s.refuse f .none .none .state := by
  obtain ⟨i, ho, train, cavern⟩ | ⟨c, ho, train, cavern⟩ := h
  · simp only [State.guardKnown, if_neg hd, train, cavern, ho, if_true]
  · simp only [State.guardKnown, if_neg hd, train, cavern, ho, Bool.false_eq_true, if_false]

theorem State.guardKnown_broadcast {s : State} {f : Frame} (hd : f.dest = 255) (o : Order) (v : Int) :
    s.guardKnown f o v = s.refuse f .none .none .range := if_pos hd

theorem State.recordAt_train {s : State} {n : Nat} {i : Fin 8} (h : s.trainNode n i) : s.recordAt n = some (.train i, s.trainItem i) := by
  simp only [State.recordAt, h.1]

theorem State.recordAt_valve {s : State} {n : Nat} {c : Fin 4} (h : s.valveNode n c) :
    s.recordAt n = some (.cavern c, .code (s.cavern c).valve.num) := by
  simp only [State.recordAt, h.1, h.2]

theorem State.guardUnread_record {s : State} {f : Frame} {x : SourceRecord × Item} (h : s.recordAt f.dest.toNat = some x) :
    s.guardUnread f = s.refuse f x.1 x.2 .range := by
  simp only [State.guardUnread, h]

theorem State.passes.node_ne {s : State} {h : Passing} (p : s.passes h) : (255 : Byte) ≠ s.node := by
  have active : s.passive = false := p.1.2
  rintro e
  rw [State.passive, ← e] at active
  exact absurd active (by decide)

/-! ## Withheld and forwarded frames -/

/-- The value items of a frame that carries no known order, and the code it carries. -/
theorem unread_items {f : Frame} (h : ∀ x, orderBody f.body = some x → orderOf x.1 = none) : valueItems f none = [] ∧
    orderItem f = (match orderBody f.body with | none => Item.none | some x => .code x.1.toNat) := by
  refine ⟨?_, rfl⟩
  unfold valueItems
  split
  · rfl
  case h_2 x hx =>
    refine if_neg fun e => ?_
    have known := h x hx
    rw [e, orderOf_num] at known
    exact nomatch known

/-- The notice of a withheld order, its frame counted as received. -/
theorem State.refuse_blocked {s : State} {f : Frame} {o : Order} {v : Int} (h : carriesOrder f o v) (x : SourceRecord) (st : Item) (c : Code) :
    s.countReceived.refuse f x st c = s.blocked.notify .guardRefused x
      ([.fig f.src.toNat, .fig f.dest.toNat, .fig f.seq.toNat, .code o.num, st]
        ++ (if o = .setpoint then [.fig v, .none] else []) ++ [.code c.num]) := by
  rw [State.refuse, orderItem_of h, valueItems_of h]
  rfl

theorem State.letThrough_room {s : State} (h : s.ring.forward.length < 24) (f : Frame) (w : Option Int) (move : State → State) :
    s.countReceived.letThrough f w move = move (s.passedOn (guarded f w)) :=
  if_pos ((State.forwardRoom_iff _).mpr h)

theorem State.letThrough_full {s : State} (h : 24 ≤ s.ring.forward.length) (f : Frame) (w : Option Int) (move : State → State) :
    s.countReceived.letThrough f w move = s.countReceived.countDropped :=
  if_neg fun room => Nat.not_lt.mpr h ((State.forwardRoom_iff _).mp room)

/-! ## What a train's state admits -/

/-- The orders a state admits. -/
theorem admission_none_iff (st : TrainState) {o : Order} (ho : o.isValve = false) :
    admission st o = none ↔ (st, o) ∈ [(TrainState.unknown, Order.trip), (.offline, .enable), (.standby, .start), (.standby, .disable),
      (.standby, .trip), (.startWait, .abort), (.startWait, .trip), (.starting, .abort), (.starting, .trip), (.idleRun, .load),
      (.idleRun, .stop), (.idleRun, .trip), (.loading, .trip), (.loaded, .setpoint), (.loaded, .unload), (.loaded, .trip),
      (.unloading, .trip), (.stopping, .trip), (.tripped, .trip), (.tripped, .tripReset)] := by
  revert o
  cases st <;> intro o <;> cases o <;> decide

/-- The code a state refuses with. -/
def TrainState.refusal (st : TrainState) (o : Order) : Code :=
  if st = .unknown then .unsettled
  else if st = .loading ∨ (o ≠ .setpoint ∧ (st = .starting ∨ st = .unloading ∨ st = .stopping)) then .busy else .state

theorem admission_eq_refusal {st : TrainState} {o : Order} (ho : o.isValve = false) {c : Code} (h : admission st o = some c) :
    c = st.refusal o := by
  revert h ho
  cases st <;> cases o <;> intro _ h <;> cases h <;> rfl

/-- Why a train refuses an order. -/
def State.trainRefuses (s : State) (i : Fin 8) (o : Order) (c : Code) : Prop :=
  admission (s.train i).state o = some c ∨
  (o = .start ∧ (s.train i).state = .standby ∧ s.heatLow i = true ∧ c = .heatLow) ∨
  (o = .load ∧ (s.train i).state = .idleRun ∧
    ((s.someUnknown = true ∧ c = .unsettled) ∨ (s.someUnknown = false ∧ s.manifold.loadCheck (s.train i).p.kind = some c))) ∨
  (o = .tripReset ∧ (s.train i).state = .tripped ∧ (s.train i).tripClear = false ∧ c = .active)

/-- The mode takes a SETPOINT. -/
def ModeRecord.manual (m : ModeRecord) : Prop := m.mode = .off ∨ m.mode = .manual

theorem ModeRecord.manual.dispatches {m : ModeRecord} (h : m.manual) : m.mode.dispatches = false := by
  rcases h with h | h <;> rw [h] <;> rfl

theorem State.guardTrain_other {s : State} {i : Fin 8} {o : Order} (h : o ≠ .start ∧ o ≠ .setpoint) (f : Frame) (v : Int) :
    s.guardTrain f i o v = s.guardOther f i o := by
  obtain ⟨h1, h2⟩ := h
  cases o <;> first | contradiction | rfl

theorem State.guardOther_refused {s : State} {i : Fin 8} {o : Order} {c : Code} (h : s.orderRefusal i o = some c) (f : Frame) :
    s.guardOther f i o = s.refuseTrain f i c := by
  simp only [State.guardOther, h]

theorem State.guardOther_admitted {s : State} {i : Fin 8} {o : Order} (h : s.orderRefusal i o = none) (f : Frame) :
    s.guardOther f i o = s.letThrough f none fun s => s.takeOrder i o := by
  simp only [State.guardOther, h]

/-- A train order the state's table refuses. -/
theorem State.guardTrain_inadmissible {s : State} {i : Fin 8} {o : Order} {c : Code} (h : admission (s.train i).state o = some c)
    (hm : o = .setpoint → s.mode.manual) (f : Frame) (v : Int) : s.guardTrain f i o v = s.refuseTrain f i c := by
  by_cases h1 : o = .start
  · subst h1
    simp only [State.guardTrain, State.guardStart, h]
  by_cases h2 : o = .setpoint
  · subst h2
    simp only [State.guardTrain, State.guardSetpoint, h, (hm rfl).dispatches, Bool.false_eq_true, if_false]
  · rw [State.guardTrain_other ⟨h1, h2⟩]
    exact State.guardOther_refused (by simp only [State.orderRefusal, h]) f

theorem State.guardTrain_refused {s : State} {i : Fin 8} {o : Order} {c : Code} (h : s.trainRefuses i o c)
    (hm : o = .setpoint → s.mode.manual) (f : Frame) (v : Int) : s.guardTrain f i o v = s.refuseTrain f i c := by
  rcases h with h | ⟨rfl, st, heat, rfl⟩ | ⟨rfl, st, load⟩ | ⟨rfl, st, clear, rfl⟩
  · exact State.guardTrain_inadmissible h hm f v
  · simp only [State.guardTrain, State.guardStart, st, admission, heat, if_true]
  · refine State.guardOther_refused ?_ f
    rcases load with ⟨unknown, rfl⟩ | ⟨known, check⟩
    · simp only [State.orderRefusal, st, admission, State.furtherRefusal, unknown, if_true]
    · simp only [State.orderRefusal, st, admission, State.furtherRefusal, known, check, Bool.false_eq_true, if_false]
  · refine State.guardOther_refused ?_ f
    simp only [State.orderRefusal, st, admission, State.furtherRefusal, clear, Bool.false_eq_true, if_false]

/-- What an admitted order still needs. -/
structure State.trainTakes (s : State) (i : Fin 8) (o : Order) : Prop where
  admitted : admission (s.train i).state o = none
  start : o = .start → s.heatLow i = false ∧ s.conv.state = .free ∧ s.conv.queue = []
  load : o = .load → s.someUnknown = false ∧ s.manifold.loadCheck (s.train i).p.kind = none
  reset : o = .tripReset → (s.train i).tripClear = true
  setpoint : o = .setpoint → s.mode.manual

theorem State.trainTakes.refusal {s : State} {i : Fin 8} {o : Order} (h : s.trainTakes i o) : s.orderRefusal i o = none := by
  simp only [State.orderRefusal, h.admitted, State.furtherRefusal]
  split
  · obtain ⟨known, check⟩ := h.load rfl
    rw [known, check]
    rfl
  · rw [h.reset rfl]
    rfl
  · rfl

/-- An admitted order is let through. -/
theorem State.guardTrain_admitted {s : State} {i : Fin 8} {o : Order} (h : s.trainTakes i o) (f : Frame) (v : Int) :
    ∃ w move, s.guardTrain f i o v = s.letThrough f w move := by
  by_cases h1 : o = .start
  · subst h1
    obtain ⟨heat, free, queue⟩ := h.start rfl
    have ready : s.converterReady = true := s.converterReady_iff.mpr ⟨free, queue⟩
    exact ⟨none, fun t => t.startNow i, by
      simp only [State.guardTrain, State.guardStart, h.admitted, heat, ready, Bool.false_eq_true, if_false, if_true]⟩
  by_cases h2 : o = .setpoint
  · subst h2
    exact ⟨some (s.clampedValue i v), fun t => t.setpointTaken f i v (s.clampedValue i v), by
      simp only [State.guardTrain, State.guardSetpoint, h.admitted, (h.setpoint rfl).dispatches,
      Bool.false_eq_true, if_false]⟩
  · rw [State.guardTrain_other ⟨h1, h2⟩]
    exact ⟨none, _, State.guardOther_admitted h.refusal f⟩

/-! ## Valve orders -/

/-- The mark of a cavern belongs to the present direction (R35). -/
def State.atLimit (s : State) (c : Fin 4) : Prop := (s.cavern c).mark ≠ .none ∧ (s.cavern c).mark.dir = s.manifold.present

theorem State.valveOrderRefusal_limit {s : State} {c : Fin 4} (h : s.atLimit c) : s.valveOrderRefusal c .valveOpen = some .limit :=
  if_pos ⟨rfl, h⟩

theorem State.valveOrderRefusal_open {s : State} {c : Fin 4} (h : ¬ s.atLimit c) :
    s.valveOrderRefusal c .valveOpen = valveRefusal (s.cavern c).valve .valveOpen := if_neg fun x => h x.2

theorem State.valveOrderRefusal_close (s : State) (c : Fin 4) : s.valveOrderRefusal c .valveClose = none := by
  rw [State.valveOrderRefusal, if_neg fun x => nomatch x.1]
  cases (s.cavern c).valve <;> rfl

theorem valveRefusal_open {v : ValveState} (h : v ≠ .closing ∧ v ≠ .fault) : valveRefusal v .valveOpen = none := by
  obtain ⟨h1, h2⟩ := h
  cases v <;> first | contradiction | rfl

theorem State.guardValve_refused {s : State} {c : Fin 4} {o : Order} {code : Code} (h : s.valveOrderRefusal c o = some code) (f : Frame) :
    s.guardValve f c o = s.refuse f (.cavern c) (.code (s.cavern c).valve.num) code := by
  simp only [State.guardValve, h]

theorem State.guardValve_admitted {s : State} {c : Fin 4} {o : Order} (h : s.valveOrderRefusal c o = none) (f : Frame) :
    s.guardValve f c o = s.letThrough f none fun s => s.moveValve c o := by
  simp only [State.guardValve, h]

/-! ## What the forwarded frame leaves -/

theorem State.passedOn_ringOnly (s : State) (f : Frame) : RingOnly s (s.passedOn f) := by
  obtain ⟨r, p, joined, open_⟩ := s.countReceived.enqueue_ringOnly f
  exact ⟨r, p, joined, open_⟩

@[simp] theorem State.passedOn_cavern (s : State) (f : Frame) (c : Fin 4) : (s.passedOn f).cavern c = s.cavern c := by
  obtain ⟨r, p, joined, -⟩ := s.passedOn_ringOnly f
  rw [joined]
  rfl

@[simp] theorem State.passedOn_now (s : State) (f : Frame) : (s.passedOn f).now = s.now := by
  obtain ⟨r, p, joined, -⟩ := s.passedOn_ringOnly f
  rw [joined]

@[simp] theorem State.passedOn_manifold (s : State) (f : Frame) : (s.passedOn f).manifold = s.manifold := by
  obtain ⟨r, p, joined, -⟩ := s.passedOn_ringOnly f
  rw [joined]

@[simp] theorem State.passedOn_train (s : State) (f : Frame) (i : Fin 8) : (s.passedOn f).train i = s.train i := by
  obtain ⟨r, p, joined, -⟩ := s.passedOn_ringOnly f
  rw [joined]
  rfl

@[simp] theorem State.passedOn_trains (s : State) (f : Frame) : (s.passedOn f).trains = s.trains := by
  obtain ⟨r, p, joined, -⟩ := s.passedOn_ringOnly f
  rw [joined]

@[simp] theorem State.passedOn_conv (s : State) (f : Frame) : (s.passedOn f).conv = s.conv := by
  obtain ⟨r, p, joined, -⟩ := s.passedOn_ringOnly f
  rw [joined]

@[simp] theorem State.passedOn_plant (s : State) (f : Frame) : (s.passedOn f).plant = s.plant := by
  obtain ⟨r, p, joined, -⟩ := s.passedOn_ringOnly f
  rw [joined]

/-! ## The move of a valve -/

theorem State.moveValve_opening {s : State} {c : Fin 4} (h : (s.cavern c).valve = .unknown ∨ (s.cavern c).valve = .closed) :
    s.moveValve c .valveOpen = (s.setCavern c { s.cavern c with
      valve := .opening, timer := some (s.now + (s.cavern c).p.travel * 1000), mark := .none }).isolate c := by
  have next : valveNext (s.cavern c).valve .valveOpen = some .opening := by rcases h with h | h <;> rw [h] <;> rfl
  rw [State.moveValve, next]
  dsimp only
  rw [if_pos rfl, State.setValve_setMark, if_pos (.inl rfl)]
  rfl

theorem State.moveValve_none {s : State} {c : Fin 4} {o : Order} (h : valveNext (s.cavern c).valve o = none) : s.moveValve c o = s := by
  rw [State.moveValve, h]

theorem State.moveValve_closing {s : State} {c : Fin 4} {o : Order} (h : valveNext (s.cavern c).valve o = some .closing) :
    s.moveValve c o = s.setCavern c { s.cavern c with valve := .closing, timer := some (s.now + (s.cavern c).p.travel * 1000) } := by
  rw [State.moveValve, h]
  dsimp only
  rw [if_neg nofun, State.setValve, if_pos (.inr rfl)]
  rfl

theorem State.isolate_unmet {s : State} {c : Fin 4} (h : (s.cavern c).meetsIsolation (s.pressure c).quality s.manifold.state = false) :
    s.isolate c = s := by
  rw [State.isolate, h]
  rfl

theorem Cavern.meetsIsolation_usable {x : Cavern} {m : ManifoldState} (h : m.flow = none ∨ (∀ d, m.flow = some d → x.factor d ≠ 0))
    (q : Quality) : x.meetsIsolation q m = false := by
  unfold Cavern.meetsIsolation
  split
  · rfl
  case h_2 d hd =>
    have factor : (x.factor d == 0) = false := beq_eq_false_iff_ne.mpr ((h.resolve_left (by rw [hd]; nofun)) d hd)
    rw [factor, Bool.and_false, Bool.false_and, Bool.false_and, Bool.false_and]

end Sys2Proof.Machine

open Sys2Proof Sys2Proof.Machine

/-- Settles O44: `guardTrain_refused` and `guardTrain_admitted` say what the guard does of a train's order. -/
theorem ordersRefused : Obligations.OrdersRefused := by
  refine ⟨fun st o ho => ⟨admission_none_iff st ho, fun c h => admission_eq_refusal ho h⟩, ?_, ?_⟩
  · intro s h v3 v2 v1 v0 rest i o c tail hs hn ho hm hr
    have orders := orderFrame_carries h o v3 v2 v1 v0 rest
    rw [exec_ordered hs orders, State.guardKnown_train hs.2.1 hn ho, State.guardTrain_refused (s := s.countReceived) hr hm]
    exact congrArg Host.Outcome.next (State.refuse_blocked orders _ _ _)
  · intro s h tail o hs full dropped
    obtain ⟨v3, v2, v1, v0, rest, rfl⟩ := four_bytes hs.2.2.1
    have run := exec_ordered hs (orderFrame_carries h o v3 v2 v1 v0 rest)
    refine ⟨fun i hn ha ho h1 h2 h3 h4 => ?_, fun c hn ho => ?_, fun hn => ?_⟩
    · have takes : s.countReceived.trainTakes i o := ⟨ha, h1, h2, h3, h4⟩
      obtain ⟨w, move, through⟩ := State.guardTrain_admitted takes (orderFrame h o (v3 :: v2 :: v1 :: v0 :: rest)) (word32 v3 v2 v1 v0).toInt
      rw [run, State.guardKnown_train hs.2.1 hn ho, through, State.letThrough_full full]
      rfl
    · have admitted : s.countReceived.valveOrderRefusal c o = none ∧ o.isValve = true := by
        obtain rfl | ⟨rfl, closing, fault, mark⟩ := ho
        · exact ⟨State.valveOrderRefusal_close _ c, rfl⟩
        · have free : ¬ s.countReceived.atLimit c := fun l => mark.elim l.1 fun m => m l.2
          exact ⟨(State.valveOrderRefusal_open free).trans (valveRefusal_open ⟨closing, fault⟩), rfl⟩
      rw [run, State.guardKnown_valve hs.2.1 hn admitted.2, State.guardValve_admitted admitted.1, State.letThrough_full full]
      rfl
    · rw [run, State.guardKnown_other (s := s.countReceived) (f := orderFrame h o _) hs.2.1 hn,
        State.forwardOrDrop_full (s := s.countReceived) full]
      rfl

/-- Settles O45: the guard's disposition by the node and the class of the order. -/
theorem ordersMisdirected : Obligations.OrdersMisdirected := by
  intro s h o v3 v2 v1 v0 rest hp hl body items value
  have fits : body.length ≤ 244 := by simp only [body, List.length_cons]; omega
  have mismatched {b : List Byte} (hb : b.length ≤ 244) :
      exec (.mismatchedOrder h b) s = .next (s.countReceived.guard (passingFrame h kOrder b)) :=
    congrArg Host.Outcome.next (hp.foreign_frame hb)
  have orders : carriesOrder (passingFrame h kOrder body) o (word32 v3 v2 v1 v0).toInt := rfl
  refine ⟨fun hd cls => ?_, ?_, fun hd hn room => ?_, ?_⟩
  · rw [mismatched fits, State.guard_known orders, State.guardKnown_mismatched (s := s.countReceived) hd cls, State.refuse_blocked orders]
    rfl
  · have sent : carriesOrder (sentTo 255 ⟨h.src, h.flags, h.seq⟩ kOrder body) o (word32 v3 v2 v1 v0).toInt := rfl
    have received : s.receive (sentTo 255 ⟨h.src, h.flags, h.seq⟩ kOrder body) = _ :=
      State.receive_guard hp.1 hp.2.1 hp.node_ne rfl fits
    refine congrArg Host.Outcome.next (received.trans ?_)
    rw [State.guard_known sent, State.guardKnown_broadcast rfl, State.refuse_blocked sent]
    rfl
  · rw [mismatched fits, State.guard_known orders, State.guardKnown_other (s := s.countReceived) (f := passingFrame h kOrder body) hd hn,
      State.forwardOrDrop_room (s := s.countReceived) room]
    rfl
  · intro b hb unread code
    have withheld {x : SourceRecord} {st : Item} (hx : s.countReceived.recordAt h.dest.toNat = some (x, st)) :
        exec (.mismatchedOrder h b) s = .next (s.blocked.notify .guardRefused x (items ++ [code, st, .code 3])) := by
      obtain ⟨value, code⟩ := unread_items (f := passingFrame h kOrder b) unread
      rw [mismatched hb, State.guard_unread unread, State.guardUnread_record hx, State.refuse, value, code]
      rfl
    exact ⟨fun i hn => withheld (State.recordAt_train (s := s.countReceived) hn),
      fun c hn => withheld (State.recordAt_valve (s := s.countReceived) hn)⟩

/-- Settles O46: a refused valve order is withheld, an admitted one moves the valve as `valveNext` says. -/
theorem valveOrders : Obligations.ValveOrders := by
  intro s h tail c hs hn x limit go refused opening
  obtain ⟨v3, v2, v1, v0, rest, rfl⟩ := four_bytes hs.2.2.1
  have run {o : Order} (ho : o.isValve = true) :
      exec (o.command h (v3 :: v2 :: v1 :: v0 :: rest)) s = .next (s.countReceived.guardValve (orderFrame h o (v3 :: v2 :: v1 :: v0 :: rest)) c o) := by
    rw [exec_ordered hs (orderFrame_carries h o v3 v2 v1 v0 rest), State.guardKnown_valve hs.2.1 hn ho]
  have withheld {o : Order} {code : Code} (ho : o.isValve = true) (hr : s.countReceived.valveOrderRefusal c o = some code) :
      exec (o.command h (v3 :: v2 :: v1 :: v0 :: rest)) s = refused o code.num := by
    have plain : o ≠ .setpoint := by rintro rfl; exact nomatch ho
    rw [run ho, State.guardValve_refused hr, State.refuse_blocked (orderFrame_carries h o v3 v2 v1 v0 rest), if_neg plain]
    rfl
  have through {o : Order} (ho : o.isValve = true) (hr : s.countReceived.valveOrderRefusal c o = none)
      (room : s.ring.forward.length < 24) : exec (o.command h (v3 :: v2 :: v1 :: v0 :: rest)) s = .next ((go o).moveValve c o) := by
    rw [run ho, State.guardValve_admitted hr, State.letThrough_room room]
  have admits (hl : ¬ limit) (hv : x.valve ≠ .closing ∧ x.valve ≠ .fault) : s.countReceived.valveOrderRefusal c .valveOpen = none :=
    (State.valveOrderRefusal_open (s := s.countReceived) hl).trans (valveRefusal_open hv)
  have same (o : Order) : (go o).cavern c = x := State.passedOn_cavern s _ c
  refine ⟨fun hl => withheld rfl (State.valveOrderRefusal_limit (s := s.countReceived) hl), fun hl hv => withheld (o := .valveOpen) (code := .busy) rfl ?_,
    fun hl hv => withheld (o := .valveOpen) (code := .state) rfl ?_, fun room hl hv => ?_, fun room hl hv => ?_, fun room hv => ?_, fun room hv => ?_⟩
  · rw [State.valveOrderRefusal_open (s := s.countReceived) hl, show (s.countReceived.cavern c).valve = _ from hv]
    rfl
  · rw [State.valveOrderRefusal_open (s := s.countReceived) hl, show (s.countReceived.cavern c).valve = _ from hv]
    rfl
  · have gone := through (o := .valveOpen) rfl (admits hl (by rcases hv with hv | hv <;> rw [hv] <;> exact ⟨nofun, nofun⟩)) room
    have opened : (go .valveOpen).moveValve c .valveOpen = opening.isolate c := by
      rw [State.moveValve_opening (by rw [same]; exact hv), same, State.passedOn_now]
    have becomes : exec (.valveOpen h (v3 :: v2 :: v1 :: v0 :: rest)) s = .next (opening.isolate c) :=
      gone.trans (congrArg Host.Outcome.next opened)
    refine ⟨becomes, fun hf => becomes.trans (congrArg Host.Outcome.next (State.isolate_unmet ?_))⟩
    rw [State.cavern_setCavern_same, State.setCavern_manifold, State.passedOn_manifold]
    exact Cavern.meetsIsolation_usable (x := { x with valve := .opening, timer := _, mark := .none }) hf _
  · have gone := through (o := .valveOpen) rfl (admits hl (by rcases hv with hv | hv <;> rw [hv] <;> exact ⟨nofun, nofun⟩)) room
    refine gone.trans (congrArg Host.Outcome.next (State.moveValve_none ?_))
    rw [same]
    rcases hv with hv | hv <;> rw [hv] <;> rfl
  · have gone := through (o := .valveClose) rfl (State.valveOrderRefusal_close _ c) room
    refine gone.trans (congrArg Host.Outcome.next ?_)
    rw [State.moveValve_closing (by rw [same]; rcases hv with hv | hv | hv | hv <;> rw [hv] <;> rfl), same, State.passedOn_now]
  · have gone := through (o := .valveClose) rfl (State.valveOrderRefusal_close _ c) room
    refine gone.trans (congrArg Host.Outcome.next (State.moveValve_none ?_))
    rw [same]
    rcases hv with hv | hv <;> rw [hv] <;> rfl

end
section
/-!
PROOFS. What a change of a train's state leaves, written out (sections 4.3, 5.2, 5.3 and 2.6), and the train orders at the guard.
-/

namespace Sys2Proof.Machine

/-! ## The record of a train that moves -/

/-- The record of a train that enters a state other than LOADED. -/
def Train.put (t : Train) (new : TrainState) (now : Nat) : Train :=
  { t with state := new, entry := now, timer := (t.p.timeout new).map (now + ·), setpoint := 0
           starved := if t.state = .loaded then false else t.starved }

theorem Train.changed_put (t : Train) {new : TrainState} (h : new ≠ .loaded ∧ new ≠ .tripped) (v : Int) (now : Nat) :
    t.changed new v now = t.put new now := by
  simp only [Train.changed, if_neg h.1, if_neg h.2, Train.put]

theorem Train.changed_tripped (t : Train) (v : Int) (now : Nat) : t.changed .tripped v now =
    { t.put .tripped now with preState := some t.state, preSetpoint := t.setpoint, tripClear := false } := rfl

theorem Train.changed_loaded (t : Train) (v : Int) (now : Nat) : t.changed .loaded v now =
    { t with state := .loaded, entry := now, timer := none, setpoint := v
             starved := if t.state = .loaded then false else t.starved } := rfl

/-- A train that is not LOADED enters a state. -/
theorem Train.put_unloaded {t : Train} (h : t.state ≠ .loaded) (new : TrainState) (now : Nat) : t.put new now =
    { t with state := new, entry := now, timer := (t.p.timeout new).map (now + ·), setpoint := 0 } := by
  rw [Train.put, if_neg h]

/-- The converter once a train has left the state it is in. -/
def State.convAfter (s : State) (i : Fin 8) : Converter := (s.convLeft i (s.train i).state).conv

theorem State.convLeft_eq (s : State) (i : Fin 8) (old : TrainState) : s.convLeft i old = { s with conv := (s.convLeft i old).conv } := by
  unfold State.convLeft
  split
  · rfl
  · split
    · split <;> rfl
    · rfl
  · rfl

/-- The converter's answer looks at the converter, the plant table and the time base. -/
theorem State.convLeft_congr {s t : State} (hc : t.conv = s.conv) (hp : t.plant = s.plant) (hn : t.now = s.now) (i : Fin 8)
    (old : TrainState) : (t.convLeft i old).conv = (s.convLeft i old).conv := by
  unfold State.convLeft
  split
  · rw [hc]
  · rw [hc, hp]
    split
    · split
      · rfl
      · rw [State.after, hn]
        rfl
    · exact hc
  · exact hc

/-- A train record, its track, the converter and TRAIN_STATE. -/
def State.shifted (s : State) (i : Fin 8) (y : Train) (c : Converter) (cause : Cause) : State :=
  State.trainNotice { (s.setTrain i y).setTrack i y.setpoint with conv := c } i (.code (s.train i).state.num) (.code y.state.num) cause

/-- A change of a train's state: the record and its notice, then the manifold's answer. -/
theorem State.moveTrain_shifted {s : State} {i : Fin 8} {new : TrainState} (h : (s.train i).state ≠ new) (v : Int) (c : Cause) :
    s.moveTrain i new v c = (s.shifted i ((s.train i).changed new v s.now) (s.convAfter i) c).manifoldAnswer (s.train i).p.kind
      (s.train i).state new := by
  have conv : s.recorded i new v = { (s.setTrain i ((s.train i).changed new v s.now)).setTrack i
      ((s.train i).changed new v s.now).setpoint with conv := s.convAfter i } := by
    have same := State.convLeft_congr (s := s) (t := (s.setTrain i ((s.train i).changed new v s.now)).setTrack i
      ((s.train i).changed new v s.now).setpoint) rfl rfl rfl i (s.train i).state
    rw [State.recorded, State.convLeft_eq, same]
    rfl
  rw [State.moveTrain_eq h, conv, State.shifted, Train.changed_state]

theorem State.manifoldAnswer_same {s : State} {old new : TrainState} (h : old.flows = new.flows) (k : TrainKind) :
    s.manifoldAnswer k old new = s := by
  unfold State.manifoldAnswer
  rw [h]
  cases new.flows <;> rfl

/-- A change of state that leaves the flow as it was. -/
theorem State.moveTrain_steady {s : State} {i : Fin 8} {new : TrainState} (h : (s.train i).state ≠ new)
    (hf : (s.train i).state.flows = new.flows) (v : Int) (c : Cause) :
    s.moveTrain i new v c = s.shifted i ((s.train i).changed new v s.now) (s.convAfter i) c := by
  rw [State.moveTrain_shifted h, State.manifoldAnswer_same hf]

theorem State.convAfter_other {s : State} {i : Fin 8} (h : (s.train i).state ≠ .startWait ∧ (s.train i).state ≠ .starting) :
    s.convAfter i = s.conv := by
  obtain ⟨h1, h2⟩ := h
  unfold State.convAfter State.convLeft
  split
  case h_1 e => exact absurd e h1
  case h_2 e => exact absurd e h2
  case h_3 => rfl

theorem State.convAfter_waiting {s : State} {i : Fin 8} (h : (s.train i).state = .startWait) : s.convAfter i = { s.conv with
    queue := s.conv.queue.erase i, retry := if s.conv.queue.erase i = [] then none else s.conv.retry } := by
  simp only [State.convAfter, State.convLeft, h, List.isEmpty_iff]

theorem State.convAfter_starting {s : State} {i : Fin 8} (h : (s.train i).state = .starting) (hb : s.conv.state = .busy i) :
    s.convAfter i = if s.plant.cooldown = 0 then { s.conv with state := .free }
      else { s.conv with state := .cooldown, cooldown := some (s.now + s.plant.cooldown * 1000) } := by
  simp only [State.convAfter, State.convLeft, h, hb, if_true]
  split <;> rfl

theorem State.serve_idle {s : State} (h : s.conv.state ≠ .free ∨ s.conv.queue = []) : s.serve = s := by
  unfold State.serve
  split
  case h_1 i rest free queue =>
    rcases h with h | h
    · exact absurd free h
    · rw [h] at queue
      exact nomatch queue
  case h_2 => rfl

/-- What a shift leaves apart from its own frames. -/
theorem State.shifted_own (s : State) (i : Fin 8) (y : Train) (c : Converter) (cause : Cause) :
    Own { (s.setTrain i y).setTrack i y.setpoint with conv := c } (s.shifted i y c cause) := State.notify_own _ _ _ _

theorem State.shifted_conv (s : State) (i : Fin 8) (y : Train) (c : Converter) (cause : Cause) : (s.shifted i y c cause).conv = c :=
  (s.shifted_own i y c cause).agree .conv (by decide)

theorem State.shifted_manifold (s : State) (i : Fin 8) (y : Train) (c : Converter) (cause : Cause) :
    (s.shifted i y c cause).manifold = s.manifold := (s.shifted_own i y c cause).agree .manifold (by decide)

theorem State.shifted_train (s : State) (i j : Fin 8) (y : Train) (c : Converter) (cause : Cause) :
    (s.shifted i y c cause).train j = if j = i then y else s.train j :=
  ((s.shifted_own i y c cause).agree.train (by decide) j).trans (State.train_setTrain s i j y)

/-! ## The flow -/

theorem State.kindFlows_iff (s : State) (k : TrainKind) :
    s.kindFlows k = true ↔ ∃ j, (s.train j).flowing = true ∧ (s.train j).p.kind = k := by
  simp only [State.kindFlows, List.any_eq_true, Bool.and_eq_true, beq_iff_eq]
  exact ⟨fun ⟨j, _, h⟩ => ⟨j, h⟩, fun ⟨j, h⟩ => ⟨j, mem_slotNumbers j, h⟩⟩

theorem Direction.kind_dir (d : Direction) : d.kind.dir = some d := by cases d <;> rfl

/-- A train of a direction begins to flow while the manifold does not flow. -/
theorem State.flowBegan_enters {s : State} {d : Direction} (h : s.manifold.state.flow = none) :
    s.flowBegan d.kind = s.manifoldTo ⟨d.state, none, none⟩ := by
  simp only [State.flowBegan, h, Direction.kind_dir, State.enterDirection]

theorem State.flowBegan_flowing {s : State} (k : TrainKind) (h : s.manifold.state.flow ≠ none) : s.flowBegan k = s := by
  unfold State.flowBegan
  split
  case h_1 e _ => exact absurd e h
  case h_2 => rfl

/-- A train leaves the flow of the manifold's direction. -/
theorem State.flowEnded_direction {s : State} {d : Direction} (h : s.manifold.state = d.state) :
    s.flowEnded = if s.kindFlows d.kind then s else s.enterChangeover d := by
  unfold State.flowEnded
  rw [h]
  cases d <;> rfl

/-! ## Orders that move a record -/

/-- The mover of an order other than TRIP_RESET, where a release serves nobody. -/
theorem State.takeOrder_moves {s : State} {i : Fin 8} {o : Order} {new : TrainState} (hg : o.gives = some new)
    (ht : o = .trip → (s.train i).state ≠ .unknown ∧ (s.train i).state ≠ .tripped) (hr : o ≠ .tripReset) :
    s.takeOrder i o = s.changeTrain i new 0 .order := by
  have stays : ¬ (o = .trip ∧ ((s.train i).state = .unknown ∨ (s.train i).state = .tripped)) :=
    fun ⟨e, h⟩ => h.elim (ht e).1 (ht e).2
  simp only [State.takeOrder, hg, if_neg stays, if_neg hr]

theorem State.takeOrder_reset (s : State) (i : Fin 8) :
    s.takeOrder i .tripReset = (s.setTrain i { s.train i with tripClear := false }).changeTrain i .standby 0 .order := rfl

theorem State.setTrain_setTrain (s : State) (i : Fin 8) (x y : Train) : (s.setTrain i x).setTrain i y = s.setTrain i y := by
  simp [State.setTrain, Vector.set_set]

/-- A change of state whose release serves nobody. -/
theorem State.changeTrain_steady {s : State} {i : Fin 8} {new : TrainState} (h : (s.train i).state ≠ new)
    (hf : (s.train i).state.flows = new.flows) (hs : (s.train i).state = .starting →
      (s.convAfter i).state ≠ .free ∨ (s.convAfter i).queue = []) (v : Int) (c : Cause) :
    s.changeTrain i new v c = s.shifted i ((s.train i).changed new v s.now) (s.convAfter i) c := by
  rw [State.changeTrain, State.moveTrain_steady h hf]
  split
  case isTrue e => exact State.serve_idle (by rw [State.shifted_conv]; exact hs e.1)
  case isFalse => rfl

/-- A change of state of a train that did not start: no release. -/
theorem State.changeTrain_moves {s : State} {i : Fin 8} {new : TrainState} (h : (s.train i).state ≠ .starting) (v : Int) (c : Cause) :
    s.changeTrain i new v c = s.moveTrain i new v c := if_neg fun e => h e.1

theorem State.passedOn_convAfter (s : State) (f : Frame) (i : Fin 8) : (s.passedOn f).convAfter i = s.convAfter i := by
  unfold State.convAfter
  rw [State.passedOn_train]
  exact State.convLeft_congr (by simp) (by simp) (by simp) i _

/-- An admitted order other than START and SETPOINT at a forward queue with room. -/
theorem exec_trainOrder {s : State} {h : Passing} {tail : List Byte} {i : Fin 8} {o : Order} (hs : s.ordered h tail)
    (hn : s.trainNode h.dest.toNat i) (ho : o.isValve = false) (hp : o ≠ .start ∧ o ≠ .setpoint)
    (ha : s.orderRefusal i o = none) (room : s.ring.forward.length < 24) :
    exec (o.command h tail) s = .next ((s.passedOn (guarded (orderFrame h o tail) none)).takeOrder i o) := by
  obtain ⟨v3, v2, v1, v0, rest, rfl⟩ := four_bytes hs.2.2.1
  rw [exec_ordered hs (orderFrame_carries h o v3 v2 v1 v0 rest), State.guardKnown_train (s := s.countReceived) (f := orderFrame h o _) hs.2.1 hn ho,
    State.guardTrain_other hp, State.guardOther_admitted (s := s.countReceived) ha, State.letThrough_room room]

/-- The frame of an order that is let through, and the record it moves. -/
theorem exec_trainOrder_steady {s : State} {h : Passing} {tail : List Byte} {i : Fin 8} {o : Order} {new : TrainState}
    (hs : s.ordered h tail) (hn : s.trainNode h.dest.toNat i) (room : s.ring.forward.length < 24) (ho : o.isValve = false)
    (hp : o ≠ .start ∧ o ≠ .setpoint ∧ o ≠ .tripReset) (ha : s.orderRefusal i o = none) (hg : o.gives = some new)
    (ht : o = .trip → (s.train i).state ≠ .unknown ∧ (s.train i).state ≠ .tripped)
    (hne : (s.train i).state ≠ new) (hf : (s.train i).state.flows = new.flows)
    (hv : (s.train i).state = .starting → (s.convAfter i).state ≠ .free ∨ (s.convAfter i).queue = []) :
    exec (o.command h tail) s = .next ((s.passedOn (guarded (orderFrame h o tail) none)).shifted i
      ((s.train i).changed new 0 s.now) (s.convAfter i) .order) := by
  obtain ⟨h1, h2, h3⟩ := hp
  rw [exec_trainOrder hs hn ho ⟨h1, h2⟩ ha room, State.takeOrder_moves hg (by rw [State.passedOn_train]; exact ht) h3,
    State.changeTrain_steady (by rwa [State.passedOn_train]) (by rwa [State.passedOn_train])
      (by rw [State.passedOn_train, State.passedOn_convAfter]; exact hv)]
  rw [State.passedOn_train, State.passedOn_now, State.passedOn_convAfter]

end Sys2Proof.Machine

open Sys2Proof Sys2Proof.Machine

/-- Settles O38: each order moves the record as its table gives (`exec_trainOrder_steady`). -/
theorem ordersMoveRecords : Obligations.OrdersMoveRecords := by
  intro s h tail i hs hn room x forwarded moved aborted tripped left released
  have steady {o : Order} {new : TrainState} {y : Train} {c : Converter} (ho : o.isValve = false)
      (hp : o ≠ .start ∧ o ≠ .setpoint ∧ o ≠ .tripReset) (ha : s.orderRefusal i o = none) (hg : o.gives = some new)
      (hne : x.state ≠ new) (hf : x.state.flows = new.flows) (hy : x.changed new 0 s.now = y) (h0 : y.setpoint = 0)
      (hc : s.convAfter i = c) (ht : o = .trip → x.state ≠ .unknown ∧ x.state ≠ .tripped)
      (hv : x.state = .starting → c.state ≠ .free ∨ c.queue = []) : exec (o.command h tail) s = forwarded o y c := by
    rw [exec_trainOrder_steady hs hn room ho hp ha hg ht hne hf (by rw [hc]; exact hv), State.shifted, State.passedOn_train, hy, h0, hc]
  have admits {o : Order} (hx : admission x.state o = none) (hl : o ≠ .load ∧ o ≠ .tripReset) : s.orderRefusal i o = none := by
    rw [State.orderRefusal, show admission (s.train i).state o = none from hx]
    obtain ⟨h1, h2⟩ := hl
    cases o <;> first | contradiction | rfl
  have stays (h1 : x.state ≠ .startWait) (h2 : x.state ≠ .starting) : s.convAfter i = s.conv := State.convAfter_other ⟨h1, h2⟩
  have plain {new : TrainState} (h1 : new ≠ .loaded ∧ new ≠ .tripped) (hl : x.state ≠ .loaded) : x.changed new 0 s.now =
      { x with state := new, entry := s.now, timer := (x.p.timeout new).map (s.now + ·), setpoint := 0 } := by
    rw [Train.changed_put x h1, Train.put_unloaded hl]
  have trips (hl : x.state ≠ .loaded) : x.changed .tripped 0 s.now = tripped := by
    rw [Train.changed_tripped, Train.put_unloaded hl]
    rfl
  refine ⟨fun hx => ?_, fun hx => ?_, fun hx => ?_, fun hx => ?_, fun hx hclear => ?_, fun hx => ?_, fun hx hb => ?_⟩
  · exact steady (o := .enable) (new := .standby) rfl ⟨nofun, nofun, nofun⟩ (admits (by rw [hx]; rfl) ⟨nofun, nofun⟩) rfl
      (by rw [hx]; nofun) (by rw [hx]; rfl) (plain ⟨nofun, nofun⟩ (by rw [hx]; nofun)) rfl
      (stays (by rw [hx]; nofun) (by rw [hx]; nofun)) nofun (by rw [hx]; nofun)
  · exact steady (o := .disable) (new := .offline) rfl ⟨nofun, nofun, nofun⟩ (admits (by rw [hx]; rfl) ⟨nofun, nofun⟩) rfl
      (by rw [hx]; nofun) (by rw [hx]; rfl) (plain ⟨nofun, nofun⟩ (by rw [hx]; nofun)) rfl
      (stays (by rw [hx]; nofun) (by rw [hx]; nofun)) nofun (by rw [hx]; nofun)
  · exact steady (o := .stop) (new := .stopping) rfl ⟨nofun, nofun, nofun⟩ (admits (by rw [hx]; rfl) ⟨nofun, nofun⟩) rfl
      (by rw [hx]; nofun) (by rw [hx]; rfl) (plain ⟨nofun, nofun⟩ (by rw [hx]; nofun)) rfl
      (stays (by rw [hx]; nofun) (by rw [hx]; nofun)) nofun (by rw [hx]; nofun)
  · have put : x.changed .unloading 0 s.now = { x with
        state := .unloading, entry := s.now, timer := some (s.now + x.p.tUnload * 1000), setpoint := 0, starved := false } := by
      rw [Train.changed_put x (new := .unloading) ⟨nofun, nofun⟩, Train.put, if_pos hx]
      rfl
    exact steady (o := .unload) (new := .unloading) rfl ⟨nofun, nofun, nofun⟩ (admits (by rw [hx]; rfl) ⟨nofun, nofun⟩) rfl
      (by rw [hx]; nofun) (by rw [hx]; rfl) put rfl (stays (by rw [hx]; nofun) (by rw [hx]; nofun)) nofun (by rw [hx]; nofun)
  · have taken : s.orderRefusal i .tripReset = none := by
      rw [State.orderRefusal, show (s.train i).state = .tripped from hx, State.furtherRefusal, show (s.train i).tripClear = true from hclear]
      rfl
    have run : exec (.tripReset h tail) s = .next ((s.passedOn (guarded (orderFrame h .tripReset tail) none)).takeOrder i .tripReset) :=
      exec_trainOrder (o := .tripReset) hs hn rfl ⟨nofun, nofun⟩ taken room
    have from_ : (((s.passedOn (guarded (orderFrame h .tripReset tail) none)).setTrain i { x with tripClear := false }).train i) =
        { x with tripClear := false } := State.train_setTrain_same _ _ _
    refine run.trans (congrArg Host.Outcome.next ?_)
    rw [State.takeOrder_reset, State.passedOn_train, State.changeTrain_steady (by rw [from_]; exact hx ▸ nofun)
      (by rw [from_]; exact hx ▸ rfl) (by rw [from_]; intro e; exact absurd (hx.symm.trans e) nofun), from_,
      Train.changed_put _ (new := .standby) ⟨nofun, nofun⟩, Train.put_unloaded (t := { x with tripClear := false }) (by rw [hx]; nofun), State.shifted,
      State.setTrain_setTrain, from_, State.convAfter_other (by rw [from_]; exact ⟨hx ▸ nofun, hx ▸ nofun⟩), State.setTrain_now,
      State.setTrain_conv, State.passedOn_now, State.passedOn_conv]
    rfl
  · have left : s.convAfter i = left := State.convAfter_waiting hx
    exact ⟨steady (o := .abort) (new := .standby) rfl ⟨nofun, nofun, nofun⟩ (admits (by rw [hx]; rfl) ⟨nofun, nofun⟩) rfl
        (by rw [hx]; nofun) (by rw [hx]; rfl) (plain ⟨nofun, nofun⟩ (by rw [hx]; nofun)) rfl left nofun (by rw [hx]; nofun),
      steady (o := .trip) (new := .tripped) rfl ⟨nofun, nofun, nofun⟩ (admits (by rw [hx]; rfl) ⟨nofun, nofun⟩) rfl
        (by rw [hx]; nofun) (by rw [hx]; rfl) (trips (by rw [hx]; nofun)) rfl left (fun _ => by rw [hx]; exact ⟨nofun, nofun⟩)
        (by rw [hx]; nofun)⟩
  · have released (c : Converter) (hc : s.convAfter i = c) (hv : c.state ≠ .free ∨ c.queue = []) :
        exec (.abort h tail) s = forwarded .abort aborted c ∧ exec (.trip h tail) s = forwarded .trip tripped c :=
      ⟨steady (o := .abort) (new := .standby) rfl ⟨nofun, nofun, nofun⟩ (admits (by rw [hx]; rfl) ⟨nofun, nofun⟩) rfl
          (by rw [hx]; nofun) (by rw [hx]; rfl) (plain ⟨nofun, nofun⟩ (by rw [hx]; nofun)) rfl hc nofun (fun _ => hv),
        steady (o := .trip) (new := .tripped) rfl ⟨nofun, nofun, nofun⟩ (admits (by rw [hx]; rfl) ⟨nofun, nofun⟩) rfl
          (by rw [hx]; nofun) (by rw [hx]; rfl) (trips (by rw [hx]; nofun)) rfl hc (fun _ => by rw [hx]; exact ⟨nofun, nofun⟩)
          (fun _ => hv)⟩
    refine ⟨fun hcool => released _ ?_ (.inl nofun), fun hcool hq => released _ ?_ (.inr hq)⟩
    · rw [State.convAfter_starting hx hb, if_neg hcool]
    · rw [State.convAfter_starting hx hb, if_pos hcool]

end
section
/-!
PROOFS. START, LOAD, TRIP and SETPOINT at the guard (sections 5.2, 2.6, 4.3 and 8.3).
-/

namespace Sys2Proof.Machine

/-! ## LOAD and TRIP -/

theorem State.manifoldAnswer_began {s : State} {old new : TrainState} (h : old.flows = false ∧ new.flows = true) (k : TrainKind) :
    s.manifoldAnswer k old new = s.flowBegan k := if_pos h

theorem State.manifoldAnswer_ended {s : State} {old new : TrainState} (h : old.flows = true ∧ new.flows = false) (k : TrainKind) :
    s.manifoldAnswer k old new = s.flowEnded := by
  obtain ⟨h1, h2⟩ := h
  rw [State.manifoldAnswer, if_neg (by rw [h1]; nofun), if_pos ⟨h1, h2⟩]

theorem Train.starved_put (t : Train) : (if t.state = .loaded then false else t.starved) = (t.starved && t.state != .loaded) := by
  split
  case isTrue h => rw [h]; cases t.starved <;> rfl
  case isFalse h => rw [bne_iff_ne.mpr h, Bool.and_true]

/-- The last train of a kind to flow has been stopped. -/
theorem State.shifted_kindFlows {s : State} {i : Fin 8} {y : Train} {c : Converter} {cause : Cause} (hy : y.state.flows = false) (k : TrainKind) :
    (s.shifted i y c cause).kindFlows k = true ↔ ∃ j, j ≠ i ∧ (s.train j).flowing = true ∧ (s.train j).p.kind = k := by
  have still : y.flowing = false := by rw [Train.flowing, hy, Bool.and_false]
  rw [State.kindFlows_iff]
  constructor
  · rintro ⟨j, hj, hk⟩
    rw [State.shifted_train] at hj hk
    by_cases e : j = i
    · rw [if_pos e, still] at hj
      exact nomatch hj
    · rw [if_neg e] at hj hk
      exact ⟨j, e, hj, hk⟩
  · rintro ⟨j, e, hj, hk⟩
    exact ⟨j, by rw [State.shifted_train, if_neg e]; exact ⟨hj, hk⟩⟩

theorem State.takeOrder_trip_stays {s : State} {i : Fin 8} (h : (s.train i).state = .unknown ∨ (s.train i).state = .tripped) :
    s.takeOrder i .trip = s := if_pos ⟨rfl, h⟩

theorem Direction.kind_eq {k : TrainKind} {d : Direction} (h : k = d.kind) : k.dir = some d := h ▸ Direction.kind_dir d

/-- A LOAD that a manifold takes. -/
theorem Manifold.loadCheck_of {m : Manifold} {k : TrainKind} {d : Direction} (hk : k.dir = some d)
    (h : m.state = d.state ∨ m.state = .idle ∨ (m.state = .changeover ∧ m.remembered = some d)) : m.loadCheck k = none := by
  unfold Manifold.loadCheck
  obtain h | h | ⟨h, hr⟩ := h
  · rw [h]
    cases d <;> exact if_pos hk
  · rw [h]
  · rw [h]
    exact if_pos (hk.trans hr.symm)

/-! ## START -/

theorem State.guardStart_taken {s : State} {i : Fin 8} (hst : (s.train i).state = .standby) (hh : s.heatLow i = false) (f : Frame) (v : Int) :
    s.guardTrain f i .start v = if s.converterReady then s.letThrough f none fun s => s.startNow i else s.countWithheld.startQueued i 1 := by
  simp only [State.guardTrain, State.guardStart, hst, admission, hh, Bool.false_eq_true, if_false]

theorem State.heatLow_eq_false {s : State} {i : Fin 8} (h : (s.train i).p.kind = .compressor ∨ s.storeFactor (s.train i) .discharge ≠ 0) :
    s.heatLow i = false := by
  unfold State.heatLow
  obtain h | h := h
  · rw [h]
    rfl
  · rw [beq_eq_false_iff_ne.mpr h, Bool.and_false]

theorem State.takeConverter_train (s : State) (i j : Fin 8) : (s.takeConverter i).train j = s.train j := rfl

/-- A STANDBY train starts. -/
theorem State.startNow_eq {s : State} {i : Fin 8} (h : (s.train i).state = .standby) : s.startNow i = s.shifted i { s.train i with
    state := .starting, entry := s.now, timer := some (s.now + (s.train i).p.tStart * 1000), setpoint := 0 }
    { s.conv with state := .busy i, starts := s.conv.starts + 1, retry := none } .order := by
  rw [State.startNow, State.moveTrain_steady (by rw [State.takeConverter_train, h]; nofun) (by rw [State.takeConverter_train, h]; rfl),
    State.takeConverter_train, Train.changed_put _ (new := .starting) ⟨nofun, nofun⟩, Train.put_unloaded (by rw [h]; nofun),
    State.convAfter_other (by rw [State.takeConverter_train, h]; exact ⟨nofun, nofun⟩)]
  rfl

/-- A STANDBY train waits for the converter. -/
theorem State.startQueued_eq {s : State} {i : Fin 8} (h : (s.train i).state = .standby) (n : Nat) : s.startQueued i n =
    (s.shifted i { s.train i with state := .startWait, entry := s.now, timer := none, setpoint := 0 }
      { s.conv with queue := s.conv.queue ++ [i] } .order).notify .startQueued (.train i)
        [.fig i.val, .fig (s.conv.queue.length + 1), .code s.conv.state.num, .code n] := by
  have same : ({ s with conv := { s.conv with queue := s.conv.queue ++ [i] } } : State).train i = s.train i := rfl
  rw [State.startQueued]
  dsimp only
  rw [State.moveTrain_steady (by rw [same, h]; nofun) (by rw [same, h]; rfl), same,
    Train.changed_put _ (new := .startWait) ⟨nofun, nofun⟩, Train.put_unloaded (by rw [h]; nofun),
    State.convAfter_other (by rw [same, h]; exact ⟨nofun, nofun⟩)]
  rfl

/-! ## SETPOINT -/

theorem guarded_flag (f : Frame) (w : Option Int) : (guarded f w).flags.getLsbD 0 = true ∧ (guarded f w).seq = f.seq ∧ (guarded f w).src = f.src := by
  have bit : (f.flags ||| 1).getLsbD 0 = true := by rw [BitVec.getLsbD_or]; simp
  cases w <;> exact ⟨bit, rfl, rfl⟩

theorem orderBody_guarded {h : Passing} {o : Order} {v3 v2 v1 v0 : Byte} {rest : List Byte} {w : Int} (h1 : -2147483648 ≤ w) (h2 : w ≤ 2147483647) :
    orderBody (guarded (orderFrame h o (v3 :: v2 :: v1 :: v0 :: rest)) (some w)).body = some (BitVec.ofNat 8 o.num, w) := by
  have value : (BitVec.ofInt 32 w).toInt = w := by
    rw [BitVec.toInt_ofInt]
    exact Int.bmod_eq_of_le (by omega) (by omega)
  change some (BitVec.ofNat 8 o.num, (word32 _ _ _ _).toInt) = _
  rw [word32_bytes32, value]

end Sys2Proof.Machine

open Sys2Proof Sys2Proof.Machine

/-- Settles O40: the record moves, and the manifold answers the train that begins to flow. -/
theorem loadTaken : Obligations.LoadTaken := by
  intro s h tail i d hs hn room hst known hk u
  have run (hm : s.manifold.state = d.state ∨ s.manifold.state = .idle ∨ (s.manifold.state = .changeover ∧ s.manifold.remembered = some d)) :
      exec (.load h tail) s = .next (u.flowBegan d.kind) := by
    have taken : s.orderRefusal i .load = none := by
      rw [State.orderRefusal, hst, State.furtherRefusal, known, Manifold.loadCheck_of (Direction.kind_eq hk) hm]
      rfl
    refine (exec_trainOrder (o := .load) hs hn rfl ⟨nofun, nofun⟩ taken room).trans (congrArg Host.Outcome.next ?_)
    rw [State.takeOrder_moves (o := .load) (new := .loading) rfl nofun nofun, State.changeTrain_moves (by rw [State.passedOn_train, hst]; nofun),
      State.moveTrain_shifted (by rw [State.passedOn_train, hst]; nofun), State.passedOn_train, hst, hk,
      State.manifoldAnswer_began ⟨rfl, rfl⟩, Train.changed_put _ (new := .loading) ⟨nofun, nofun⟩, Train.put_unloaded (by rw [hst]; nofun),
      State.convAfter_other (by rw [State.passedOn_train, hst]; exact ⟨nofun, nofun⟩), State.shifted, State.passedOn_train, hst,
      State.passedOn_now]
    rfl
  have manifold : u.manifold = s.manifold := (State.notify_own _ _ _ _).agree .manifold (by decide) |>.trans (by simp)
  refine ⟨fun hm => ?_, fun hm => ?_⟩
  · rw [run (.inl hm), State.flowBegan_flowing _ (by rw [manifold, hm, Direction.state_flow]; nofun)]
  · have idle : u.manifold.state.flow = none := by
      rw [manifold]
      rcases hm with hm | ⟨hm, -⟩ <;> rw [hm] <;> rfl
    rw [run (.inr hm), State.flowBegan_enters idle]

/-- Settles O41: the record of a train that flows not, or the manifold's answer where it did. -/
theorem tripTaken : Obligations.TripTaken := by
  intro s h tail i hs hn room x g u
  have at_ : g.train i = x := State.passedOn_train s _ i
  have told : u = g.shifted i { x with
      state := .tripped, entry := s.now, timer := none, setpoint := 0, starved := x.starved && x.state != .loaded
      preState := some x.state, preSetpoint := x.setpoint, tripClear := false } g.conv .order := by
    rw [State.shifted, at_]
    rfl
  have run (hx : admission x.state .trip = none) : exec (.trip h tail) s = .next (g.takeOrder i .trip) :=
    exec_trainOrder (o := .trip) hs hn rfl ⟨nofun, nofun⟩ (by rw [State.orderRefusal, show admission (s.train i).state .trip = _ from hx]; rfl) room
  have moves (hx : x.state ≠ .unknown ∧ x.state ≠ .tripped ∧ x.state ≠ .starting ∧ x.state ≠ .startWait) :
      g.takeOrder i .trip = u.manifoldAnswer x.p.kind x.state .tripped := by
    obtain ⟨h1, h2, h3, h4⟩ := hx
    rw [State.takeOrder_moves (o := .trip) (new := .tripped) rfl (fun _ => by rw [at_]; exact ⟨h1, h2⟩) nofun,
      State.changeTrain_moves (by rw [at_]; exact h3), State.moveTrain_shifted (by rw [at_]; exact h2), at_,
      Train.changed_tripped, Train.put, Train.starved_put, State.convAfter_other (by rw [at_]; exact ⟨h4, h3⟩), State.shifted, at_,
      State.passedOn_now]
    rfl
  refine ⟨fun hx => ?_, fun hx => ?_, fun hx d hk hm => ?_⟩
  · have stays : g.takeOrder i .trip = g := State.takeOrder_trip_stays (by rw [at_]; exact hx)
    rw [run (by rcases hx with hx | hx <;> rw [hx] <;> rfl), stays]
  · have still : x.state.flows = TrainState.tripped.flows := by rcases hx with hx | hx | hx <;> rw [hx] <;> rfl
    rw [run (by rcases hx with hx | hx | hx <;> rw [hx] <;> rfl),
      moves (by rcases hx with hx | hx | hx <;> rw [hx] <;> exact ⟨nofun, nofun, nofun, nofun⟩), State.manifoldAnswer_same still]
  · have flowed : x.state.flows = true := by rcases hx with hx | hx | hx <;> rw [hx] <;> rfl
    have answers : exec (.trip h tail) s = .next (if u.kindFlows d.kind then u else u.enterChangeover d) := by
      have manifold : u.manifold = s.manifold := by rw [told, State.shifted_manifold, State.passedOn_manifold]
      rw [run (by rcases hx with hx | hx | hx <;> rw [hx] <;> rfl),
        moves (by rcases hx with hx | hx | hx <;> rw [hx] <;> exact ⟨nofun, nofun, nofun, nofun⟩),
        State.manifoldAnswer_ended ⟨flowed, rfl⟩, State.flowEnded_direction (d := d) (by rw [manifold]; exact hm)]
    have flows : u.kindFlows d.kind = true ↔ ∃ j, j ≠ i ∧ (s.train j).flowing = true ∧ (s.train j).p.kind = x.p.kind := by
      rw [told, State.shifted_kindFlows rfl, ← hk]
      simp only [g, State.passedOn_train]
    refine ⟨fun some => ?_, fun none => ?_⟩
    · rw [answers, if_pos (flows.mpr some)]
    · rw [answers, if_neg fun x => ?_]
      obtain ⟨j, e, hj, hkj⟩ := flows.mp x
      exact none j e hj hkj

/-- Settles O37: a START the table admits is forwarded to a free converter, or its train waits. -/
theorem startTaken : Obligations.StartTaken := by
  intro s h tail i hs hn hst hheat
  obtain ⟨v3, v2, v1, v0, rest, rfl⟩ := four_bytes hs.2.2.1
  have run : exec (.start h (v3 :: v2 :: v1 :: v0 :: rest)) s = .next (s.countReceived.guardTrain (orderFrame h .start _) i .start _) :=
    (exec_ordered (o := .start) hs (orderFrame_carries h .start v3 v2 v1 v0 rest)).trans
      (congrArg Host.Outcome.next (State.guardKnown_train (s := s.countReceived) (f := orderFrame h .start _) hs.2.1 hn rfl _))
  have taken := State.guardStart_taken (s := s.countReceived) hst (State.heatLow_eq_false (s := s.countReceived) hheat)
  refine ⟨fun free queue room => ?_, fun busy => ?_⟩
  · have ready : s.countReceived.converterReady = true := (State.converterReady_iff _).mpr ⟨free, queue⟩
    rw [run, taken, if_pos ready, State.letThrough_room room, State.startNow_eq (by rw [State.passedOn_train]; exact hst),
      State.shifted, State.passedOn_train, State.passedOn_now, State.passedOn_conv, hst]
    rfl
  · have waits : ¬ s.countReceived.converterReady = true := fun r => by
      obtain ⟨free, queue⟩ := (State.converterReady_iff _).mp r
      exact busy.elim (fun b => b free) fun b => b queue
    rw [run, taken, if_neg waits, State.startQueued_eq (s := s.countReceived.countWithheld) hst, State.shifted,
      show (s.countReceived.countWithheld.train i).state = _ from hst]
    rfl

/-- Settles O43: the mode withholds a SETPOINT, or the record takes the clamped value. -/
theorem setpointGuarded : Obligations.SetpointGuarded := by
  intro s h v3 v2 v1 v0 rest i tail hs hn v w items g u
  have orders := orderFrame_carries h .setpoint v3 v2 v1 v0 rest
  have run : exec (.setpoint h tail) s = .next (s.countReceived.guardSetpoint (orderFrame h .setpoint tail) i v) :=
    (exec_ordered (o := .setpoint) hs orders).trans
      (congrArg Host.Outcome.next (State.guardKnown_train (s := s.countReceived) (f := orderFrame h .setpoint tail) hs.2.1 hn rfl _))
  obtain ⟨flag, seq, src⟩ := guarded_flag (orderFrame h .setpoint tail) (some w)
  refine ⟨fun hm => ?_, fun hm hst room => ?_, flag, seq, src, fun h0 h1 h2 => ?_⟩
  · have dispatches : s.countReceived.mode.mode.dispatches = true := by
      change s.mode.mode.dispatches = true
      rcases hm with hm | hm <;> rw [hm] <;> rfl
    rw [run, State.guardSetpoint, if_pos dispatches, orderItem_of orders, valueItems_of orders]
    rfl
  · have idle : s.countReceived.mode.mode.dispatches = false := ModeRecord.manual.dispatches (m := s.mode) hm
    have taken : s.countReceived.guardSetpoint (orderFrame h .setpoint tail) i v =
        (s.passedOn g).setpointTaken (orderFrame h .setpoint tail) i v w := by
      rw [State.guardSetpoint, idle, show (s.countReceived.train i).state = _ from hst]
      exact State.letThrough_room room _ (some w) fun t => t.setpointTaken (orderFrame h .setpoint tail) i v w
    rw [run, taken, State.setpointTaken, State.recordSetpoint, State.passedOn_train, State.trainItem, State.passedOn_train,
      orderItem_of orders, valueItems_of orders]
    rfl
  · have upper := State.clampUpper_between s h1
    obtain ⟨lo, hi⟩ := clampTo_mem (x := v) upper.1
    have low : (s.train i).p.pMin ≤ w := lo
    have high : w ≤ (s.train i).p.pMax := hi.trans upper.2
    exact ⟨low, high, orderBody_guarded (by omega) (by omega)⟩

end
section
/-!
PROOFS. The own orders that reports and placed orders leave, and what isolation, reopening and RATE_HOLD make of one cavern
(sections 9.3, 2.3 to 2.5).
-/

namespace Sys2Proof.Machine

/-! ## Own frames and the own orders among them -/

/-- Own frames that add the orders `os` at the tail of the own orders. -/
structure Emits (os : List OwnOrder) (s t : State) : Prop where
  own : Own s t
  frames : s.portSound → OwnFramesOnly s t
  orders : s.portSound → t.ownOrders = s.ownOrders ++ os
  waiting : t.ring.orders.length ≤ s.ring.orders.length + os.length

theorem OwnFramesOnly.refl (s : State) : OwnFramesOnly s s := ⟨_, _, _, _, _, _, _, rfl⟩

theorem OwnFramesOnly.trans {a b c : State} (h : OwnFramesOnly a b) (k : OwnFramesOnly b c) : OwnFramesOnly a c := by
  obtain ⟨_, _, _, _, _, _, _, rfl⟩ := h
  obtain ⟨_, _, _, _, _, _, _, rfl⟩ := k
  exact ⟨_, _, _, _, _, _, _, rfl⟩

theorem ReportsOnly.ownFramesOnly {s t : State} (h : ReportsOnly s t) : OwnFramesOnly s t := by
  obtain ⟨_, _, _, _, _, _, rfl⟩ := h
  exact ⟨_, _, _, _, _, _, _, rfl⟩

theorem OwnFramesOnly.map {g : State → State} (hg : Silent g) {s t : State} (h : OwnFramesOnly s t) : OwnFramesOnly (g s) (g t) := by
  obtain ⟨x, run, q, l, w, os, p, rfl⟩ := h
  refine ⟨x, run, q, l, w, os, p, ?_⟩
  rw [hg.commutes, hg.ring]

theorem Own.portSound {s t : State} (h : Own s t) (sound : s.portSound) : t.portSound := by
  obtain ⟨r, p, rfl, -, kept⟩ := h
  exact kept sound

theorem Own.map {g : State → State} (hg : Silent g) {s t : State} (h : Own s t) : Own (g s) (g t) := by
  obtain ⟨r, p, rfl, kept, port⟩ := h
  refine ⟨r, p, hg.commutes s r p, ?_, ?_⟩ <;> rw [hg.ring, hg.rep] <;> assumption

theorem Own.ringOnly {s t : State} (h : Own s t) : RingOnly s t := by
  obtain ⟨r, p, rfl, kept, -⟩ := h
  exact ⟨r, p, rfl, kept.continuity⟩

theorem Emits.refl (s : State) : Emits [] s s := ⟨.refl s, fun _ => .refl s, fun _ => (List.append_nil _).symm, Nat.le_refl _⟩

theorem Emits.trans {os os' : List OwnOrder} {a b c : State} (h : Emits os a b) (k : Emits os' b c) : Emits (os ++ os') a c where
  own := h.own.trans k.own
  frames sound := (h.frames sound).trans (k.frames (h.own.portSound sound))
  orders sound := by rw [k.orders (h.own.portSound sound), h.orders sound, List.append_assoc]
  waiting := by
    have := h.waiting
    have := k.waiting
    rw [List.length_append]
    omega

theorem Silent.ownOrders {g : State → State} (hg : Silent g) (s : State) : (g s).ownOrders = s.ownOrders := by
  rw [State.ownOrders, hg.ring]
  rfl

theorem Emits.map {g : State → State} (hg : Silent g) {os : List OwnOrder} {s t : State} (h : Emits os s t) : Emits os (g s) (g t) where
  own := h.own.map hg
  frames sound := (h.frames (by rw [State.portSound, ← hg.ring, ← hg.rep]; exact sound)).map hg
  orders sound := by
    rw [hg.ownOrders, hg.ownOrders]
    exact h.orders (by rw [State.portSound, ← hg.ring, ← hg.rep]; exact sound)
  waiting := by
    rw [hg.ring, hg.ring]
    exact h.waiting

/-- The port takes from the order queue, if anything. -/
theorem State.pump_waiting (s : State) : s.pump.ring.orders.length ≤ s.ring.orders.length := by
  unfold State.pump
  split
  · exact Nat.le_refl _
  · unfold State.chooseNext
    split
    · unfold State.sendForward
      split <;> exact Nat.le_refl _
    · split
      · unfold State.sendOrder
        split
        · exact Nat.le_refl _
        case h_2 o rest h => rw [h]; exact Nat.le_succ _
      · unfold State.sendReport
        split
        · exact Nat.le_refl _
        · obtain ⟨q, l, w, shape⟩ := Ring.remember_shape s.ring s.now s.plant.returnTimeout kReport
          rw [shape]

/-- A notice adds no order. -/
theorem State.joinReports_ownOrders {s : State} (h : s.portSound) (r : Report) : (s.joinReports r).ownOrders = s.ownOrders := by
  by_cases hs : s.ring.sending = none
  · obtain ⟨hf, ho, hq⟩ := h hs
    obtain ⟨q, l, w, shape⟩ := Ring.remember_shape s.ring s.now s.plant.returnTimeout kReport
    rw [State.joinReports_idle hs hf ho hq, shape]
    simp only [State.ownOrders, hs, ho]
  · rw [State.joinReports_busy hs]
    rfl

theorem State.offerNotice_emits {s : State} (n : Notice) : Emits [] s (s.offerNotice n) := by
  refine ⟨s.offerNotice_own n, fun sound => (State.offerNotice_reportsOnly sound n).1.ownFramesOnly, fun sound => ?_, ?_⟩
  · rw [List.append_nil]
    unfold State.offerNotice
    split
    · exact State.joinReports_ownOrders (s := { s with rep := { s.rep with lostNotice := 0 } }) (State.portSound_rep sound rfl) _
    · rfl
  · unfold State.offerNotice
    split
    · exact State.pump_waiting _
    · exact Nat.le_refl _

theorem State.notify_emits (s : State) (n : NoticeName) (x : SourceRecord) (l : List Item) : Emits [] s (s.notify n x l) := by
  unfold State.notify State.notifyAs
  split
  · exact s.offerNotice_emits _
  · exact .refl s

/-- An order at the tail of the order queue. -/
def State.queued (s : State) (x : OwnOrder) : State := { s with ring := { s.ring with orders := s.ring.orders ++ [x] } }

/-- At an idle port an order leaves at once. -/
theorem State.pump_queued_idle {s : State} (sound : s.portSound) (hs : s.ring.sending = none) (x : OwnOrder) :
    ∃ q l w, (s.queued x).pump = { s with ring := { s.ring with
      sending := some (.order s.ring.seqNo x), orders := [], run := 0, seqNo := q, returns := l, watch := w } } := by
  obtain ⟨hf, ho, hq⟩ := sound hs
  have one : (s.queued x).ring.orders = [x] := by
    change s.ring.orders ++ [x] = [x]
    rw [ho]
    rfl
  obtain ⟨q, l, w, shape⟩ := Ring.remember_shape (s.queued x).ring s.now s.plant.returnTimeout kOrder
  refine ⟨q, l, w, ?_⟩
  have now : (s.queued x).ring.remember (s.queued x).now (s.queued x).plant.returnTimeout kOrder = _ := shape
  rw [State.pump, show (s.queued x).ring.sending = none from hs]
  dsimp only
  rw [State.chooseNext_order (s := s.queued x) (.inl hf) one, now]
  rfl

/-- An order placed in the order queue leaves last of the own orders. -/
theorem State.place_emits {s : State} (h : s.orderRoom = true) (n : Nat) (o : Order) (v : Int) :
    Emits [⟨BitVec.ofNat 8 n, o, v⟩] s (s.place n o v) := by
  have placed : s.place n o v = (s.queued ⟨BitVec.ofNat 8 n, o, v⟩).pump := rfl
  refine ⟨s.place_own h n o v, fun sound => ?_, fun sound => ?_, ?_⟩
  · by_cases hs : s.ring.sending = none
    · obtain ⟨q, l, w, sent⟩ := State.pump_queued_idle sound hs ⟨BitVec.ofNat 8 n, o, v⟩
      rw [placed, sent]
      exact ⟨_, _, _, _, _, _, _, rfl⟩
    · rw [placed, State.pump_busy (s := s.queued _) hs]
      exact ⟨_, _, _, _, _, _, _, rfl⟩
  · by_cases hs : s.ring.sending = none
    · obtain ⟨q, l, w, sent⟩ := State.pump_queued_idle sound hs ⟨BitVec.ofNat 8 n, o, v⟩
      rw [placed, sent]
      simp only [State.ownOrders, hs, (sound hs).2.1]
      rfl
    · rw [placed, State.pump_busy (s := s.queued _) hs]
      exact (List.append_assoc _ _ _).symm
  · rw [placed]
    exact (State.pump_waiting _).trans (List.length_append ▸ Nat.le_refl _)

/-! ## What own frames leave of the caverns -/

theorem State.pressure_congr {s t : State} (hc : t.chans = s.chans) {c : Fin 4} (hp : (t.cavern c).p.channel = (s.cavern c).p.channel) :
    t.pressure c = s.pressure c := by
  unfold State.pressure State.viewOf State.chanAt State.chan
  rw [hp, hc]

theorem State.pressure_setCavern {s : State} {c : Fin 4} {x : Cavern} (h : x.p = (s.cavern c).p) (d : Fin 4) :
    (s.setCavern c x).pressure d = s.pressure d := by
  refine State.pressure_congr (s := s) (t := s.setCavern c x) rfl ?_
  rw [State.cavern_setCavern]
  split
  case isTrue e => rw [e, h]
  case isFalse => rfl

theorem RingOnly.cavern {s t : State} (h : RingOnly s t) (c : Fin 4) : t.cavern c = s.cavern c := by
  obtain ⟨_, _, rfl, -⟩ := h
  rfl

theorem RingOnly.pressure {s t : State} (h : RingOnly s t) (c : Fin 4) : t.pressure c = s.pressure c := by
  obtain ⟨_, _, rfl, -⟩ := h
  rfl

theorem RingOnly.now {s t : State} (h : RingOnly s t) : t.now = s.now := by
  obtain ⟨_, _, rfl, -⟩ := h
  rfl

/-! ## Isolation -/

theorem ManifoldState.flow_eq_some {m : ManifoldState} {d : Direction} : m.flow = some d ↔ m = d.state := by
  cases m <;> cases d <;> simp [ManifoldState.flow, Direction.state]

/-- A cavern is to be shut: it reaches the limit of the direction of flow. -/
structure Cavern.Shuts (x : Cavern) (q : Quality) (m : ManifoldState) (d : Direction) : Prop where
  flows : m = d.state
  present : x.p.present = true
  limit : x.factor d = 0
  seen : q ≠ .none
  valve : x.valve = .opened ∨ x.valve = .opening
  unmarked : x.mark = .none

theorem Cavern.meetsIsolation_iff (x : Cavern) (q : Quality) (m : ManifoldState) :
    x.meetsIsolation q m = true ↔ ∃ d, x.Shuts q m d := by
  unfold Cavern.meetsIsolation
  constructor
  · split
    · exact fun h => nomatch h
    case h_2 d hd =>
      simp only [Bool.and_eq_true, beq_iff_eq, bne_iff_ne, Bool.or_eq_true]
      rintro ⟨⟨⟨⟨hp, hl⟩, hq⟩, hv⟩, hm⟩
      exact ⟨d, ManifoldState.flow_eq_some.mp hd, hp, hl, hq, hv, hm⟩
  · rintro ⟨d, hf, hp, hl, hq, hv, hm⟩
    rw [ManifoldState.flow_eq_some.mpr hf]
    simp only [Bool.and_eq_true, beq_iff_eq, bne_iff_ne, Bool.or_eq_true]
    exact ⟨⟨⟨⟨hp, hl⟩, hq⟩, hv⟩, hm⟩

/-- A cavern ordered closed for a direction. -/
def Cavern.shut (x : Cavern) (d : Direction) (now : Nat) : Cavern :=
  { x with valve := .closing, timer := some (now + x.p.travel * 1000), mark := d.mark }

theorem State.isolate_full {s : State} {c : Fin 4} (h : (s.cavern c).meetsIsolation (s.pressure c).quality s.manifold.state = true)
    (full : s.orderRoom = false) : s.isolate c = s.cavernQueueFull c .valveClose := by
  rw [State.isolate, if_pos h, full]
  rfl

/-- A cavern at the limit is closed, where the order finds room. -/
theorem State.isolate_room {s : State} {c : Fin 4} {d : Direction} (h : (s.cavern c).Shuts (s.pressure c).quality s.manifold.state d)
    (room : s.orderRoom = true) : s.isolate c =
      ((s.place (s.cavern c).p.node .valveClose 0).setCavern c ((s.cavern c).shut d s.now)).notify .cavernIsolated (.cavern c)
        [.fig c.val, .code d.mark.num, .fig (s.pressure c).avg] := by
  have ring := s.place_ringOnly (s.cavern c).p.node .valveClose 0
  have set : ((s.place (s.cavern c).p.node .valveClose 0).setValve c .closing).setMark c d.mark =
      (s.place (s.cavern c).p.node .valveClose 0).setCavern c ((s.cavern c).shut d s.now) := by
    rw [State.setValve_setMark, if_pos (.inr rfl), State.after, ring.cavern, ring.now, Cavern.shut]
  have seen : ((s.place (s.cavern c).p.node .valveClose 0).setCavern c ((s.cavern c).shut d s.now)).pressure c = s.pressure c := by
    rw [State.pressure_setCavern (by rw [ring.cavern]; rfl), ring.pressure]
  rw [State.isolate, if_pos ((Cavern.meetsIsolation_iff _ _ _).mpr ⟨d, h⟩), if_pos room, ManifoldState.flow_eq_some.mpr h.flows]
  dsimp only
  rw [set, seen]

/-! ## Reopening -/

/-- A cavern is to be opened: marked for the direction other than that of flow, and CLOSED or UNKNOWN. -/
def Cavern.Opens (x : Cavern) (m : ManifoldState) : Prop :=
  x.p.present = true ∧ (x.valve = .closed ∨ x.valve = .unknown) ∧
    ((x.mark = .low ∧ m = .charge) ∨ (x.mark = .high ∧ m = .discharge))

theorem Cavern.meetsReopening_iff (x : Cavern) (m : ManifoldState) : x.meetsReopening m = true ↔ x.Opens m := by
  unfold Cavern.meetsReopening Cavern.Opens
  cases m <;> cases x.mark <;> simp [ManifoldState.flow, Mark.dir]

/-- A cavern ordered open. -/
def Cavern.open' (x : Cavern) (now : Nat) : Cavern :=
  { x with valve := .opening, timer := some (now + x.p.travel * 1000), mark := .none }

theorem State.reopen_unmet {s : State} {c : Fin 4} (h : ¬ (s.mode.mode = .auto ∧ (s.cavern c).Opens s.manifold.state)) : s.reopen c = s := by
  rw [State.reopen, if_neg]
  rwa [Cavern.meetsReopening_iff]

theorem State.reopen_full {s : State} {c : Fin 4} (h : s.mode.mode = .auto ∧ (s.cavern c).Opens s.manifold.state)
    (full : s.orderRoom = false) : s.reopen c = s.cavernQueueFull c .valveOpen := by
  rw [State.reopen, if_pos (by rwa [Cavern.meetsReopening_iff]), full]
  rfl

/-- A cavern marked for the other direction is opened and judged for isolation, where the order finds room. -/
theorem State.reopen_room {s : State} {c : Fin 4} (h : s.mode.mode = .auto ∧ (s.cavern c).Opens s.manifold.state)
    (room : s.orderRoom = true) : s.reopen c =
      (((s.place (s.cavern c).p.node .valveOpen 0).setCavern c ((s.cavern c).open' s.now)).notify .cavernReopened (.cavern c) []).isolate c := by
  have ring := s.place_ringOnly (s.cavern c).p.node .valveOpen 0
  have set : ((s.place (s.cavern c).p.node .valveOpen 0).setValve c .opening).setMark c .none =
      (s.place (s.cavern c).p.node .valveOpen 0).setCavern c ((s.cavern c).open' s.now) := by
    rw [State.setValve_setMark, if_pos (.inl rfl), State.after, ring.cavern, ring.now, Cavern.open']
  rw [State.reopen, if_pos (by rwa [Cavern.meetsReopening_iff]), if_pos room]
  dsimp only
  rw [set]

/-! ## RATE_HOLD -/

theorem State.evalHold_eq {s : State} {c : Fin 4} (hp : (s.cavern c).p.present = true) :
    s.evalHold c = if (s.cavern c).holdAfter (s.pressure c).quality s.manifold.state = (s.cavern c).hold then s
      else (s.setCavern c { s.cavern c with hold := (s.cavern c).holdAfter (s.pressure c).quality s.manifold.state }).notify
        (if (s.cavern c).holdAfter (s.pressure c).quality s.manifold.state then .rateHold else .rateHoldEnd) (.cavern c)
        (if (s.cavern c).holdAfter (s.pressure c).quality s.manifold.state
          then [.fig c.val, .fig (s.cavern c).rate, .code (s.pressure c).quality.num] else []) := by
  unfold State.evalHold
  dsimp only
  simp only [hp, reduceCtorEq, false_or]
  split
  · rfl
  · split <;> rfl

theorem Quality.usable_eq_false (q : Quality) : q.usable = false ↔ q = .stale ∨ q = .none := by
  cases q <;> simp [Quality.usable]

theorem ManifoldState.flow_eq_none (m : ManifoldState) : m.flow = none ↔ m ≠ .charge ∧ m ≠ .discharge := by
  cases m <;> simp [ManifoldState.flow]

end Sys2Proof.Machine

open Sys2Proof Sys2Proof.Machine

/-- Settles O13: isolation, reopening and RATE_HOLD of one cavern, and the rate of a list. -/
theorem cavernsAnswer : Obligations.CavernsAnswer := by
  refine ⟨fun s c => ?_, fun l old new ho hn => ⟨fun h2 hd => ?_, fun h => ?_⟩⟩
  · intro x q travel shuts opens full
    refine ⟨?_, fun h => ?_, fun h => ?_, fun h => ?_, ?_⟩
    · intro d hd mark
      obtain ⟨h1, h2, h3, h4, h5, h6⟩ := hd
      have shut : x.Shuts q s.manifold.state d := ⟨h1, h2, h3, h4, h5, h6⟩
      refine ⟨fun room => ?_, fun lacks => ?_⟩
      · rw [State.isolate_room shut (s.orderRoom_iff.mpr room)]
        cases d <;> rfl
      · exact State.isolate_full ((Cavern.meetsIsolation_iff _ _ _).mpr ⟨d, shut⟩) (s.orderRoom_eq_false_iff.mpr lacks)
    · refine State.isolate_unmet (Bool.eq_false_iff.mpr fun met => ?_)
      obtain ⟨d, shut⟩ := (Cavern.meetsIsolation_iff _ _ _).mp met
      exact h d ⟨shut.flows, shut.present, shut.limit, shut.seen, shut.valve, shut.unmarked⟩
    · exact ⟨fun room => State.reopen_room h (s.orderRoom_iff.mpr room), fun lacks => State.reopen_full h (s.orderRoom_eq_false_iff.mpr lacks)⟩
    · exact State.reopen_unmet h
    · intro hp hold
      have after : x.holdAfter q s.manifold.state = hold := by
        simp only [hold, Cavern.holdAfter, Quality.usable_eq_false, ManifoldState.flow_eq_none]
      refine ⟨after, ?_⟩
      rw [State.evalHold_eq hp, show (s.cavern c).holdAfter (s.pressure c).quality s.manifold.state = hold from after]
  · rw [rateOf, ho, hn]
    dsimp only
    rw [if_pos ⟨h2, hd⟩, sat32, clampTo_eq (by decide)]
  · rw [rateOf, ho, hn]
    dsimp only
    rw [if_neg (by omega)]

end
section
/-!
PROOFS. Isolation, reopening and RATE_HOLD over the caverns, and what a change of the manifold leaves (sections 2.3 to 2.6).
-/

namespace Sys2Proof.Machine

/-! ## Work on the caverns -/

/-- The caverns replaced. -/
theorem State.withCaverns_silent (v : Vector Cavern 4) : Silent (fun s : State => { s with caverns := v }) :=
  ⟨fun _ _ _ => rfl, fun _ => rfl, fun _ => rfl⟩

/-- Only cavern records move, none of their parameters among them, with at most `k` own orders. -/
structure CavernsOnly (k : Nat) (s t : State) : Prop where
  orders : ∃ os, Emits os { s with caverns := t.caverns } t ∧ os.length ≤ k
  p : ∀ c, (t.cavern c).p = (s.cavern c).p

/-- The valves, timers, marks and RATE_HOLD of caverns move, with at most `k` valve orders of present caverns. -/
structure CavernWork (k : Nat) (s t : State) : Prop where
  orders : ∃ os, Emits os { s with caverns := t.caverns } t ∧ os.length ≤ k ∧
    ∀ o ∈ os, o.order.isValve = true ∧ ∃ c, (s.cavern c).p.present = true ∧ o.dest = BitVec.ofNat 8 (s.cavern c).p.node
  record : ∀ c, ∃ v w m h, t.cavern c = { s.cavern c with valve := v, timer := w, mark := m, hold := h }

theorem CavernWork.refl (k : Nat) (s : State) : CavernWork k s s :=
  ⟨⟨[], .refl s, Nat.zero_le k, nofun⟩, fun _ => ⟨_, _, _, _, rfl⟩⟩

theorem CavernWork.p {k : Nat} {s t : State} (h : CavernWork k s t) (c : Fin 4) : (t.cavern c).p = (s.cavern c).p := by
  obtain ⟨_, _, _, _, e⟩ := h.record c
  rw [e]

theorem CavernWork.only {k : Nat} {s t : State} (h : CavernWork k s t) : CavernsOnly k s t := by
  obtain ⟨os, emits, few, -⟩ := h.orders
  exact ⟨⟨os, emits, few⟩, h.p⟩

theorem CavernsOnly.trans {j k : Nat} {a b c : State} (h : CavernsOnly j a b) (g : CavernsOnly k b c) : CavernsOnly (j + k) a c where
  orders := by
    obtain ⟨os, he, hl⟩ := h.orders
    obtain ⟨os', ge, gl⟩ := g.orders
    exact ⟨os ++ os', (he.map (State.withCaverns_silent c.caverns)).trans ge, by rw [List.length_append]; omega⟩
  p d := (g.p d).trans (h.p d)

theorem CavernsOnly.mono {j k : Nat} {s t : State} (h : CavernsOnly j s t) (hk : j ≤ k) : CavernsOnly k s t where
  orders := by
    obtain ⟨os, he, hl⟩ := h.orders
    exact ⟨os, he, hl.trans hk⟩
  p := h.p

theorem CavernWork.trans {j k : Nat} {a b c : State} (h : CavernWork j a b) (g : CavernWork k b c) : CavernWork (j + k) a c where
  orders := by
    obtain ⟨os, he, hl, hv⟩ := h.orders
    obtain ⟨os', ge, gl, gv⟩ := g.orders
    refine ⟨os ++ os', (he.map (State.withCaverns_silent c.caverns)).trans ge, by rw [List.length_append]; omega, fun o ho => ?_⟩
    rcases List.mem_append.mp ho with ho | ho
    · exact hv o ho
    · obtain ⟨valve, d, present, dest⟩ := gv o ho
      rw [h.p] at present dest
      exact ⟨valve, d, present, dest⟩
  record d := by
    obtain ⟨_, _, _, _, e⟩ := h.record d
    obtain ⟨v, w, m, x, e'⟩ := g.record d
    exact ⟨v, w, m, x, by rw [e', e]⟩

theorem CavernWork.mono {j k : Nat} {s t : State} (h : CavernWork j s t) (hk : j ≤ k) : CavernWork k s t where
  orders := by
    obtain ⟨os, he, hl, hv⟩ := h.orders
    exact ⟨os, he, hl.trans hk, hv⟩
  record := h.record

/-- Own frames without orders. -/
theorem CavernWork.of_emits {s t : State} (h : Emits [] s t) : CavernWork 0 s t where
  orders := by
    have same : t.caverns = s.caverns := h.own.agree .caverns (by decide)
    exact ⟨[], by rw [same]; exact h, Nat.le_refl _, nofun⟩
  record c := by
    rw [h.own.ringOnly.cavern]
    exact ⟨_, _, _, _, rfl⟩

/-- Orders of a present cavern, its record, and own frames. -/
theorem CavernWork.of_set {s u t : State} {c : Fin 4} {y : Cavern} {os : List OwnOrder} (h : Emits os s u) (g : Emits [] (u.setCavern c y) t)
    (hy : ∃ v w m x, y = { s.cavern c with valve := v, timer := w, mark := m, hold := x })
    (ho : ∀ o ∈ os, o.order.isValve = true ∧ (s.cavern c).p.present = true ∧ o.dest = BitVec.ofNat 8 (s.cavern c).p.node) :
    CavernWork os.length s t where
  orders := by
    have same : t.caverns = (u.setCavern c y).caverns := g.own.agree .caverns (by decide)
    have placed : Emits os { s with caverns := t.caverns } (u.setCavern c y) := by
      rw [same]
      exact h.map (State.withCaverns_silent (u.setCavern c y).caverns)
    refine ⟨os, ?_, Nat.le_refl _, fun o mem => ?_⟩
    · simpa only [List.append_nil] using placed.trans g
    · obtain ⟨valve, present, dest⟩ := ho o mem
      exact ⟨valve, c, present, dest⟩
  record d := by
    rw [g.own.ringOnly.cavern, State.cavern_setCavern]
    split
    case isTrue e => exact e ▸ hy
    case isFalse =>
      rw [h.own.ringOnly.cavern]
      exact ⟨_, _, _, _, rfl⟩

/-- Work on the caverns leaves what their rules look at. -/
theorem CavernsOnly.ground {k : Nat} {s t : State} (h : CavernsOnly k s t) :
    t.manifold = s.manifold ∧ t.mode = s.mode ∧ t.now = s.now ∧ (∀ c, t.pressure c = s.pressure c) ∧
      t.ring.orders.length ≤ s.ring.orders.length + k := by
  obtain ⟨os, he, hl⟩ := h.orders
  obtain ⟨r, p, own, -⟩ := he.own
  have waiting := he.waiting
  refine ⟨by rw [own], by rw [own], by rw [own], fun c => State.pressure_congr (by rw [own]) (by rw [h.p]), ?_⟩
  exact waiting.trans (Nat.add_le_add_left hl _)

theorem CavernWork.foldl {k : Nat} {f : State → Fin 4 → State} (h : ∀ s c, CavernWork k s (f s c)) (l : List (Fin 4)) (s : State) :
    CavernWork (k * l.length) s (l.foldl f s) := by
  induction l generalizing s with
  | nil => exact .refl _ s
  | cons c l ih => exact ((h s c).trans (ih (f s c))).mono (by rw [List.length_cons, Nat.mul_succ]; omega)

/-! ## One cavern -/

/-- What a rule makes of a cavern record at a pressure quality, a manifold state, in AUTO or not, at an instant. -/
abbrev CavernRule := Cavern → Quality → ManifoldState → Bool → Nat → Cavern

/-- Limit isolation of a record (R34), where the order finds room. -/
def Cavern.isolated : CavernRule := fun x q m _ now =>
  match m.flow with
  | none => x
  | some d => if x.meetsIsolation q m then x.shut d now else x

/-- Reopening of a record (R36), where the orders find room. -/
def Cavern.reopened : CavernRule := fun x q m auto now =>
  if auto ∧ x.meetsReopening m then (x.open' now).isolated q m auto now else x

/-- RATE_HOLD of a record (R32). -/
def Cavern.rated : CavernRule := fun x q m _ _ => { x with hold := if x.p.present then x.holdAfter q m else x.hold }

/-- How a rule may change a cavern record, under the same conditions. -/
abbrev CavernRelation := Cavern → Quality → ManifoldState → Bool → Nat → Cavern → Prop

/-- The relation of a rule that leaves no choice. -/
abbrev CavernRule.rel (g : CavernRule) : CavernRelation := fun x q m auto now y => y = g x q m auto now

/-- `f` works on the one cavern it is given, as `R` allows; where `needs` is set, if `k` orders find room. -/
structure OneCavern (k : Nat) (needs : Bool) (f : State → Fin 4 → State) (R : CavernRelation) : Prop where
  work : ∀ s c, CavernsOnly k s (f s c)
  other : ∀ s c d, d ≠ c → (f s c).cavern d = s.cavern d
  value : ∀ s c, (needs = true → s.ring.orders.length + k ≤ 16) →
    R (s.cavern c) (s.pressure c).quality s.manifold.state (s.mode.mode == .auto) s.now ((f s c).cavern c)

section
variable {k : Nat} {needs : Bool} {f : State → Fin 4 → State} {R : CavernRelation} {g : CavernRule}

theorem CavernsOnly.refl (k : Nat) (s : State) : CavernsOnly k s s := (CavernWork.refl k s).only

/-- Work on every cavern of a list. -/
theorem OneCavern.work_foldl (h : OneCavern k needs f R) (l : List (Fin 4)) (s : State) : CavernsOnly (k * l.length) s (l.foldl f s) := by
  induction l generalizing s with
  | nil => exact .refl _ s
  | cons c l ih => exact ((h.work s c).trans (ih (f s c))).mono (by rw [List.length_cons, Nat.mul_succ]; omega)

theorem OneCavern.other_foldl (h : OneCavern k needs f R) {l : List (Fin 4)} {d : Fin 4} (hd : d ∉ l) (s : State) :
    (l.foldl f s).cavern d = s.cavern d := by
  induction l generalizing s with
  | nil => rfl
  | cons c l ih =>
    rw [List.mem_cons, not_or] at hd
    exact (ih hd.2 (f s c)).trans (h.other s c d hd.1)

/-- Each cavern of a list follows the relation, where the orders it needs find room. -/
theorem OneCavern.value_foldl (h : OneCavern k needs f R) {l : List (Fin 4)} (hl : l.Nodup) {d : Fin 4} (hd : d ∈ l) {s : State}
    (room : needs = true → s.ring.orders.length + k * l.length ≤ 16) :
    R (s.cavern d) (s.pressure d).quality s.manifold.state (s.mode.mode == .auto) s.now ((l.foldl f s).cavern d) := by
  induction l generalizing s with
  | nil => exact nomatch hd
  | cons c l ih =>
    obtain ⟨fresh, nodup⟩ := List.nodup_cons.mp hl
    rw [List.length_cons, Nat.mul_succ] at room
    obtain ⟨manifold, mode, now, pressure, waiting⟩ := (h.work s c).ground
    by_cases e : d = c
    · subst e
      rw [List.foldl_cons, h.other_foldl fresh]
      exact h.value s d fun n => by have := room n; omega
    · have rest := ih nodup (List.mem_of_ne_of_mem e hd) (s := f s c) (fun n => by have := room n; omega)
      rwa [h.other s c d e, manifold, mode, now, pressure] at rest

theorem OneCavern.rule_foldl (h : OneCavern k needs f g.rel) {l : List (Fin 4)} (hl : l.Nodup) {d : Fin 4} (hd : d ∈ l) {s : State}
    (room : needs = true → s.ring.orders.length + k * l.length ≤ 16) :
    (l.foldl f s).cavern d = g (s.cavern d) (s.pressure d).quality s.manifold.state (s.mode.mode == .auto) s.now :=
  h.value_foldl hl hd room

theorem OneCavern.rule (h : OneCavern k needs f g.rel) {s : State} {c : Fin 4} (room : needs = true → s.ring.orders.length + k ≤ 16) :
    (f s c).cavern c = g (s.cavern c) (s.pressure c).quality s.manifold.state (s.mode.mode == .auto) s.now := h.value s c room

end

theorem mem_cavernNumbers (c : Fin 4) : c ∈ cavernNumbers := by revert c; decide

theorem cavernNumbers_nodup : cavernNumbers.Nodup := by decide

/-! ## Isolation, reopening and RATE_HOLD -/

theorem State.cavernQueueFull_emits (s : State) (c : Fin 4) (o : Order) : Emits [] s (s.cavernQueueFull c o) := s.notify_emits _ _ _

/-- How isolation ends: no order, no room, or the cavern is shut. -/
theorem State.isolate_cases (s : State) (c : Fin 4) :
    (s.isolate c = s ∧ (s.cavern c).meetsIsolation (s.pressure c).quality s.manifold.state = false) ∨
    (s.isolate c = s.cavernQueueFull c .valveClose ∧ s.orderRoom = false) ∨
    (∃ d l, (s.cavern c).Shuts (s.pressure c).quality s.manifold.state d ∧ s.orderRoom = true ∧ s.isolate c =
      ((s.place (s.cavern c).p.node .valveClose 0).setCavern c ((s.cavern c).shut d s.now)).notify .cavernIsolated (.cavern c) l) := by
  by_cases met : (s.cavern c).meetsIsolation (s.pressure c).quality s.manifold.state = true
  · cases room : s.orderRoom with
    | false => exact .inr (.inl ⟨State.isolate_full met room, rfl⟩)
    | true =>
      obtain ⟨d, shuts⟩ := (Cavern.meetsIsolation_iff _ _ _).mp met
      exact .inr (.inr ⟨d, _, shuts, rfl, State.isolate_room shuts room⟩)
  · exact .inl ⟨State.isolate_unmet (Bool.eq_false_iff.mpr met), Bool.eq_false_iff.mpr met⟩

theorem State.isolate_work (s : State) (c : Fin 4) : CavernWork 1 s (s.isolate c) := by
  obtain ⟨same, -⟩ | ⟨full, -⟩ | ⟨d, l, shuts, room, shut⟩ := s.isolate_cases c
  · rw [same]
    exact .refl 1 s
  · exact full ▸ (CavernWork.of_emits (s.cavernQueueFull_emits c _)).mono (Nat.zero_le _)
  · rw [shut]
    refine CavernWork.of_set (State.place_emits room _ _ _) (State.notify_emits _ _ _ _) ⟨_, _, _, _, rfl⟩ fun o mem => ?_
    rw [List.mem_singleton.mp mem]
    exact ⟨rfl, shuts.present, rfl⟩

theorem State.isolate_one : OneCavern 1 true State.isolate (CavernRule.rel Cavern.isolated) where
  work s c := (s.isolate_work c).only
  other s c d hd := by
    obtain ⟨same, -⟩ | ⟨full, -⟩ | ⟨d', l, -, -, shut⟩ := s.isolate_cases c
    · rw [same]
    · rw [full, (s.cavernQueueFull_emits c _).own.ringOnly.cavern]
    · rw [shut, (State.notify_emits _ _ _ _).own.ringOnly.cavern, State.cavern_setCavern, if_neg hd, (s.place_ringOnly _ _ _).cavern]
  value s c room := by
    change (s.isolate c).cavern c = Cavern.isolated _ _ _ _ _
    obtain ⟨same, unmet⟩ | ⟨-, full⟩ | ⟨d, l, shuts, -, shut⟩ := s.isolate_cases c
    · rw [same, Cavern.isolated, unmet]
      split <;> rfl
    · have := s.orderRoom_eq_false_iff.mp full
      have := room rfl
      omega
    · rw [shut, (State.notify_emits _ _ _ _).own.ringOnly.cavern, State.cavern_setCavern_same, Cavern.isolated,
        ManifoldState.flow_eq_some.mpr shuts.flows, (Cavern.meetsIsolation_iff _ _ _).mpr ⟨d, shuts⟩]
      rfl

/-- How reopening ends: no order, no room, or the cavern is opened and judged for isolation. -/
theorem State.reopen_cases (s : State) (c : Fin 4) :
    (s.reopen c = s ∧ ¬ (s.mode.mode = .auto ∧ (s.cavern c).Opens s.manifold.state)) ∨
    (s.reopen c = s.cavernQueueFull c .valveOpen ∧ s.orderRoom = false) ∨
    (s.mode.mode = .auto ∧ (s.cavern c).Opens s.manifold.state ∧ s.orderRoom = true ∧ s.reopen c =
      (((s.place (s.cavern c).p.node .valveOpen 0).setCavern c ((s.cavern c).open' s.now)).notify .cavernReopened (.cavern c) []).isolate c) := by
  by_cases met : s.mode.mode = .auto ∧ (s.cavern c).Opens s.manifold.state
  · cases room : s.orderRoom with
    | false => exact .inr (.inl ⟨State.reopen_full met room, rfl⟩)
    | true => exact .inr (.inr ⟨met.1, met.2, rfl, State.reopen_room met room⟩)
  · exact .inl ⟨State.reopen_unmet met, met⟩

/-- A cavern that is ordered open. -/
theorem State.opened_work {s : State} {c : Fin 4} (room : s.orderRoom = true) (present : (s.cavern c).p.present = true) :
    CavernWork 1 s (((s.place (s.cavern c).p.node .valveOpen 0).setCavern c ((s.cavern c).open' s.now)).notify .cavernReopened (.cavern c) []) := by
  refine CavernWork.of_set (State.place_emits room _ _ _) (State.notify_emits _ _ _ _) ⟨_, _, _, _, rfl⟩ fun o mem => ?_
  rw [List.mem_singleton.mp mem]
  exact ⟨rfl, present, rfl⟩

theorem State.opened_cavern (s : State) (c d : Fin 4) :
    (((s.place (s.cavern c).p.node .valveOpen 0).setCavern c ((s.cavern c).open' s.now)).notify .cavernReopened (.cavern c) []).cavern d =
      if d = c then (s.cavern c).open' s.now else s.cavern d := by
  rw [(State.notify_emits _ _ _ _).own.ringOnly.cavern, State.cavern_setCavern, (s.place_ringOnly _ _ _).cavern]

theorem State.reopen_work (s : State) (c : Fin 4) : CavernWork 2 s (s.reopen c) := by
  obtain ⟨same, -⟩ | ⟨full, -⟩ | ⟨-, opens, room, reopened⟩ := s.reopen_cases c
  · rw [same]
    exact .refl 2 s
  · exact full ▸ (CavernWork.of_emits (s.cavernQueueFull_emits c _)).mono (Nat.zero_le _)
  · exact reopened ▸ (State.opened_work room opens.1).trans (State.isolate_work _ c)

theorem State.reopen_one : OneCavern 2 true State.reopen (CavernRule.rel Cavern.reopened) where
  work s c := (s.reopen_work c).only
  other s c d hd := by
    obtain ⟨same, -⟩ | ⟨full, -⟩ | ⟨-, -, -, reopened⟩ := s.reopen_cases c
    · rw [same]
    · rw [full, (s.cavernQueueFull_emits c _).own.ringOnly.cavern]
    · rw [reopened, State.isolate_one.other _ c d hd, State.opened_cavern, if_neg hd]
  value s c room := by
    change (s.reopen c).cavern c = Cavern.reopened _ _ _ _ _
    obtain ⟨same, unmet⟩ | ⟨-, full⟩ | ⟨auto, opens, free, reopened⟩ := s.reopen_cases c
    · rw [same, Cavern.reopened, if_neg]
      rw [Cavern.meetsReopening_iff, beq_iff_eq]
      exact unmet
    · have := s.orderRoom_eq_false_iff.mp full
      have := room rfl
      omega
    · obtain ⟨manifold, mode, now, pressure, waiting⟩ := (State.opened_work free opens.1).only.ground
      have few := room rfl
      rw [reopened, State.isolate_one.rule (fun _ => by omega), State.opened_cavern, if_pos rfl, manifold, mode, now, pressure,
        Cavern.reopened, if_pos ⟨beq_iff_eq.mpr auto, (Cavern.meetsReopening_iff _ _).mpr opens⟩]

theorem State.evalHold_work (s : State) (c : Fin 4) : CavernWork 0 s (s.evalHold c) := by
  cases hp : (s.cavern c).p.present with
  | false => rw [State.evalHold, if_pos (.inl hp)]; exact .refl 0 s
  | true =>
    rw [State.evalHold_eq hp]
    split
    · exact .refl 0 s
    · exact CavernWork.of_set (.refl s) (State.notify_emits _ _ _ _) ⟨_, _, _, _, rfl⟩ nofun

theorem State.evalHold_one : OneCavern 0 false State.evalHold (CavernRule.rel Cavern.rated) where
  work s c := (s.evalHold_work c).only
  other s c d hd := by
    cases hp : (s.cavern c).p.present with
    | false => rw [State.evalHold, if_pos (.inl hp)]
    | true =>
      rw [State.evalHold_eq hp]
      split
      · rfl
      · rw [(State.notify_emits _ _ _ _).own.ringOnly.cavern, State.cavern_setCavern, if_neg hd]
  value s c _ := by
    change (s.evalHold c).cavern c = Cavern.rated _ _ _ _ _
    cases hp : (s.cavern c).p.present with
    | false => rw [State.evalHold, if_pos (.inl hp), Cavern.rated, hp]; rfl
    | true =>
      rw [State.evalHold_eq hp, Cavern.rated, hp, if_pos rfl]
      split
      case isTrue same => rw [same]
      case isFalse => rw [(State.notify_emits _ _ _ _).own.ringOnly.cavern, State.cavern_setCavern_same]

/-! ## A change of the manifold -/

/-- MANIFOLD_CHANGE on the new manifold. -/
def State.manifoldNoticed (s : State) (m : Manifold) : State :=
  State.notify { s with manifold := m } .manifoldChange .none
    [.code s.manifold.state.num, .code m.state.num, match m.remembered with | none => .none | some d => .code d.state.num]

theorem State.manifoldTo_flowing {s : State} {m : Manifold} {d : Direction} (h : m.state.flow = some d) :
    s.manifoldTo m = (s.manifoldNoticed m).isolateAll.reopenAll.evalHoldAll := by
  simp only [State.manifoldTo, h, reduceCtorEq, if_false]
  rfl

theorem State.manifoldTo_still {s : State} {m : Manifold} (h : m.state.flow = none) :
    s.manifoldTo m = (s.manifoldNoticed m).evalHoldAll := by
  simp only [State.manifoldTo, h, if_true]
  rfl

/-- The work a change of the manifold does on the caverns; none of its orders but at an entry into a direction. -/
theorem State.manifoldTo_work (s : State) (m : Manifold) :
    CavernWork 12 { s with manifold := m } (s.manifoldTo m) ∧ (m.state.flow = none → CavernWork 0 { s with manifold := m } (s.manifoldTo m)) := by
  have noticed : CavernWork 0 { s with manifold := m } (s.manifoldNoticed m) := .of_emits (State.notify_emits _ _ _ _)
  have held (t : State) : CavernWork 0 t t.evalHoldAll := CavernWork.foldl State.evalHold_work cavernNumbers t
  cases h : m.state.flow with
  | none =>
    rw [State.manifoldTo_still h]
    exact ⟨(noticed.trans (held _)).mono (by decide), fun _ => noticed.trans (held _)⟩
  | some d =>
    rw [State.manifoldTo_flowing h]
    have isolated (t : State) : CavernWork 4 t t.isolateAll := CavernWork.foldl State.isolate_work cavernNumbers t
    have reopened (t : State) : CavernWork 8 t t.reopenAll := CavernWork.foldl State.reopen_work cavernNumbers t
    exact ⟨(((noticed.trans (isolated _)).trans (reopened _)).trans (held _)).mono (by decide), nofun⟩

/-- Isolation in a direction. -/
theorem Cavern.isolated_flowing (x : Cavern) {q : Quality} {m : ManifoldState} {d : Direction} (h : m = d.state) (auto : Bool) (now : Nat) :
    x.isolated q m auto now = if x.p.present = true ∧ x.factor d = 0 ∧ q ≠ .none ∧ (x.valve = .opened ∨ x.valve = .opening) ∧ x.mark = .none
      then x.shut d now else x := by
  simp only [Cavern.isolated, ManifoldState.flow_eq_some.mpr h]
  refine if_congr ?_ rfl rfl
  rw [Cavern.meetsIsolation_iff]
  constructor
  · rintro ⟨d', shuts⟩
    have : d' = d := by
      have := shuts.flows.symm.trans h
      revert this
      cases d' <;> cases d <;> simp [Direction.state]
    subst this
    exact ⟨shuts.present, shuts.limit, shuts.seen, shuts.valve, shuts.unmarked⟩
  · rintro ⟨h1, h2, h3, h4, h5⟩
    exact ⟨d, h, h1, h2, h3, h4, h5⟩

theorem Mark.opens_iff {k : Mark} {m : ManifoldState} {d : Direction} (h : m = d.state) :
    ((k = .low ∧ m = .charge) ∨ (k = .high ∧ m = .discharge)) ↔ k ≠ .none ∧ k ≠ d.mark := by
  subst h
  cases k <;> cases d <;> decide

/-- Reopening in a direction. -/
theorem Cavern.reopened_flowing (x : Cavern) {q : Quality} {m : ManifoldState} {d : Direction} (h : m = d.state) (auto : Bool) (now : Nat) :
    x.reopened q m auto now =
      if auto = true ∧ x.p.present = true ∧ (x.valve = .closed ∨ x.valve = .unknown) ∧ x.mark ≠ .none ∧ x.mark ≠ d.mark
      then (x.open' now).isolated q m auto now else x := by
  simp only [Cavern.reopened, Cavern.meetsReopening_iff, Cavern.Opens, Mark.opens_iff h]

/-- `Cavern.answered` in a direction. -/
theorem Cavern.answered_flowing (x : Cavern) {q : Quality} {m : ManifoldState} {d : Direction} (h : m = d.state) (auto : Bool) (now : Nat) :
    x.answered q m auto now =
      if x.p.present = false then x
      else if x.mark = .none then if (x.valve = .opened ∨ x.valve = .opening) ∧ x.factor d = 0 ∧ q ≠ .none then x.shut d now else x
      else if auto = true ∧ x.mark ≠ d.mark ∧ (x.valve = .closed ∨ x.valve = .unknown) then
        if x.factor d = 0 ∧ q ≠ .none then x.shut d now else x.open' now
      else x := by
  have limit : (x.factor d == 0 && q != .none) = true ↔ x.factor d = 0 ∧ q ≠ .none := by
    rw [Bool.and_eq_true, beq_iff_eq, bne_iff_ne]
  simp only [Cavern.answered, ManifoldState.flow_eq_some.mpr h, limit]
  rfl

/-- Isolation and then reopening of one record. -/
theorem Cavern.answered_eq (x : Cavern) (q : Quality) (m : ManifoldState) (auto : Bool) (now : Nat) :
    (x.isolated q m auto now).reopened q m auto now = x.answered q m auto now := by
  cases hf : m.flow with
  | none =>
    have unmet (y : Cavern) : ¬ (auto = true ∧ y.meetsReopening m = true) := by simp [Cavern.meetsReopening, hf]
    simp only [Cavern.isolated, hf, Cavern.reopened, if_neg (unmet x), Cavern.answered]
  | some d =>
    have hm := ManifoldState.flow_eq_some.mp hf
    rw [Cavern.answered_flowing x hm, Cavern.isolated_flowing x hm]
    by_cases hp : x.p.present = false
    · rw [if_neg (fun h => Bool.false_ne_true (hp.symm.trans h.1)), Cavern.reopened_flowing x hm, if_neg (fun h => Bool.false_ne_true (hp.symm.trans h.2.1)), if_pos hp]
    rw [if_neg hp]
    by_cases hk : x.mark = .none
    · rw [if_pos hk]
      by_cases hs : (x.valve = .opened ∨ x.valve = .opening) ∧ x.factor d = 0 ∧ q ≠ .none
      · rw [if_pos ⟨Bool.eq_true_of_not_eq_false hp, hs.2.1, hs.2.2, hs.1, hk⟩, Cavern.reopened_flowing _ hm, if_pos hs]
        exact if_neg fun h => h.2.2.2.2 rfl
      · rw [if_neg (fun h => hs ⟨h.2.2.2.1, h.2.1, h.2.2.1⟩), Cavern.reopened_flowing _ hm, if_neg (fun h => h.2.2.2.1 hk), if_neg hs]
    · rw [if_neg (fun h => hk h.2.2.2.2), Cavern.reopened_flowing x hm, if_neg hk]
      by_cases ho : auto = true ∧ x.mark ≠ d.mark ∧ (x.valve = .closed ∨ x.valve = .unknown)
      · rw [if_pos ⟨ho.1, Bool.eq_true_of_not_eq_false hp, ho.2.2, hk, ho.2.1⟩, if_pos ho, Cavern.isolated_flowing _ hm]
        refine if_congr ⟨fun h => ⟨h.2.1, h.2.2.1⟩, fun h => ⟨Bool.eq_true_of_not_eq_false hp, h.1, h.2, .inr rfl, rfl⟩⟩ rfl rfl
      · rw [if_neg (fun h => ho ⟨h.1, h.2.2.2.2, h.2.2.1⟩), if_neg ho]

theorem Cavern.answered_still {m : ManifoldState} (h : m.flow = none) (x : Cavern) (q : Quality) (auto : Bool) (now : Nat) :
    x.answered q m auto now = x := by
  simp only [Cavern.answered, h]

/-- The record a change of the manifold leaves, where every order finds room. -/
theorem State.manifoldTo_cavern {s : State} {m : Manifold} (c : Fin 4) (room : s.ring.orders.length ≤ 4 ∨ m.state.flow = none) :
    (s.manifoldTo m).cavern c = ((s.cavern c).answered (s.pressure c).quality m.state (s.mode.mode == .auto) s.now).rated
      (s.pressure c).quality m.state (s.mode.mode == .auto) s.now := by
  have noticed : CavernWork 0 { s with manifold := m } (s.manifoldNoticed m) := .of_emits (State.notify_emits _ _ _ _)
  have same : (s.manifoldNoticed m).cavern c = s.cavern c := (State.notify_emits _ _ _ _).own.ringOnly.cavern c
  obtain ⟨manifold, mode, now, pressure, waiting⟩ := noticed.only.ground
  have seen (d : Fin 4) : (s.manifoldNoticed m).pressure d = s.pressure d := pressure d
  cases h : m.state.flow with
  | none =>
    rw [State.manifoldTo_still h, State.evalHoldAll, State.evalHold_one.rule_foldl cavernNumbers_nodup (mem_cavernNumbers c) nofun,
      same, manifold, mode, now, seen, Cavern.answered_still h]
  | some d =>
    have few : s.ring.orders.length ≤ 4 := room.resolve_right (by rw [h]; nofun)
    have waits : (s.manifoldNoticed m).ring.orders.length ≤ s.ring.orders.length := waiting
    have isolated : CavernWork 4 _ (s.manifoldNoticed m).isolateAll := CavernWork.foldl State.isolate_work cavernNumbers _
    obtain ⟨manifold1, mode1, now1, pressure1, waiting1⟩ := isolated.only.ground
    have reopened : CavernWork 8 _ (s.manifoldNoticed m).isolateAll.reopenAll := CavernWork.foldl State.reopen_work cavernNumbers _
    obtain ⟨manifold2, mode2, now2, pressure2, -⟩ := reopened.only.ground
    have first : (s.manifoldNoticed m).isolateAll.cavern c = _ := State.isolate_one.rule_foldl cavernNumbers_nodup (mem_cavernNumbers c)
      (fun _ => (show (s.manifoldNoticed m).ring.orders.length + 4 ≤ 16 by omega))
    have second : (s.manifoldNoticed m).isolateAll.reopenAll.cavern c = _ :=
      State.reopen_one.rule_foldl cavernNumbers_nodup (mem_cavernNumbers c)
        (fun _ => (show (s.manifoldNoticed m).isolateAll.ring.orders.length + 8 ≤ 16 by omega))
    rw [State.manifoldTo_flowing h, State.evalHoldAll, State.evalHold_one.rule_foldl cavernNumbers_nodup (mem_cavernNumbers c) nofun,
      second, first, manifold2, mode2, now2, pressure2, manifold1, mode1, now1, pressure1, same, manifold, mode, now, seen, Cavern.answered_eq]

theorem foldl_hold {f : State → Fin 4 → State} (h : ∀ s c d, ((f s c).cavern d).hold = (s.cavern d).hold) (l : List (Fin 4)) (s : State)
    (d : Fin 4) : ((l.foldl f s).cavern d).hold = (s.cavern d).hold := by
  induction l generalizing s with
  | nil => rfl
  | cons c l ih => exact (ih (f s c)).trans (h s c d)

theorem State.isolate_hold (s : State) (c d : Fin 4) : ((s.isolate c).cavern d).hold = (s.cavern d).hold := by
  obtain ⟨same, -⟩ | ⟨full, -⟩ | ⟨d', l, -, -, shut⟩ := s.isolate_cases c
  · rw [same]
  · rw [full, (s.cavernQueueFull_emits c _).own.ringOnly.cavern]
  · rw [shut, (State.notify_emits _ _ _ _).own.ringOnly.cavern, State.cavern_setCavern, (s.place_ringOnly _ _ _).cavern]
    split
    case isTrue e => rw [e]; rfl
    case isFalse => rfl

theorem State.reopen_hold (s : State) (c d : Fin 4) : ((s.reopen c).cavern d).hold = (s.cavern d).hold := by
  obtain ⟨same, -⟩ | ⟨full, -⟩ | ⟨-, -, -, reopened⟩ := s.reopen_cases c
  · rw [same]
  · rw [full, (s.cavernQueueFull_emits c _).own.ringOnly.cavern]
  · rw [reopened, State.isolate_hold, State.opened_cavern]
    split
    case isTrue e => rw [e]; rfl
    case isFalse => rfl

/-- RATE_HOLD after a valve has moved is that of the record before. -/
theorem Cavern.rated_moved {x y : Cavern} (h : ∃ v w k, y = { x with valve := v, timer := w, mark := k }) (q : Quality) (m : ManifoldState)
    (auto : Bool) (now : Nat) :
    ∃ v w k, y.rated q m auto now = { x with valve := v, timer := w, mark := k, hold := if x.p.present then x.holdAfter q m else x.hold } := by
  obtain ⟨v, w, k, rfl⟩ := h
  exact ⟨v, w, k, rfl⟩

theorem Cavern.answered_moved (x : Cavern) (q : Quality) (m : ManifoldState) (auto : Bool) (now : Nat) :
    ∃ v w k, x.answered q m auto now = { x with valve := v, timer := w, mark := k } := by
  cases h : m.flow with
  | none => exact ⟨_, _, _, Cavern.answered_still h x q auto now⟩
  | some d =>
    rw [Cavern.answered_flowing x (ManifoldState.flow_eq_some.mp h)]
    split_ifs <;> exact ⟨_, _, _, rfl⟩

/-- RATE_HOLD looks at nothing that isolation and reopening change. -/
theorem Cavern.rated_answered (x : Cavern) (q : Quality) (m : ManifoldState) (auto : Bool) (now : Nat) :
    (x.answered q m auto now).rated q m auto now =
      { x.answered q m auto now with hold := if x.p.present then x.holdAfter q m else x.hold } := by
  obtain ⟨v, w, k, e⟩ := x.answered_moved q m auto now
  rw [e]
  rfl

theorem CavernWork.moved {k : Nat} {s t : State} (h : CavernWork k s t) {c : Fin 4} (hold : (t.cavern c).hold = (s.cavern c).hold) :
    ∃ v w k, t.cavern c = { s.cavern c with valve := v, timer := w, mark := k } := by
  obtain ⟨v, w, m, x, e⟩ := h.record c
  rw [e] at hold
  exact ⟨v, w, m, by rw [e, show x = _ from hold]⟩

/-- The record a change of the manifold leaves, whatever finds room: a valve with its timer and mark, and RATE_HOLD. -/
theorem State.manifoldTo_record (s : State) (m : Manifold) (c : Fin 4) : ∃ v w k, (s.manifoldTo m).cavern c =
    { s.cavern c with valve := v, timer := w, mark := k
                      hold := if (s.cavern c).p.present then (s.cavern c).holdAfter (s.pressure c).quality m.state else (s.cavern c).hold } := by
  have noticed : CavernWork 0 { s with manifold := m } (s.manifoldNoticed m) := .of_emits (State.notify_emits _ _ _ _)
  have same : (s.manifoldNoticed m).cavern c = s.cavern c := (State.notify_emits _ _ _ _).own.ringOnly.cavern c
  obtain ⟨j, u, work, hold, evaluated⟩ : ∃ j u, CavernWork j { s with manifold := m } u ∧ (u.cavern c).hold = (s.cavern c).hold ∧
      s.manifoldTo m = u.evalHoldAll := by
    cases h : m.state.flow with
    | none => exact ⟨0, _, noticed, by rw [same], State.manifoldTo_still h⟩
    | some d =>
      refine ⟨_, _, (noticed.trans (CavernWork.foldl State.isolate_work cavernNumbers _)).trans (CavernWork.foldl State.reopen_work cavernNumbers _), ?_,
        State.manifoldTo_flowing h⟩
      rw [foldl_hold State.reopen_hold, foldl_hold State.isolate_hold, same]
  obtain ⟨manifold, mode, now, pressure, -⟩ := work.only.ground
  have pressure : u.pressure c = s.pressure c := pressure c
  rw [evaluated, State.evalHoldAll, State.evalHold_one.rule_foldl cavernNumbers_nodup (mem_cavernNumbers c) nofun, manifold, pressure]
  exact Cavern.rated_moved (work.moved hold) _ _ _ _

/-! ## The changeover -/

theorem State.manifoldTo_someFlows (s : State) (m : Manifold) : (s.manifoldTo m).someFlows = s.someFlows := by
  have trains : (s.manifoldTo m).trains = s.trains := (State.manifoldTo_keeps_after s m).agree .trains (by decide)
  simp only [State.someFlows, State.train, trains]

theorem State.enterChangeover_manifold (s : State) (d : Direction) : (s.enterChangeover d).manifold =
    if s.someFlows then ⟨.changeover, some d, none⟩
    else if s.plant.deadband = 0 then ⟨.idle, none, none⟩ else ⟨.changeover, some d, some (s.now + s.plant.deadband * 1000)⟩ := by
  have kept := (State.manifoldTo_keeps_after s ⟨.changeover, some d, none⟩).agree
  have plant : (s.manifoldTo ⟨.changeover, some d, none⟩).plant = s.plant := kept .plant (by decide)
  have now : (s.manifoldTo ⟨.changeover, some d, none⟩).now = s.now := kept .now (by decide)
  have manifold := State.manifoldTo_manifold s ⟨.changeover, some d, none⟩
  rw [State.enterChangeover, State.manifoldTo_someFlows]
  split
  · exact manifold
  · rw [State.startDeadband, plant]
    split
    · exact State.manifoldTo_manifold _ _
    · simp only [manifold, State.after, now]

end Sys2Proof.Machine

open Sys2Proof Sys2Proof.Machine

/-- Settles O42: the work on the caverns (`manifoldTo_work`), the record each is left with (`manifoldTo_cavern`), and the
manifold of a changeover. -/
theorem manifoldMoves : Obligations.ManifoldMoves := by
  refine ⟨fun s m => ?_, fun s d => ?_⟩
  · obtain ⟨work, still⟩ := s.manifoldTo_work m
    obtain ⟨os, emits, none, valves⟩ : ∃ os, Emits os { s with manifold := m, caverns := (s.manifoldTo m).caverns } (s.manifoldTo m) ∧
        (m.state.flow = none → os = []) ∧
        ∀ o ∈ os, o.order.isValve = true ∧ ∃ c, (s.cavern c).p.present = true ∧ o.dest = BitVec.ofNat 8 (s.cavern c).p.node := by
      by_cases h : m.state.flow = none
      · obtain ⟨os, emits, few, valves⟩ := (still h).orders
        exact ⟨os, emits, fun _ => List.eq_nil_of_length_eq_zero (Nat.le_zero.mp few), valves⟩
      · obtain ⟨os, emits, -, valves⟩ := work.orders
        exact ⟨os, emits, fun e => absurd e h, valves⟩
    obtain ⟨r, p, same, kept, -⟩ := emits.own
    refine ⟨⟨r, p, same, kept.received, kept.consumed, kept.stripped, kept.dropped, kept.withheld, kept.continuity⟩,
      fun sound => ⟨emits.frames sound, os, emits.orders sound, none, valves⟩, fun c => ?_⟩
    intro x q hold
    refine ⟨s.manifoldTo_record m c, fun h => ?_, fun room => s.manifoldTo_cavern c (.inl room) |>.trans ?_⟩
    · refine (s.manifoldTo_cavern c (.inr h)).trans ?_
      rw [Cavern.answered_still h]
      rfl
    · exact Cavern.rated_answered x _ _ _ _
  · intro m
    have after := s.enterChangeover_manifold d
    refine ⟨fun h => ?_, fun h h0 => ?_, fun h h0 => ?_⟩
    · exact after.trans (by rw [h]; rfl)
    · exact after.trans (by rw [h, if_neg h0]; rfl)
    · exact after.trans (by rw [h, if_pos h0]; rfl)
end
section
/-!
PROOFS. The heat stores and the two adequacy checks (sections 3.3, 3.6 and 2.7).
-/

namespace Sys2Proof.Machine

theorem perMille_eq (margin band : Int) : perMille margin band = max 0 (min 1000 ((margin * 1000).tdiv band)) := clampTo_eq (by decide) _

theorem sat32_eq (x : Int) : sat32 x = max (-2147483648) (min 2147483647 x) := clampTo_eq (by decide) x

theorem sat32_of_nonneg {x : Int} (h : 0 ≤ x) : sat32 x = min 2147483647 x := by rw [sat32_eq]; omega

theorem Store.unusable_eq (x : Store) : x.unusable = (x.views.filter fun v => v.quality == .stale || v.quality == .none).length := by
  have same : (fun v : LayerView => !v.quality.usable) = fun v => v.quality == .stale || v.quality == .none := by
    funext v
    cases v.quality <;> rfl
  rw [Store.unusable, same]

/-! ## An event of a layer's channel -/

/-- A store that an event of a channel concerns. -/
def Store.names (x : Store) (n : Nat) : Prop := x.p.present = true ∧ ∃ l ∈ x.p.layers, l.channel = n

theorem Store.names_iff (x : Store) (n : Nat) : (x.p.present && x.p.layers.any (·.channel == n)) = true ↔ x.names n := by
  simp only [Store.names, Bool.and_eq_true, List.any_eq_true, beq_iff_eq]

/-- The record of a store after an event. -/
def Store.told (x : Store) (n : Nat) (v : View) : Store := (x.withEvent n ⟨v.quality, v.avg⟩).recomputed

theorem State.layerEvent_unnamed {s : State} {n : Nat} {m : Fin 3} (h : ¬ (s.store m).names n) (v : View) : s.layerEvent n v m = s := by
  rw [State.layerEvent]
  exact if_neg fun x => h ((Store.names_iff _ _).mp x)

theorem State.layerEvent_named {s : State} {n : Nat} {m : Fin 3} (h : (s.store m).names n) (v : View) :
    s.layerEvent n v m = (s.setStore m ((s.store m).told n v)).storeNotice m (s.store m).quality := by
  rw [State.layerEvent]
  exact if_pos ((Store.names_iff _ _).mpr h)

theorem State.storeNotice_same {s : State} {m : Fin 3} {q : StoreQuality} (h : (s.store m).quality = q) : s.storeNotice m q = s := if_pos h

/-- The notice of a quality that changed. -/
theorem State.storeNotice_changed {s : State} {m : Fin 3} {q : StoreQuality} (h : (s.store m).quality ≠ q) : s.storeNotice m q =
    s.notifyAs (if (s.store m).quality = .unavailable then .safety else .limit) .heatStoreQuality (.store m)
      [.fig m.val, .code q.num, .code (s.store m).quality.num, .fig (s.store m).energy, .fig (s.store m).unusable] := if_neg h

theorem State.notifyAs_safety {s : State} (h : s.passive = false) (n : NoticeName) (x : SourceRecord) (l : List Item) :
    s.notifyAs .safety n x l = s.offerNotice ⟨n, .safety, x, s.plantSec, s.plantMilli, 0, l⟩ := if_pos ⟨h, rfl⟩

theorem State.notifyAs_passive {s : State} (h : s.passive = true) (c : NoticeClass) (n : NoticeName) (x : SourceRecord) (l : List Item) :
    s.notifyAs c n x l = s := if_neg fun e => Bool.false_ne_true (e.1.symm.trans h)

/-! ## Adequacy -/

theorem intervalEnergy_nonneg (net : Int) (l : Nat) : 0 ≤ intervalEnergy net l :=
  Int.tdiv_nonneg (mul_nonneg (magnitude_nonneg net) (Int.natCast_nonneg l)) (by decide)

/-- The heat a store has for a net. -/
theorem Store.heatTerm_eq (x : Store) (net : Int) : x.heatTerm net =
    if x.p.present = true ∧ x.quality ≠ .unavailable then max 0 (if 0 < net then x.energy - x.p.eFloor else x.p.eCeiling - x.energy) else 0 := by
  unfold Store.heatTerm
  exact if_congr (by rw [Bool.and_eq_true, bne_iff_ne]) rfl rfl

theorem Store.heatTerm_nonneg (x : Store) (net : Int) : 0 ≤ x.heatTerm net := by
  rw [Store.heatTerm_eq]
  split
  · exact le_max_left _ _
  · exact le_refl _

theorem State.heatAvailable_eq (s : State) (net : Int) :
    s.heatAvailable net = (s.store 0).heatTerm net + (s.store 1).heatTerm net + (s.store 2).heatTerm net := by
  simp only [State.heatAvailable, storeNumbers, List.map_cons, List.map_nil, sumOf, List.foldr_cons, List.foldr_nil]
  ring

/-- The air check of one cavern looks at nothing a notice changes. -/
theorem State.airCheckOne_ringOnly {s u : State} (h : RingOnly s u) (k : Nat) (net e : Int) (n : Nat) (c : Fin 4) :
    State.airCheckOne k net e n u c =
      if (s.pressure c).quality = .none then u
      else if 0 < net ∧ predicted (s.cavern c).p (s.pressure c).avg net e n < (s.cavern c).p.pMin then
        u.notify .scheduleAirShort (.cavern c)
          [.fig k, .fig c.val, .fig e, .fig (predicted (s.cavern c).p (s.pressure c).avg net e n), .fig (s.cavern c).p.pMin]
      else if net < 0 ∧ (s.cavern c).p.pMax < predicted (s.cavern c).p (s.pressure c).avg net e n then
        u.notify .scheduleAirFull (.cavern c)
          [.fig k, .fig c.val, .fig e, .fig (predicted (s.cavern c).p (s.pressure c).avg net e n), .fig (s.cavern c).p.pMax]
      else u := by
  rw [State.airCheckOne, h.cavern, h.pressure]

/-- Folds of two steps that agree on every state that differs in own frames. -/
theorem foldl_ringOnly {s : State} {f g : State → Fin 4 → State} (h : ∀ u c, RingOnly s u → f u c = g u c ∧ RingOnly u (g u c))
    (l : List (Fin 4)) {u : State} (hu : RingOnly s u) : l.foldl f u = l.foldl g u := by
  induction l generalizing u with
  | nil => rfl
  | cons c l ih =>
    obtain ⟨same, kept⟩ := h u c hu
    rw [List.foldl_cons, List.foldl_cons, same]
    exact ih (hu.trans kept)

end Sys2Proof.Machine

open Sys2Proof Sys2Proof.Machine

/-- Settles O16: the recomputation, the event of a layer, and the two checks, each by its own equation. -/
theorem storesAndAdequacy : Obligations.StoresAndAdequacy := by
  refine ⟨fun x => ?_, fun s n v m => ?_, fun s k net => ?_, fun s k net => ?_⟩
  · intro heat e bad q factor
    have quality : x.qualityOf = q := by simp only [q, bad, Store.qualityOf, Store.unusable_eq]
    simp only [Store.recomputed, quality, factor, perMille_eq]
    rfl
  · intro x named y t items
    refine ⟨fun h => State.layerEvent_unnamed h v, fun h => ?_⟩
    rw [State.layerEvent_named h]
    have at_ : t.store m = y := State.store_setStore_same s m y
    change t.storeNotice m x.quality = _
    by_cases hq : y.quality = x.quality
    · rw [if_pos (.inl hq), State.storeNotice_same (by rw [at_]; exact hq)]
    · rw [State.storeNotice_changed (by rw [at_]; exact hq), at_]
      by_cases hp : s.passive = true
      · have quiet : y.quality = x.quality ∨ s.passive = true := .inr hp
        rw [if_pos quiet, State.notifyAs_passive (s := t) hp]
      · have told : ¬ (y.quality = x.quality ∨ s.passive = true) := fun h => h.elim hq hp
        rw [if_neg told]
        by_cases hu : y.quality = .unavailable
        · rw [if_pos hu, if_pos hu, State.notifyAs_safety (s := t) (Bool.eq_false_iff.mpr hp)]
          rfl
        · rw [if_neg hu, if_neg hu]
          rfl
  · intro e heat available needed capped
    have have_ : s.heatAvailable net = available := by
      rw [State.heatAvailable_eq, Store.heatTerm_eq, Store.heatTerm_eq, Store.heatTerm_eq]
    have need : s.heatNeeded net = needed := by
      simp only [State.heatNeeded, intervalEnergy, needed, e]
    have nonneg : 0 ≤ available := by
      have := (s.store 0).heatTerm_nonneg net
      have := (s.store 1).heatTerm_nonneg net
      have := (s.store 2).heatTerm_nonneg net
      rw [← have_, State.heatAvailable_eq]
      omega
    refine ⟨fun h => ?_, fun h0 h => ?_⟩
    · rw [State.heatCheck, if_neg]
      rw [have_, need]
      rintro ⟨h0, hl⟩
      exact h.elim h0 fun g => by omega
    · rw [State.heatCheck, if_pos (by rw [have_, need]; exact ⟨h0, h⟩), have_, need, sat32_of_nonneg (intervalEnergy_nonneg _ _),
        sat32_of_nonneg nonneg, sat32_of_nonneg (by omega)]
      rfl
  · intro e l judge
    have judged (u : State) (c : Fin 4) (hu : RingOnly s u) :
        State.airCheckOne k net e l.length u c = judge u c ∧ RingOnly u (judge u c) := by
      have p (x : Int) : predicted (s.cavern c).p x net e l.length = max (-2147483648) (min 2147483647
          (if 0 < net then x - (e * (s.cavern c).p.stiffness).tdiv l.length else x + (e * (s.cavern c).p.stiffness).tdiv l.length)) := by
        rw [predicted, sat32_eq]
      have same : State.airCheckOne k net e l.length u c = judge u c := by
        rw [State.airCheckOne_ringOnly hu]
        simp only [p, judge]
      rw [← same]
      exact ⟨rfl, (State.airCheckOne_own k net e l.length u c).ringOnly⟩
    refine ⟨fun h => if_pos h, fun h hl => ?_, fun h hl => ?_⟩
    · have none : s.openCaverns = [] := hl
      rw [State.airCheck, if_neg h, none]
      rfl
    · have some : s.openCaverns.isEmpty = false := List.isEmpty_eq_false_iff.mpr hl
      rw [State.airCheck, if_neg h, some]
      exact foldl_ringOnly judged l (.refl s)

end
section
/-!
PROOFS. A reading through the conditioning stages to the consumers of its channel (sections 1.2 to 1.6, 2.3, 3.3).
-/

namespace Sys2Proof.Machine

/-! ## The SAMPLE frame of one reading -/

/-- A SAMPLE frame of one reading. -/
def sampleFrame (h : Passing) (slot a b c : Byte) (rest : List Byte) : Frame := passingFrame h kSample (1 :: slot :: a :: b :: c :: rest)

theorem State.tapSample_one (s : State) (h : Passing) (slot a b c : Byte) (rest : List Byte) :
    s.tapSample (sampleFrame h slot a b c rest) = State.takeReading h.src.toNat s ⟨slot.toNat, int24 a b c⟩ := rfl

/-- The frame passes on once its reading is taken. -/
theorem exec_sample {s : State} {h : Passing} {rest : List Byte} (hp : s.passes h) (hl : rest.length ≤ 239) (slot a b c : Byte) :
    exec (.sample h (1 :: slot :: a :: b :: c :: rest)) s =
      .next ((State.takeReading h.src.toNat s.countReceived ⟨slot.toNat, int24 a b c⟩).forwardOrDrop (sampleFrame h slot a b c rest)) := by
  have fits : (1 :: slot :: a :: b :: c :: rest).length ≤ 244 := by simp only [List.length_cons]; omega
  have node : (s.countReceived.tap (sampleFrame h slot a b c rest)).node = s.node :=
    (s.countReceived.tapSample_preserves (sampleFrame h slot a b c rest)).agree .node (by decide)
  exact congrArg Host.Outcome.next (State.receive_tapped hp.1 hp.2.1 (.inl rfl) hp.2.2 fits node)

theorem State.takeReading_unheld {s : State} {node : Nat} {r : Reading} (h : s.tapMap node r.slot = none) : State.takeReading node s r = s := by
  simp only [State.takeReading, h]

theorem State.takeReading_invalid {s : State} {node : Nat} {r : Reading} {c : Fin 96} (h : s.tapMap node r.slot = some c)
    (hr : r.raw = -8388608) : State.takeReading node s r = s.setChan c { s.chan c with invalid := (s.chan c).invalid + 1 } := by
  simp only [State.takeReading, h, hr, invalidRaw, if_true]

theorem State.takeReading_valid {s : State} {node : Nat} {r : Reading} {c : Fin 96} (h : s.tapMap node r.slot = some c)
    (hr : r.raw ≠ -8388608) : State.takeReading node s r = (s.setChan c ((s.chan c).accept r.raw s.now)).deliverValue c.val s.now := by
  simp only [State.takeReading, h, invalidRaw]
  exact if_neg hr

theorem State.tapMap_present {s : State} {node slot : Nat} {c : Fin 96} (h : s.tapMap node slot = some c) : (s.chan c).present = true := by
  have := List.find?_some h
  simp only [Bool.and_eq_true] at this
  exact this.1.1

/-! ## Views -/

theorem State.viewOf_congr {s t : State} (h : t.chans = s.chans) (n : Nat) (k : ChanKind) : t.viewOf n k = s.viewOf n k := by
  unfold State.viewOf State.chanAt State.chan
  rw [h]

theorem State.boundTo_congr {s t : State} (h : t.chans = s.chans) (n : Nat) (k : ChanKind) : t.boundTo n k = s.boundTo n k := by
  unfold State.boundTo State.chanAt State.chan
  rw [h]

theorem State.gridBound_congr {s t : State} (h : t.chans = s.chans) (hp : t.plant = s.plant) : t.gridBound = s.gridBound := by
  unfold State.gridBound State.chanAt State.chan
  rw [h, hp]

theorem State.chanAt_val (s : State) (c : Fin 96) : s.chanAt c.val = some (s.chan c) := dif_pos c.isLt

theorem State.boundTo_val (s : State) (c : Fin 96) (k : ChanKind) : s.boundTo c.val k = ((s.chan c).present && (s.chan c).p.kind == k) := by
  simp only [State.boundTo, State.chanAt_val]

theorem State.viewOf_val {s : State} {c : Fin 96} {k : ChanKind} (hp : (s.chan c).present = true) (hk : (s.chan c).p.kind = k) :
    s.viewOf c.val k = (s.chan c).presented := by
  simp only [State.viewOf, State.chanAt_val, hp, hk, BEq.rfl, Bool.and_self, if_true]

theorem State.chanAt_setChan {s : State} {c : Fin 96} {x : Channel} (hx : x.p = (s.chan c).p) (n : Nat) :
    ((s.setChan c x).chanAt n).map (·.p) = (s.chanAt n).map (·.p) := by
  unfold State.chanAt
  split
  · rw [State.chan_setChan]
    split
    case isTrue e => rw [e]; exact congrArg some hx
    case isFalse => rfl
  · rfl

/-- The grid binding looks at the parameters of the channels. -/
theorem State.gridBound_setChan {s : State} {c : Fin 96} {x : Channel} (hx : x.p = (s.chan c).p) : (s.setChan c x).gridBound = s.gridBound := by
  unfold State.gridBound
  rw [State.setChan_plant]
  cases s.plant.gridChannel with
  | none => rfl
  | some n =>
    have same := State.chanAt_setChan hx n
    dsimp only
    cases h : (s.setChan c x).chanAt n <;> cases h' : s.chanAt n <;> rw [h, h'] at same <;>
      simp_all [Channel.present]

theorem State.gridBound_kind {s : State} {c : Fin 96} (h : s.gridBound = some c.val) : (s.chan c).p.kind = .frequency ∧ (s.chan c).present = true := by
  unfold State.gridBound at h
  split at h
  · exact nomatch h
  · split at h
    · exact nomatch h
    case h_2 n _ x hx =>
      split at h
      case isTrue hc =>
        cases h
        rw [State.chanAt_val] at hx
        cases hx
        simp only [Bool.and_eq_true, beq_iff_eq] at hc
        exact ⟨hc.1.1.2, hc.1.1.1⟩
      case isFalse => exact nomatch h

/-! ## The caverns' answer -/

theorem foldl_congr_of {α β : Type} {P : β → Prop} {f g : β → α → β} (h : ∀ u c, P u → f u c = g u c ∧ P (g u c)) (l : List α) {u : β}
    (hu : P u) : l.foldl f u = l.foldl g u := by
  induction l generalizing u with
  | nil => rfl
  | cons c l ih =>
    obtain ⟨same, kept⟩ := h u c hu
    rw [List.foldl_cons, List.foldl_cons, same]
    exact ih kept

theorem Cavern.shut_not_opens (x : Cavern) {m : ManifoldState} {d : Direction} (h : m = d.state) (now : Nat) : ¬ (x.shut d now).Opens m := by
  rintro ⟨-, -, marked⟩
  exact ((Mark.opens_iff h).mp marked).2 rfl

/-- Isolation and then reopening of one cavern: two orders at most. -/
theorem State.isolateReopen_work (s : State) (c : Fin 4) : CavernWork 2 s ((s.isolate c).reopen c) := by
  obtain ⟨same, -⟩ | ⟨full, -⟩ | ⟨d, l, shuts, room, shut⟩ := s.isolate_cases c
  · rw [same]
    exact s.reopen_work c
  · rw [full]
    exact (CavernWork.of_emits (s.cavernQueueFull_emits c _)).trans (State.reopen_work _ c)
  · have once := s.isolate_work c
    have record : (s.isolate c).cavern c = (s.cavern c).shut d s.now := by
      rw [shut, (State.notify_emits _ _ _ _).own.ringOnly.cavern, State.cavern_setCavern_same]
    have still : (s.isolate c).reopen c = s.isolate c := by
      refine State.reopen_unmet fun h => ?_
      rw [record, once.only.ground.1] at h
      exact Cavern.shut_not_opens _ shuts.flows _ h.2
    rw [still]
    exact once.mono (by decide)

theorem State.isolateReopen_one : OneCavern 2 true (fun s c => (s.isolate c).reopen c) (CavernRule.rel Cavern.answered) where
  work s c := (s.isolateReopen_work c).only
  other s c d hd := (State.reopen_one.other _ c d hd).trans (State.isolate_one.other s c d hd)
  value s c room := by
    change ((s.isolate c).reopen c).cavern c = Cavern.answered _ _ _ _ _
    have few := room rfl
    have first := State.isolate_one.rule (s := s) (c := c) fun _ => by omega
    obtain ⟨manifold, mode, now, pressure, waiting⟩ := (s.isolate_work c).only.ground
    rw [← Cavern.answered_eq]
    obtain ⟨same, unmet⟩ | ⟨full, lacks⟩ | ⟨d, l, shuts, room', shut⟩ := s.isolate_cases c
    · rw [← first, same]
      exact State.reopen_one.rule room
    · have := s.orderRoom_eq_false_iff.mp lacks
      omega
    · have record : (s.isolate c).cavern c = (s.cavern c).shut d s.now := by
        rw [shut, (State.notify_emits _ _ _ _).own.ringOnly.cavern, State.cavern_setCavern_same]
      have closed := Cavern.shut_not_opens (s.cavern c) shuts.flows s.now
      have still : (s.isolate c).reopen c = s.isolate c := by
        refine State.reopen_unmet fun h => ?_
        rw [record, manifold] at h
        exact closed h.2
      rw [still, ← first, record, Cavern.reopened, if_neg]
      rw [Cavern.meetsReopening_iff]
      exact fun h => closed h.2

/-- The record of a cavern with the factors and the rate list of a value event. -/
def Cavern.pressed (x : Cavern) (v : View) (spacing instant : Nat) : Cavern := (x.withView v).withRate spacing v.avg instant

theorem Cavern.pressed_p (x : Cavern) (v : View) (spacing instant : Nat) : (x.pressed v spacing instant).p = x.p := by
  rw [← Cavern.withView_p x v]
  rfl

/-- A value event at a cavern that names the channel. -/
def State.pressing (v : View) (n spacing instant : Nat) (s : State) (c : Fin 4) : State :=
  if (s.cavern c).names n then
    ((State.evalHold (s.setCavern c ((s.cavern c).pressed v spacing instant)) c).isolate c).reopen c
  else s

theorem CavernsOnly.setCavern {s : State} {c : Fin 4} {x : Cavern} (hx : x.p = (s.cavern c).p) : CavernsOnly 0 s (s.setCavern c x) where
  orders := ⟨[], .refl _, Nat.le_refl _⟩
  p d := by
    rw [State.cavern_setCavern]
    split
    case isTrue e => rw [hx, e]
    case isFalse => rfl

theorem State.pressing_work (v : View) (n spacing instant : Nat) (s : State) (c : Fin 4) :
    CavernsOnly 2 s (State.pressing v n spacing instant s c) := by
  unfold State.pressing
  split
  · exact ((CavernsOnly.setCavern (Cavern.pressed_p _ _ _ _)).trans (State.evalHold_work _ c).only).trans (State.isolateReopen_work _ c).only
  · exact .refl 2 s

theorem State.pressing_other (v : View) (n spacing instant : Nat) (s : State) {c d : Fin 4} (hd : d ≠ c) :
    (State.pressing v n spacing instant s c).cavern d = s.cavern d := by
  unfold State.pressing
  split
  · rw [State.isolateReopen_one.other _ c d hd, State.evalHold_one.other _ c d hd, State.cavern_setCavern, if_neg hd]
  · rfl

/-- The state a value event judges for RATE_HOLD, before isolation. -/
theorem State.pressing_held {s : State} {c : Fin 4} (x : Cavern) (hx : x.p = (s.cavern c).p) :
    ((s.setCavern c x).evalHold c).cavern c = x.rated (s.pressure c).quality s.manifold.state (s.mode.mode == .auto) s.now := by
  rw [State.evalHold_one.rule nofun, State.cavern_setCavern_same, State.pressure_setCavern hx]
  rfl

theorem State.pressing_one (v : View) (n spacing instant : Nat) : OneCavern 2 true (State.pressing v n spacing instant)
    (CavernRule.rel fun x q m auto now => if x.names n then ((x.pressed v spacing instant).rated q m auto now).answered q m auto now else x) where
  work := State.pressing_work v n spacing instant
  other s c d hd := State.pressing_other v n spacing instant s hd
  value s c room := by
    change (State.pressing v n spacing instant s c).cavern c = if _ then _ else _
    unfold State.pressing
    split
    case isTrue =>
      have hx := Cavern.pressed_p (s.cavern c) v spacing instant
      obtain ⟨manifold, mode, now, pressure, waiting⟩ :=
        ((CavernsOnly.setCavern hx).trans (State.evalHold_work (s.setCavern c ((s.cavern c).pressed v spacing instant)) c).only).ground
      have few := room rfl
      rw [State.isolateReopen_one.rule (fun _ => by omega), State.pressing_held _ hx, manifold, mode, now, pressure]
    case isFalse => rfl

/-- What isolation and reopening leave of a record apart from its valve. -/
theorem State.pressing_free (v : View) (n spacing instant : Nat) : OneCavern 2 false (State.pressing v n spacing instant)
    (fun x q m auto now y => if x.names n then
      ∃ vs w k, y = { (x.pressed v spacing instant).rated q m auto now with valve := vs, timer := w, mark := k } else y = x) where
  work := State.pressing_work v n spacing instant
  other s c d hd := State.pressing_other v n spacing instant s hd
  value s c _ := by
    dsimp only
    unfold State.pressing
    split
    case isTrue =>
      have hx := Cavern.pressed_p (s.cavern c) v spacing instant
      have moved := (State.isolateReopen_work ((s.setCavern c ((s.cavern c).pressed v spacing instant)).evalHold c) c).moved (c := c)
        (by rw [State.reopen_hold, State.isolate_hold])
      rwa [State.pressing_held _ hx] at moved
    case isFalse => rfl

/-! ## The stores' answer -/

theorem State.withStores_silent (v : Vector Store 3) : Silent (fun s : State => { s with stores := v }) :=
  ⟨fun _ _ _ => rfl, fun _ => rfl, fun _ => rfl⟩

/-- Only store records move, with reports. -/
def StoresOnly (s t : State) : Prop := s.portSound → ReportsOnly { s with stores := t.stores } t ∧ t.portSound

theorem StoresOnly.trans {a b c : State} (h : StoresOnly a b) (k : StoresOnly b c) : StoresOnly a c := fun sound =>
  let ⟨first, sound1⟩ := h sound
  let ⟨second, sound2⟩ := k sound1
  ⟨(first.map (State.withStores_silent c.stores)).trans second, sound2⟩

theorem State.layerEvent_storesOnly (s : State) (n : Nat) (v : View) (m : Fin 3) : StoresOnly s (s.layerEvent n v m) := by
  intro sound
  by_cases h : (s.store m).names n
  · rw [State.layerEvent_named h]
    have same : ((s.setStore m ((s.store m).told n v)).storeNotice m (s.store m).quality).stores = (s.setStore m ((s.store m).told n v)).stores :=
      (State.storeNotice_own _ _ _).agree .stores (by decide)
    rw [same]
    by_cases q : ((s.setStore m ((s.store m).told n v)).store m).quality = (s.store m).quality
    · rw [State.storeNotice_same q]
      exact ⟨.refl _, sound⟩
    · rw [State.storeNotice_changed q]
      exact State.notifyAs_reportsOnly (s := s.setStore m ((s.store m).told n v)) sound _ _ _ _
  · rw [State.layerEvent_unnamed h]
    exact ⟨.refl _, sound⟩

theorem State.layerEvent_other (s : State) (n : Nat) (v : View) {m k : Fin 3} (h : k ≠ m) : (s.layerEvent n v m).store k = s.store k := by
  by_cases hn : (s.store m).names n
  · rw [State.layerEvent_named hn, (State.storeNotice_own _ _ _).agree.store (by decide), State.store_setStore, if_neg h]
  · rw [State.layerEvent_unnamed hn]

theorem State.layerEvent_told {s : State} {n : Nat} {m : Fin 3} (h : (s.store m).names n) (v : View) :
    (s.layerEvent n v m).store m = (s.store m).told n v := by
  rw [State.layerEvent_named h, (State.storeNotice_own _ _ _).agree.store (by decide), State.store_setStore, if_pos rfl]

/-- An event at every store of a list. -/
theorem State.layerEvents (n : Nat) (v : View) {l : List (Fin 3)} (hl : l.Nodup) (s : State) :
    StoresOnly s (l.foldl (fun s m => s.layerEvent n v m) s) ∧
    (∀ m, (m ∉ l ∨ ¬ (s.store m).names n) → (l.foldl (fun s m => s.layerEvent n v m) s).store m = s.store m) ∧
    (∀ m ∈ l, (s.store m).names n → (l.foldl (fun s m => s.layerEvent n v m) s).store m = (s.store m).told n v) := by
  induction l generalizing s with
  | nil => exact ⟨fun sound => ⟨.refl s, sound⟩, fun _ _ => rfl, nofun⟩
  | cons k l ih =>
    obtain ⟨fresh, nodup⟩ := List.nodup_cons.mp hl
    obtain ⟨only, others, told⟩ := ih nodup (s.layerEvent n v k)
    refine ⟨(s.layerEvent_storesOnly n v k).trans only, fun m h => ?_, fun m hm hn => ?_⟩
    · by_cases e : m = k
      · subst e
        have un : ¬ (s.store m).names n := h.resolve_left fun g => g List.mem_cons_self
        rw [State.layerEvent_unnamed un v] at others
        rw [List.foldl_cons, State.layerEvent_unnamed un v]
        exact others m (.inr un)
      · have same := State.layerEvent_other s n v e
        refine (others m ?_).trans same
        rw [same]
        exact h.imp_left fun g m' => g (List.mem_cons_of_mem k m')
    · by_cases e : m = k
      · subst e
        exact (others m (.inl fresh)).trans (State.layerEvent_told hn v)
      · have same := State.layerEvent_other s n v e
        have := told m (List.mem_of_ne_of_mem e hm) (by rw [same]; exact hn)
        rwa [same] at this

theorem mem_storeNumbers (m : Fin 3) : m ∈ storeNumbers := by revert m; decide

/-! ## Delivery -/

theorem State.deliverValue_other {s : State} {c : Fin 96} (hk : (s.chan c).p.kind ≠ .pressure ∧ (s.chan c).p.kind ≠ .temperature)
    (hg : s.gridBound ≠ some c.val) (t : Nat) : s.deliverValue c.val t = s := by
  have unbound {k : ChanKind} (h : (s.chan c).p.kind ≠ k) : ¬ s.boundTo c.val k = true := by
    rw [State.boundTo_val, beq_eq_false_iff_ne.mpr h, Bool.and_false]
    nofun
  rw [State.deliverValue, if_neg (unbound hk.1), if_neg (unbound hk.2), if_neg hg]

theorem State.deliverValue_pressure {s : State} {c : Fin 96} (hp : (s.chan c).present = true) (hk : (s.chan c).p.kind = .pressure) (t : Nat) :
    s.deliverValue c.val t = cavernNumbers.foldl (State.pressing (s.chan c).presented c.val (s.plant.rateSpacing * 1000) t) s := by
  have steps : cavernNumbers.foldl (fun u d => if (u.cavern d).names c.val then u.cavernValue d (u.viewOf c.val .pressure) t else u) s =
      cavernNumbers.foldl (State.pressing (s.chan c).presented c.val (s.plant.rateSpacing * 1000) t) s := by
    refine foldl_congr_of (P := fun u => u.chans = s.chans ∧ u.plant = s.plant) (fun u d ⟨hc, hpl⟩ => ?_) _ ⟨rfl, rfl⟩
    have view : u.viewOf c.val .pressure = (s.chan c).presented := (State.viewOf_congr hc _ _).trans (State.viewOf_val hp hk)
    have same : (if (u.cavern d).names c.val then u.cavernValue d (u.viewOf c.val .pressure) t else u) =
        State.pressing (s.chan c).presented c.val (s.plant.rateSpacing * 1000) t u d := by
      rw [view, State.pressing, State.cavernValue, hpl]
      rfl
    have kept : Keeps [.caverns] u (if (u.cavern d).names c.val then u.cavernValue d (u.viewOf c.val .pressure) t else u) :=
      .ite (fun _ => u.cavernValue_keeps d _ t) fun _ => .refl _ u
    rw [same] at kept ⊢
    exact ⟨rfl, (kept.agree .chans (by decide)).trans hc, (kept.agree .plant (by decide)).trans hpl⟩
  have bound : s.boundTo c.val .pressure = true := by rw [State.boundTo_val, hp, hk]; rfl
  generalize hu : cavernNumbers.foldl (State.pressing (s.chan c).presented c.val (s.plant.rateSpacing * 1000) t) s = u at steps
  have chans : u.chans = s.chans ∧ u.plant = s.plant := by
    have kept : Keeps [.caverns] s u :=
      steps ▸ .foldl (fun s d => .ite (fun _ => s.cavernValue_keeps d _ t) fun _ => .refl _ s) cavernNumbers s
    exact ⟨kept.agree .chans (by decide), kept.agree .plant (by decide)⟩
  have cold : ¬ u.boundTo c.val .temperature = true := by
    rw [State.boundTo_congr chans.1, State.boundTo_val, hk, hp]
    nofun
  have grid : ¬ u.gridBound = some c.val := by
    rw [State.gridBound_congr chans.1 chans.2]
    exact fun h => nomatch (State.gridBound_kind h).1.symm.trans hk
  rw [State.deliverValue, if_pos bound, steps, if_neg cold, if_neg grid]

theorem State.deliverValue_temperature {s : State} {c : Fin 96} (hp : (s.chan c).present = true) (hk : (s.chan c).p.kind = .temperature) (t : Nat) :
    s.deliverValue c.val t = storeNumbers.foldl (fun u m => u.layerEvent c.val (s.chan c).presented m) s := by
  have steps : storeNumbers.foldl (fun u m => u.layerEvent c.val (u.viewOf c.val .temperature) m) s =
      storeNumbers.foldl (fun u m => u.layerEvent c.val (s.chan c).presented m) s := by
    refine foldl_congr_of (P := fun u => u.chans = s.chans) (fun u m hc => ?_) _ rfl
    have view : u.viewOf c.val .temperature = (s.chan c).presented := (State.viewOf_congr hc _ _).trans (State.viewOf_val hp hk)
    rw [view]
    exact ⟨rfl, ((u.layerEvent_keeps c.val _ m).agree .chans (by decide)).trans hc⟩
  have warm : s.boundTo c.val .temperature = true := by rw [State.boundTo_val, hp, hk]; rfl
  have dry : ¬ s.boundTo c.val .pressure = true := by
    rw [State.boundTo_val, hk, hp]
    nofun
  generalize hu : storeNumbers.foldl (fun u m => u.layerEvent c.val (s.chan c).presented m) s = u at steps
  have kept : Keeps [.stores] s u := hu ▸ .foldl (fun s m => s.layerEvent_keeps c.val _ m) storeNumbers s
  have grid : ¬ u.gridBound = some c.val := by
    rw [State.gridBound_congr (kept.agree .chans (by decide)) (kept.agree .plant (by decide))]
    exact fun h => nomatch (State.gridBound_kind h).1.symm.trans hk
  rw [State.deliverValue, if_neg dry, if_pos warm, steps, if_neg grid]

/-! ## The accepted reading -/

theorem Channel.accept_eq (x : Channel) (raw : Int) (now : Nat) :
    let r1 := sat24 (raw + x.p.offset)
    let r2 := sat24 (r1 + (r1 * x.p.gain).tdiv 2147483648)
    let e := sat32 ((r2 * x.p.scale).tdiv 65536 + x.p.zero)
    let w := (if x.p.length ≤ x.window.length then x.window.tail else x.window) ++ [clampTo x.p.rangeLow x.p.rangeHigh e]
    x.accept raw now = { x with
      window := w, inst := clampTo x.p.rangeLow x.p.rangeHigh e, avg := (sumOf w).tdiv w.length
      quality := if e < x.p.rangeLow ∨ x.p.rangeHigh < e then .outOfRange else if w.length < x.p.length then .settling else .good
      timer := some (now + x.p.freshness), last := some now, accepted := x.accepted + 1 } := by
  intro r1 r2 e w
  have pushed : pushWindow x.p.length x.window (conditioned x.p raw) = w := by
    unfold pushWindow
    split
    case isTrue h => simp only [w, if_pos h]; rfl
    case isFalse h => simp only [w, if_neg h]; rfl
  have quality : qualityAfter x.p raw w.length =
      if e < x.p.rangeLow ∨ x.p.rangeHigh < e then .outOfRange else if w.length < x.p.length then .settling else .good := by
    unfold qualityAfter outOfRange
    refine if_congr ?_ rfl rfl
    rw [Bool.or_eq_true, decide_eq_true_iff, decide_eq_true_iff]
    exact Iff.rfl
  unfold Channel.accept
  dsimp only
  rw [pushed, quality]
  rfl

theorem Channel.accept_p (x : Channel) (raw : Int) (now : Nat) : (x.accept raw now).p = x.p := rfl

theorem Channel.presented_present {x : Channel} (h : x.present = true) :
    x.presented = if x.p.substFlag then ⟨.substituted, x.p.substitute, x.p.substitute⟩ else ⟨x.quality, x.inst, x.avg⟩ := by
  rw [Channel.presented, h, Bool.true_and]

/-- The quality an accepted reading presents is one that computes. -/
theorem Channel.accept_usable {x : Channel} (h : x.present = true) (raw : Int) (now : Nat) :
    (x.accept raw now).presented.quality ≠ .none ∧ (x.accept raw now).presented.quality ≠ .stale := by
  have present : (x.accept raw now).present = true := h
  have computed (n : Nat) : qualityAfter x.p raw n ≠ .none ∧ qualityAfter x.p raw n ≠ .stale := by
    unfold qualityAfter
    split
    · exact ⟨nofun, nofun⟩
    · split <;> exact ⟨nofun, nofun⟩
  rw [Channel.presented_present present]
  split
  · exact ⟨nofun, nofun⟩
  · exact computed _

/-- The record of a cavern under a pressure that computes. -/
theorem Cavern.pressed_eq (x : Cavern) {v : View} (h : v.quality ≠ .none ∧ v.quality ≠ .stale) (spacing instant : Nat) :
    x.pressed v spacing instant = { x with
      gen := clampTo 0 1000 (((v.avg - x.p.pMin) * 1000).tdiv x.p.taper)
      absorb := clampTo 0 1000 (((x.p.pMax - v.avg) * 1000).tdiv x.p.taper)
      rates := pushRate spacing x.rates v.avg instant
      rate := (rateOf (pushRate spacing x.rates v.avg instant)).1
      rateValid := (rateOf (pushRate spacing x.rates v.avg instant)).2 } := by
  rw [Cavern.pressed, Cavern.withView, if_neg h.1, if_neg h.2]
  rfl

theorem pushRate_eq (spacing : Nat) (l : List (Int × Nat)) (avg : Int) (now : Nat) : pushRate spacing l avg now =
    match l.getLast? with
    | none => [(avg, now)]
    | some e => if now < e.2 + spacing then l else (if l.length < 16 then l else l.tail) ++ [(avg, now)] := by
  cases hl : l.getLast? with
  | none => simp only [pushRate, hl]
  | some e =>
    simp only [pushRate, hl]
    refine if_congr Iff.rfl rfl ?_
    by_cases h : l.length < 16
    · rw [if_pos h, if_neg (show ¬ Config.rateCap ≤ l.length from Nat.not_le.mpr h)]
    · rw [if_neg h, if_pos (show Config.rateCap ≤ l.length from Nat.le_of_not_lt h)]

theorem Cavern.names_iff (x : Cavern) (n : Nat) : x.names n = true ↔ x.p.present = true ∧ x.p.channel = some n := by
  rw [Cavern.names, Bool.and_eq_true, beq_iff_eq]

theorem State.pressure_named {s : State} {c : Fin 4} {n : Nat} (h : (s.cavern c).p.channel = some n) : s.pressure c = s.viewOf n .pressure := by
  simp only [State.pressure, h]

end Sys2Proof.Machine

open Sys2Proof Sys2Proof.Machine

/-- Settles O47: the reading's channel, then the consumers by the kind of the channel. -/
theorem readingsTaken : Obligations.ReadingsTaken := by
  intro s h slot a b c rest hp hl body f raw
  have run := exec_sample hp hl slot a b c
  refine ⟨fun none => ?_, fun ch held => ?_⟩
  · rw [run, State.takeReading_unheld (s := s.countReceived) (r := ⟨slot.toNat, raw⟩) none]
    rfl
  · intro x
    have present : x.present = true := State.tapMap_present held
    refine ⟨fun invalid => ?_, fun valid => ?_⟩
    · rw [run, State.takeReading_invalid (s := s.countReceived) (r := ⟨slot.toNat, raw⟩) held invalid]
      rfl
    · intro r1 r2 e w y v u
      have accepted : x.accept raw s.now = y := x.accept_eq raw s.now
      have shown : y.presented = v := by
        have here : y.present = true := present
        exact (Channel.presented_present here).trans rfl
      have usable : v.quality ≠ .none ∧ v.quality ≠ .stale := by
        rw [← shown, ← accepted]
        exact Channel.accept_usable present raw s.now
      have here : u.chan ch = y := State.chan_setChan_same _ _ _
      have taken := State.takeReading_valid (s := s.countReceived) (r := ⟨slot.toNat, raw⟩) held valid
      rw [show (s.countReceived.chan ch).accept raw s.countReceived.now = y from accepted] at taken
      rw [taken] at run
      have kept := (u.deliverValue_keeps ch.val s.now).agree
      refine ⟨u.deliverValue ch.val s.now, run, ?_, fun d hd => ?_, kept .pending (by decide), kept .node (by decide), kept .now (by decide),
        kept .plant (by decide), kept .clock (by decide), kept .sched (by decide), fun hk => ?_, fun hk => ?_, fun hk => ?_⟩
      · rw [kept.chan (by decide), here]
      · rw [kept.chan (by decide), State.chan_setChan, if_neg hd]
        rfl
      · have bound : u.gridBound = s.gridBound := State.gridBound_setChan rfl
        have kind : (u.chan ch).p.kind = x.p.kind := by rw [here]
        refine State.deliverValue_other ?_ ?_ s.now
        · rw [kind]
          rcases hk with hk | hk | ⟨hk, -⟩ <;> rw [hk] <;> exact ⟨nofun, nofun⟩
        · rw [bound]
          rcases hk with hk | hk | ⟨-, hk⟩
          · exact fun g => nomatch (State.gridBound_kind g).1.symm.trans hk
          · exact fun g => nomatch (State.gridBound_kind g).1.symm.trans hk
          · exact hk
      · have delivered : u.deliverValue ch.val s.now = cavernNumbers.foldl (State.pressing v ch.val (s.plant.rateSpacing * 1000) s.now) u := by
          rw [State.deliverValue_pressure (by rw [here]; exact present) (by rw [here]; exact hk), here, shown]
          rfl
        have only := (State.pressing_one v ch.val (s.plant.rateSpacing * 1000) s.now).work_foldl cavernNumbers u
        rw [← delivered] at only
        obtain ⟨os, emits, -⟩ := only.orders
        refine ⟨fun sound => emits.frames sound, fun n => ?_⟩
        intro z l z1 z2
        have pushed : z.pressed v (s.plant.rateSpacing * 1000) s.now = z1 := by
          rw [Cavern.pressed_eq z usable, pushRate_eq] <;> rfl
        have free := (State.pressing_free v ch.val (s.plant.rateSpacing * 1000) s.now).value_foldl cavernNumbers_nodup (mem_cavernNumbers n) (s := u) nofun
        rw [← delivered] at free
        refine ⟨fun unnamed => ?_, fun hz hc => ?_⟩
        · rw [if_neg] at free
          · exact free
          · rw [Cavern.names_iff]
            exact fun g => unnamed.elim (fun e => Bool.false_ne_true (e.symm.trans g.1)) fun e => e g.2
        · have named : (u.cavern n).names ch.val = true := (Cavern.names_iff _ _).mpr ⟨hz, hc⟩
          have pressure : u.pressure n = v := by
            rw [State.pressure_named (s := u) hc, State.viewOf_val (s := u) (by rw [here]; exact present) (by rw [here]; exact hk), here, shown]
          have rated (auto : Bool) (now : Nat) : z1.rated v.quality s.manifold.state auto now = z2 := by
            have still : z1.p.present = true := hz
            rw [Cavern.rated, still]
            rfl
          rw [if_pos named, pressure, show (u.cavern n).pressed v _ s.now = z1 from pushed, show u.manifold = s.manifold from rfl, rated] at free
          refine ⟨free, fun room => ?_⟩
          have value := (State.pressing_one v ch.val (s.plant.rateSpacing * 1000) s.now).rule_foldl cavernNumbers_nodup (mem_cavernNumbers n)
            (s := u) (fun _ => show s.ring.orders.length + 8 ≤ 16 by omega)
          rw [← delivered, if_pos named, pressure, show (u.cavern n).pressed v _ s.now = z1 from pushed, show u.manifold = s.manifold from rfl,
            rated] at value
          exact value
      · have delivered : u.deliverValue ch.val s.now = storeNumbers.foldl (fun s m => s.layerEvent ch.val v m) u := by
          have shown' : (u.chan ch).presented = v := by rw [here, shown]
          rw [State.deliverValue_temperature (s := u) (by rw [here]; exact present) (by rw [here]; exact hk), shown']
        obtain ⟨only, others, told⟩ := State.layerEvents ch.val v (l := storeNumbers) (by decide) u
        rw [← delivered] at only others told
        exact ⟨fun sound => (only sound).1, fun m => ⟨fun un => others m (.inr un), fun named => told m (mem_storeNumbers m) named⟩⟩

end
section
/-!
PROOFS. What a computation leaves of the grid record and of the dispatch record (sections 7.1 and 7.12), and the supervision of
the grid meter (section 1.7).
-/

namespace Sys2Proof.Machine

/-! ## The stages of a computation -/

/-- What the first steps of a computation make of the state, apart from the notice of an adoption. -/
def State.begun (s : State) : State := { s with
  grid := { s.grid with lastComp := some s.now }
  disp := { s.disp with
    count := s.disp.count + 1, active := if s.disp.swap then s.disp.next else s.disp.active, swap := false }
  mgr := if s.disp.swap then s.editQuiet.mgr else s.mgr }

theorem State.beginComputation_emits (s : State) : Emits [] s.begun s.beginComputation := by
  cases h : s.disp.swap with
  | true =>
    have begun : s.begun = State.editQuiet { s with
        grid := { s.grid with lastComp := some s.now }
        disp := { s.disp with count := s.disp.count + 1, active := s.disp.next, swap := false } } := by
      simp only [State.begun, h, if_true]
      rfl
    rw [State.beginComputation, if_pos (show _ from h), begun]
    exact State.notify_emits _ _ _ _
  | false =>
    have begun : s.begun = { s with
        grid := { s.grid with lastComp := some s.now }, disp := { s.disp with count := s.disp.count + 1 } } := by
      simp only [State.begun, h, Bool.false_eq_true, if_false]
    rw [State.beginComputation, if_neg (fun e => Bool.false_ne_true (h.symm.trans e)), begun]
    exact .refl _

theorem State.beginComputation_grid (s : State) : s.beginComputation.grid = { s.grid with lastComp := some s.now } :=
  s.beginComputation_emits.own.agree .grid (by decide)

theorem State.beginComputation_disp (s : State) : s.beginComputation.disp = { s.disp with
    count := s.disp.count + 1, active := if s.disp.swap then s.disp.next else s.disp.active, swap := false } :=
  s.beginComputation_emits.own.agree .disp (by decide)

theorem State.holdReserve_disp (s : State) (env : Int × Int) (x y : Int) :
    (s.holdReserve env x y).disp = { s.disp with resShort := reserveShort env x y } := by
  unfold State.holdReserve
  dsimp only
  split
  case isTrue h => rw [h]
  case isFalse =>
    split <;> exact (State.notify_own _ _ _ _).agree .disp (by decide)

theorem State.targeted_disp (s : State) : s.targeted.disp = { s.disp with
    count := s.disp.count + 1, active := if s.disp.swap then s.disp.next else s.disp.active, swap := false
    resShort := reserveShort (envelope s.prepared.manifold.state s.prepared.parts) s.scheduledPower
      s.beginComputation.sched.active.reserve } := by
  rw [State.targeted, State.holdReserve_disp, show s.prepared.disp = s.beginComputation.disp from
    (s.beginComputation.markAll_keeps).agree .disp (by decide), s.beginComputation_disp]

theorem State.targeted_grid (s : State) : s.targeted.grid = { s.grid with lastComp := some s.now } := by
  have held : Keeps [.disp] s.prepared s.targeted := State.holdReserve_keeps _ _ _ _
  exact (held.agree .grid (by decide)).trans (((s.beginComputation.markAll_keeps).agree .grid (by decide)).trans s.beginComputation_grid)

theorem State.keepRecord_disp (s : State) (r : CompRecord) : ∃ n, (s.keepRecord r).disp =
    { s.disp with last := some r, target := r.target, fresh := false, period := n } := by
  unfold State.keepRecord State.periodStep
  dsimp only
  split
  · exact ⟨0, (State.offerRecord_own _ _).agree .disp (by decide)⟩
  · exact ⟨_, rfl⟩

theorem State.keepRecord_last (s : State) (r : CompRecord) : (s.keepRecord r).disp.last = some r := by
  obtain ⟨n, h⟩ := s.keepRecord_disp r
  rw [h]

/-- The record a computation makes. -/
def State.recordOf (s : State) (k : TriggerKind) (fDev : Int) : CompRecord :=
  if s.mode.mode.dispatches then s.fullRecord k fDev else s.baseRecord k fDev

theorem State.targeted_mode (s : State) : s.targeted.mode = s.mode := s.targeted_keeps.agree .mode (by decide)

theorem State.compute_last (s : State) (k : TriggerKind) (fDev : Int) : (s.compute k fDev).disp.last = some (s.recordOf k fDev) := by
  rw [State.compute_eq, State.recordOf, State.targeted_mode]
  split <;> exact State.keepRecord_last _ _

theorem CompRecord.eta (r : CompRecord) : ∃ d u l, r = { r with deficit := d, unplaced := u, slots := l } :=
  ⟨r.deficit, r.unplaced, r.slots, rfl⟩

theorem State.fullRecord_base (s : State) (k : TriggerKind) (fDev : Int) : ∃ d u l, s.fullRecord k fDev =
    { s.baseRecord k fDev with deficit := d, unplaced := u, slots := l } := by
  unfold State.fullRecord
  generalize s.baseRecord k fDev = r
  exact ⟨_, _, _, rfl⟩

/-- The two records of a computation differ in what S8 has placed. -/
theorem State.recordOf_base (s : State) (k : TriggerKind) (fDev : Int) : ∃ d u l, s.recordOf k fDev =
    { s.baseRecord k fDev with deficit := d, unplaced := u, slots := l } := by
  unfold State.recordOf
  split
  · exact s.fullRecord_base k fDev
  · exact CompRecord.eta _

/-- Everything after the reserve test leaves the grid record. -/
theorem State.compute_grid (s : State) (k : TriggerKind) (fDev : Int) : (s.compute k fDev).grid = { s.grid with lastComp := some s.now } := by
  rw [State.compute_eq, ← s.targeted_grid]
  have kept (u : State) (r : CompRecord) : (u.keepRecord r).grid = u.grid := (u.keepRecord_keeps r).agree .grid (by decide)
  split
  · have issued : Leaves [.trains, .disp] s.targeted (s.issued fDev).state :=
      (Issue.foldl_keeps { state := s.targeted, count := 0, first := none } (s.rampedValues fDev)).1
    refine (kept _ _).trans (((State.setpointsUnplaced_own _ _ _).agree .grid (by decide)).trans ?_)
    exact ((State.unloadAll_keeps _).agree .grid (by decide)).trans (issued.agree .grid (by decide))
  · exact kept _ _

end Sys2Proof.Machine

end
section
/-!
PROOFS. The supervision of the grid meter (sections 1.5 to 1.7).
-/

namespace Sys2Proof.Machine

/-! ## The flags -/

/-- The deviation flags with their notice where GRID_DEV changes. -/
theorem State.evalDev_eq (s : State) :
    let f := s.evalDeviation
    let dev := decide (s.plant.alarm < magnitude f)
    let u : State := { s with grid := { s.grid with dev := dev, seen := s.grid.seen || (dev && !s.grid.dev) } }
    s.evalDev = if dev = s.grid.dev then u else u.notify (if dev then .gridDeviation else .gridDeviationEnd) .none [.fig f] := by
  intro f dev u
  change (if dev = s.grid.dev then s else State.notify { s with grid := { s.grid with dev := dev, seen := s.grid.seen || dev } } _ _ _) = _
  by_cases h : dev = s.grid.dev
  · rw [if_pos h, if_pos h]
    have still : s.grid = { s.grid with dev := dev, seen := s.grid.seen || (dev && !s.grid.dev) } := by
      rw [h, Bool.and_not_self, Bool.or_false]
    exact congrArg (fun g => { s with grid := g }) still
  · have flip (x y : Bool) (h : ¬ x = y) : (x && !y) = x := by cases x <;> cases y <;> simp_all
    have seen : (s.grid.seen || dev) = (s.grid.seen || (dev && !s.grid.dev)) := by rw [flip _ _ h]
    rw [if_neg h, if_neg h]
    exact congrArg (fun b => State.notify { s with grid := { s.grid with dev := dev, seen := b } } _ _ _) seen

theorem State.gridView_bound {s : State} {c : Fin 96} (h : s.gridBound = some c.val) : s.gridView = (s.chan c).presented := by
  obtain ⟨kind, present⟩ := State.gridBound_kind h
  simp only [State.gridView, h]
  exact State.viewOf_val present kind

/-- The deviation of a bound reading that computes. -/
theorem State.evalDeviation_bound {s : State} {c : Fin 96} (h : s.gridBound = some c.val) (hu : (s.chan c).presented.quality.usable = true) :
    s.evalDeviation = s.deviation (s.chan c).presented := by
  rw [State.evalDeviation, State.gridView_bound h, if_pos hu]

theorem State.evalDeviation_unusable {s : State} {c : Fin 96} (h : s.gridBound = some c.val)
    (hu : (s.chan c).presented.quality.usable = false) : s.evalDeviation = 0 := by
  rw [State.evalDeviation, State.gridView_bound h, hu]
  rfl

/-! ## The reading -/

theorem State.deliverValue_grid {s : State} {c : Fin 96} (h : s.gridBound = some c.val) (t : Nat) :
    s.deliverValue c.val t = s.gridValue (s.chan c).presented t := by
  obtain ⟨kind, present⟩ := State.gridBound_kind h
  have unbound {k : ChanKind} (hk : k ≠ .frequency) : ¬ s.boundTo c.val k = true := by
    rw [State.boundTo_val, kind, beq_eq_false_iff_ne.mpr hk.symm, Bool.and_false]
    nofun
  rw [State.deliverValue, if_neg (unbound (k := .pressure) nofun), if_neg (unbound (k := .temperature) nofun), if_pos h, State.viewOf_val present kind]

theorem Channel.presented_inst {x : Channel} (h : x.present = true) :
    x.presented.inst = if x.p.substFlag then x.p.substitute else x.inst := by
  rw [Channel.presented_present h]
  split <;> rfl

/-- The quality of an accepted reading is one that triggers, unless the channel presents its substitute. -/
theorem Channel.accept_triggers {x : Channel} (h : x.present = true) (raw : Int) (now : Nat) :
    (x.accept raw now).presented.quality.triggers = !x.p.substFlag := by
  have present : (x.accept raw now).present = true := h
  have computed (n : Nat) : (qualityAfter x.p raw n).triggers = true := by
    unfold qualityAfter
    split
    · rfl
    · split <;> rfl
  rw [Channel.presented_present present, Channel.accept_p]
  cases x.p.substFlag with
  | true => rfl
  | false => exact computed _

theorem Quality.usable_of {q : Quality} (h : q ≠ .none ∧ q ≠ .stale) : q.usable = true := by
  obtain ⟨none, stale⟩ := h
  cases q with
  | none => exact absurd rfl none
  | stale => exact absurd rfl stale
  | settling | good | outOfRange | substituted => rfl

theorem State.spaced_iff (s : State) (t : Nat) :
    s.spaced t = true ↔ s.grid.lastComp = none ∨ ∃ l, s.grid.lastComp = some l ∧ l + s.plant.spacing ≤ t := by
  unfold State.spaced
  split
  case h_1 h => simp only [h, true_or]
  case h_2 l h => simp only [h, decide_eq_true_iff, reduceCtorEq, false_or, Option.some.injEq, exists_eq_left']

theorem State.performs_iff (s : State) : s.performs = true ↔ s.mode.mode ≠ .off ∧ s.clock.state ≠ .invalid := by
  simp only [State.performs, State.clockRuns, Bool.and_eq_true, bne_iff_ne]

/-- A trigger that is performed. -/
theorem State.trigger_performed {s : State} (h : s.performs = true) (k : TriggerKind) (fDev : Int) :
    s.trigger k fDev = if s.mode.mode = .auto then (s.compute k fDev).commitmentRun (s.recordOf k fDev).req else s.compute k fDev := by
  have mode : (s.compute k fDev).mode = s.mode := (s.compute_keeps k fDev).agree .mode (by decide)
  have req : (s.compute k fDev).lastRequest = (s.recordOf k fDev).req := by rw [State.lastRequest, s.compute_last]
  rw [State.trigger, if_pos h]
  dsimp only
  rw [mode, req]

theorem State.trigger_ignored {s : State} (h : s.performs = false) (k : TriggerKind) (fDev : Int) : s.trigger k fDev = s := by
  rw [State.trigger, h]
  rfl

/-- What a performed trigger records. -/
theorem State.trigger_records {s t : State} {k : TriggerKind} {fDev : Int}
    (ht : t = if s.mode.mode = .auto then (s.compute k fDev).commitmentRun (s.recordOf k fDev).req else s.compute k fDev) :
    t.disp.last = some (s.recordOf k fDev) ∧ t.grid = { s.grid with lastComp := some s.now } := by
  have committed (r : Int) := ((s.compute k fDev).commitmentRun_keeps r).agree
  subst ht
  split
  · exact ⟨(committed _ .last (by decide)).trans (s.compute_last k fDev), (committed _ .grid (by decide)).trans (s.compute_grid k fDev)⟩
  · exact ⟨s.compute_last k fDev, s.compute_grid k fDev⟩

theorem State.recordOf_trigger (s : State) (k : TriggerKind) (fDev : Int) :
    (s.recordOf k fDev).trigger = k ∧ (s.recordOf k fDev).fDev = fDev ∧ (s.recordOf k fDev).count = s.disp.count + 1 := by
  obtain ⟨d, u, l, base⟩ := s.recordOf_base k fDev
  rw [base]
  refine ⟨rfl, rfl, ?_⟩
  change s.targeted.disp.count = _
  rw [s.targeted_disp]

/-- A frame that is forwarded or dropped touches the ring and the reports alone. -/
theorem State.forwardOrDrop_ringOnly (s : State) (f : Frame) : RingOnly s (s.forwardOrDrop f) := by
  unfold State.forwardOrDrop
  split
  · exact s.enqueue_ringOnly f
  · exact ⟨_, _, rfl, rfl⟩

/-! ## The expiry -/

/-- A timer whose deadline can be next. -/
theorem State.expiry_next {s : State} {t : Timer} {d : Nat} (hh : s.held = false) (hn : s.timerNext d = true) (hd : s.deadline t = some d) :
    s.expiry t = (s.passTo d).expire t := by
  simp only [State.expiry, hd, hh, hn, and_self, if_true]

theorem exec_freshness {s : State} {c : Fin 96} {d : Nat} (hh : s.held = false) (hn : s.timerNext d = true)
    (hd : (s.chan c).timer = some d) : exec (.freshnessExpiry c) s = .next ((s.passTo d).freshnessExpired c) :=
  congrArg Host.Outcome.next (State.expiry_next (t := .freshness c) hh hn hd)

theorem State.freshnessExpired_shown {s : State} {c : Fin 96} (hq : (s.chan c).quality.triggers = true)
    (hs : (s.chan c).p.substFlag = true ∨ (s.chan c).present = false) :
    s.freshnessExpired c = s.setChan c { s.chan c with timer := none, quality := .stale } := by
  have shown : ((s.chan c).p.substFlag || !(s.chan c).present) = true := by
    rcases hs with h | h <;> rw [h]
    · rfl
    · exact Bool.or_true _
  rw [State.freshnessExpired, if_pos hq, if_pos shown]

theorem State.freshnessExpired_stale {s : State} {c : Fin 96} (hq : (s.chan c).quality.triggers = true)
    (hs : (s.chan c).p.substFlag = false) (hp : (s.chan c).present = true) :
    s.freshnessExpired c = ((s.setChan c { s.chan c with timer := none, quality := .stale }).deliverQuality c.val).gridStale c.val
      (s.chan c).last := by
  rw [State.freshnessExpired, if_pos hq, if_neg (by rw [hs, hp]; exact Bool.false_ne_true)]

theorem State.freshnessExpired_quiet {s : State} {c : Fin 96} (hq : (s.chan c).quality.triggers = false) :
    s.freshnessExpired c = s.setChan c { s.chan c with timer := none } := by
  rw [State.freshnessExpired, if_neg (fun e => Bool.false_ne_true (hq.symm.trans e))]

/-- A quality event nobody has bound. -/
theorem State.deliverQuality_unnamed {s : State} {n : Nat} (hc : ∀ c, ¬ (s.cavern c).names n = true) (hm : ∀ m, ¬ (s.store m).names n) :
    s.deliverQuality n = s := by
  have caverns (l : List (Fin 4)) :
      l.foldl (fun s c => if (s.cavern c).names n then s.cavernQuality c (s.viewOf n .pressure) else s) s = s := by
    induction l with
    | nil => rfl
    | cons c l ih => rw [List.foldl_cons, if_neg (hc c), ih]
  have stores (l : List (Fin 3)) : l.foldl (fun s m => s.layerEvent n (s.viewOf n .temperature) m) s = s := by
    induction l with
    | nil => rfl
    | cons m l ih => rw [List.foldl_cons, State.layerEvent_unnamed (hm m), ih]
  rw [State.deliverQuality, caverns, stores]

/-- The grid record once its channel has gone STALE. -/
def State.gridLost (s : State) : Grid := { s.grid with
  tracking := false, timer := if s.grid.tracking then some (s.now + s.plant.fallbackPeriod) else s.grid.timer, dev := false }

theorem State.enterFallback_eq (s : State) : s.enterFallback = { s with grid := { s.grid with
    tracking := false, timer := if s.grid.tracking then some (s.now + s.plant.fallbackPeriod) else s.grid.timer } } := by
  unfold State.enterFallback
  cases h : s.grid.tracking with
  | true => rfl
  | false =>
    have same : s.grid = { s.grid with tracking := false, timer := s.grid.timer } := by rw [← h]
    exact congrArg (fun g => { s with grid := g }) same

/-- GRID_METER_STALE and then GRID_DEVIATION_END. -/
theorem State.gridStale_eq {s : State} {c : Fin 96} (h : s.gridBound = some c.val) (hu : (s.chan c).presented.quality.usable = false)
    (ha : 0 ≤ s.plant.alarm) (last : Option Nat) :
    let w := s.notify .gridMeterStale .none [.fig c.val, figItem (last.map Int.ofNat)]
    let v : State := { w with grid := s.gridLost }
    s.gridStale c.val last = if s.grid.dev then v.notify .gridDeviationEnd .none [.fig 0] else v := by
  intro w v
  have own : Own s w := State.notify_own _ _ _ _
  obtain ⟨r, p, shape, -⟩ := own.ringOnly
  have entered : w.enterFallback = { w with grid := { s.grid with
      tracking := false, timer := if s.grid.tracking then some (s.now + s.plant.fallbackPeriod) else s.grid.timer } } := by
    rw [State.enterFallback_eq, shape]
  have bound : w.enterFallback.gridBound = some c.val := by
    rw [entered]
    exact (State.gridBound_congr (own.agree .chans (by decide)) (own.agree .plant (by decide))).trans h
  have chan : w.enterFallback.chan c = s.chan c := (w.enterFallback_keeps.agree.chan (by decide) c).trans (own.agree.chan (by decide) c)
  have deviation : w.enterFallback.evalDeviation = 0 := State.evalDeviation_unusable bound (by rw [chan]; exact hu)
  have plant : w.enterFallback.plant = s.plant := (w.enterFallback_keeps.agree .plant (by decide)).trans (own.agree .plant (by decide))
  have quiet : decide (w.enterFallback.plant.alarm < magnitude w.enterFallback.evalDeviation) = false := by
    rw [deviation, plant]
    exact decide_eq_false (Int.not_lt.mpr ha)
  have grid : { w.enterFallback.grid with dev := false, seen := w.enterFallback.grid.seen || (false && !w.enterFallback.grid.dev) } = s.gridLost := by
    rw [entered, Bool.false_and, Bool.or_false]
    rfl
  have dev : w.enterFallback.grid.dev = s.grid.dev := by rw [entered]
  rw [State.gridStale, if_pos h, State.evalDev_eq]
  dsimp only
  rw [quiet, grid, dev, deviation]
  have base : { w.enterFallback with grid := s.gridLost } = v := by rw [entered]
  rw [base]
  cases s.grid.dev <;> rfl

end Sys2Proof.Machine

open Sys2Proof Sys2Proof.Machine

/-- Settles O7: the flags, then the trigger; an expiry is the fallback and then the flags. -/
theorem gridSupervision : Obligations.GridSupervision := by
  refine ⟨fun s h slot a b c rest ch hp hl held bound valid => ?_, fun s c d hh hn hd bound quality raw alarm => ?_,
    fun s c d hh hn hd bound quality shown => ?_⟩
  · intro body f x fDev dev u w back v triggers
    have present : (s.chan ch).present = true := State.tapMap_present held
    have here : (s.countReceived.setChan ch x).chan ch = x := State.chan_setChan_same _ _ _
    have bound' : (s.countReceived.setChan ch x).gridBound = some ch.val := (State.gridBound_setChan (s := s.countReceived) (c := ch) (x := x) rfl).trans bound
    have usable : ((s.countReceived.setChan ch x).chan ch).presented.quality.usable = true := by
      rw [here]
      exact Quality.usable_of (Channel.accept_usable present _ _)
    have inst : x.presented.inst = if x.p.substFlag then x.p.substitute else x.inst := Channel.presented_inst (x := x) present
    have deviation : (s.countReceived.setChan ch x).evalDeviation = fDev := by
      rw [State.evalDeviation_bound bound' usable, here, State.deviation, inst]
      rfl
    have judged : (s.countReceived.setChan ch x).evalDev = w := by
      rw [State.evalDev_eq, deviation]
      rfl
    have own : Own u w := by
      by_cases same : dev = s.grid.dev
      · rw [show w = u from if_pos same]
        exact .refl u
      · rw [show w = u.notify _ .none [.fig fDev] from if_neg same]
        exact State.notify_own _ _ _ _
    have grid : w.grid = u.grid := own.agree .grid (by decide)
    have plant : w.plant = s.plant := own.agree .plant (by decide)
    have mode : w.mode = s.mode := own.agree .mode (by decide)
    have clock : w.clock = s.clock := own.agree .clock (by decide)
    have now : w.now = s.now := own.agree .now (by decide)
    have disp : w.disp = s.disp := own.agree .disp (by decide)
    have gate : (x.presented.quality.triggers && w.spaced s.now) = true ↔ triggers := by
      rw [Bool.and_eq_true, Channel.accept_triggers present, State.spaced_iff, grid, plant]
      exact and_congr_left fun _ => Bool.not_eq_true' _ ▸ Iff.rfl
    have entered : w.enterTracking = v := by
      have tracking : w.grid.tracking = s.grid.tracking := by rw [grid]
      rw [State.enterTracking, tracking]
    have fDev' : w.deviation x.presented = fDev := by
      rw [State.deviation, inst, plant]
    have taken : (s.countReceived.setChan ch x).deliverValue ch.val s.now = if triggers then v.trigger .reading fDev else w := by
      rw [State.deliverValue_grid bound', here, State.gridValue, judged, entered, fDev']
      exact if_congr gate rfl rfl
    have run : exec (.sample h body) s = .next ((if triggers then v.trigger .reading fDev else w).forwardOrDrop f) := by
      rw [← taken, show exec (.sample h body) s = _ from exec_sample hp hl slot a b c,
        State.takeReading_valid (s := s.countReceived) (r := ⟨slot.toNat, int24 a b c⟩) held valid]
      rfl
    have kept : Keeps [.grid] w v := entered ▸ w.enterTracking_keeps
    have vmode : v.mode = s.mode := Eq.trans (kept.agree .mode (by decide)) mode
    have performs : v.performs = true ↔ s.mode.mode ≠ .off ∧ s.clock.state ≠ .invalid := by
      have vclock : v.clock = s.clock := Eq.trans (kept.agree .clock (by decide)) clock
      rw [State.performs_iff, vmode, vclock]
    refine ⟨fun no => ?_, fun yes off => ?_, fun yes on runs => ?_⟩
    · rw [run, if_neg no]
    · rw [run, if_pos yes, State.trigger_ignored]
      rw [← Bool.not_eq_true, performs]
      exact fun ⟨on, runs⟩ => off.elim on runs
    · have vnow : v.now = s.now := Eq.trans (kept.agree .now (by decide)) now
      have vdisp : v.disp = s.disp := Eq.trans (kept.agree .disp (by decide)) disp
      have tracked : v.grid = { u.grid with tracking := true, timer := none } := by
        by_cases tr : s.grid.tracking
        · rw [show v = back from if_pos tr, ← grid]
        · rw [show v = back.notify _ _ _ from if_neg tr, ← grid]
          exact (State.notify_own _ _ _ _).agree .grid (by decide)
      obtain ⟨trigger, fig, count⟩ := v.recordOf_trigger .reading fDev
      have triggered := State.trigger_performed (performs.mpr ⟨on, runs⟩) .reading fDev
      obtain ⟨last, zgrid⟩ := State.trigger_records triggered
      obtain ⟨r, p, shape, -⟩ := (v.trigger .reading fDev).forwardOrDrop_ringOnly f
      rw [if_pos yes] at run
      refine ⟨_, v.recordOf .reading fDev, run, ?_, trigger, fig, ?_, ?_, ?_⟩
      · rw [shape]
        exact last
      · rw [count, vdisp]
      · rw [shape]
        change (v.trigger .reading fDev).grid = _
        rw [zgrid, tracked, vnow]
      · rw [triggered, vmode]
  · have quiet : (s.chan c).quality.triggers = true := by rcases quality with q | q | q <;> rw [q] <;> rfl
    have present : (s.chan c).present = true := (State.gridBound_kind bound).2
    have run := exec_freshness hh hn hd
    rw [State.freshnessExpired_stale (s := s.passTo d) quiet raw present] at run
    intro u w g v
    have plain : u.gridBound = some c.val := 
      (State.gridBound_setChan (s := s.passTo d) (c := c) (x := { s.chan c with timer := none, quality := .stale }) rfl).trans bound
    have unusable (z : State) (same : z.chans = u.chans) : (z.chan c).presented.quality.usable = false := by
      have here : z.chan c = { s.chan c with timer := none, quality := .stale } := by
        rw [State.chan, same]
        exact State.chan_setChan_same _ _ _
      rw [here, Channel.presented, if_neg]
      · rfl
      · rw [Bool.and_eq_true]
        exact fun h => Bool.false_ne_true (raw.symm.trans h.2)
    refine ⟨⟨_, run, ?_⟩, fun caverns stores => ?_⟩
    · have kept := (u.deliverQuality_keeps c.val).agree
      have chans : (u.deliverQuality c.val).chans = u.chans := kept .chans (by decide)
      have plant : (u.deliverQuality c.val).plant = s.plant := kept .plant (by decide)
      have grid : (u.deliverQuality c.val).grid = s.grid := kept .grid (by decide)
      have now : (u.deliverQuality c.val).now = u.now := kept .now (by decide)
      have bound' : (u.deliverQuality c.val).gridBound = some c.val := (State.gridBound_congr chans (kept .plant (by decide))).trans plain
      have lost : (u.deliverQuality c.val).gridLost = g := by rw [State.gridLost, grid, now, plant]
      change ((u.deliverQuality c.val).gridStale c.val (s.chan c).last).grid = g
      rw [State.gridStale_eq bound' (unusable _ chans) (by rw [plant]; exact alarm), lost]
      split
      · exact (State.notify_own _ _ _ _).agree .grid (by decide)
      · rfl
    · rw [run]
      have alone : u.deliverQuality c.val = u := State.deliverQuality_unnamed
        (fun n => by rw [Cavern.names_iff]; exact fun h => caverns n h.1 h.2) fun m h => by
          obtain ⟨l, hl, e⟩ := h.2
          exact stores m h.1 l hl e
      change Host.Outcome.next ((u.deliverQuality c.val).gridStale c.val (s.chan c).last) = _
      rw [alone, State.gridStale_eq plain (unusable u rfl) alarm]
      have item : figItem ((s.chan c).last.map Int.ofNat) = (match (s.chan c).last with | none => .none | some t => .fig t) := by
        cases (s.chan c).last <;> rfl
      rw [item] <;> rfl
  · have quiet : (s.chan c).quality.triggers = true := by rcases quality with q | q | q <;> rw [q] <;> rfl
    rw [exec_freshness hh hn hd, State.freshnessExpired_shown (s := s.passTo d) quiet (.inl shown)]
    rfl

end
section
/-!
PROOFS. A sweep of orders over slots: the orders are placed while the order queue has room, and each slot's record and track
answer to whether its order was (sections 7.11 and 8.2, R62, R132).
-/

namespace Sys2Proof.Machine

/-! ## Train records, tracks and own orders -/

/-- A state with the train records and tracks of another. -/
def State.stirred (s t : State) : State := { s with trains := t.trains, disp := { s.disp with tracks := t.disp.tracks } }

/-- Train records and tracks move, and own frames add the orders `os`; behind a sending port the queue takes every one. -/
structure Stirs (os : List OwnOrder) (s t : State) : Prop where
  emits : Emits os (s.stirred t) t
  busy : s.ring.sending ≠ none → t.ring.sending = s.ring.sending ∧ t.ring.orders.length = s.ring.orders.length + os.length

theorem State.stirred_silent (t : State) : Silent (·.stirred t) := ⟨fun _ _ _ => rfl, fun _ => rfl, fun _ => rfl⟩

theorem Stirs.refl (s : State) : Stirs [] s s := ⟨.refl s, fun _ => ⟨rfl, rfl⟩⟩

theorem Stirs.trans {os os' : List OwnOrder} {a b c : State} (h : Stirs os a b) (k : Stirs os' b c) : Stirs (os ++ os') a c where
  emits := (h.emits.map (State.stirred_silent c)).trans k.emits
  busy hs := by
    obtain ⟨port, length⟩ := h.busy hs
    obtain ⟨port', length'⟩ := k.busy (by rw [port]; exact hs)
    exact ⟨port'.trans port, by rw [length', length, List.length_append, Nat.add_assoc]⟩

theorem Emits.stirs {os : List OwnOrder} {s t : State} (h : Emits os s t)
    (hb : s.ring.sending ≠ none → t.ring.sending = s.ring.sending ∧ t.ring.orders.length = s.ring.orders.length + os.length) : Stirs os s t := by
  refine ⟨?_, hb⟩
  have same : s.stirred t = s := by
    obtain ⟨r, p, rfl, -⟩ := h.own
    rfl
  rw [same]
  exact h

theorem State.place_stirs {s : State} (h : s.orderRoom = true) (n : Nat) (o : Order) (v : Int) :
    Stirs [⟨BitVec.ofNat 8 n, o, v⟩] s (s.place n o v) := by
  refine (State.place_emits h n o v).stirs fun hs => ?_
  rw [show s.place n o v = (s.queued _).pump from rfl, State.pump_busy (s := s.queued _) hs]
  exact ⟨rfl, List.length_append⟩

theorem State.notify_stirs (s : State) (n : NoticeName) (x : SourceRecord) (l : List Item) : Stirs [] s (s.notify n x l) := by
  refine (s.notify_emits n x l).stirs fun hs => ?_
  unfold State.notify State.notifyAs State.offerNotice
  split
  · split
    · rw [State.joinReports_busy (s := { s with rep := { s.rep with lostNotice := 0 } }) hs]
      exact ⟨rfl, rfl⟩
    · exact ⟨rfl, rfl⟩
  · exact ⟨rfl, rfl⟩

theorem State.setTrack_stirs (s : State) (i : Fin 8) (v : Int) : Stirs [] s (s.setTrack i v) := ⟨.refl _, fun _ => ⟨rfl, rfl⟩⟩

theorem State.setTrain_stirs (s : State) (i : Fin 8) (y : Train) : Stirs [] s (s.setTrain i y) := ⟨.refl _, fun _ => ⟨rfl, rfl⟩⟩

namespace Stirs

variable {os : List OwnOrder} {s t : State}

theorem agree (h : Stirs os s t) : Agree [.trains, .trainParams, .stacks, .disp] s t := fun a ha => by
  refine (h.emits.own.agree a (by simp)).trans ?_
  cases a <;> first | rfl | exact absurd (by decide) ha

theorem disp (h : Stirs os s t) : t.disp = { s.disp with tracks := t.disp.tracks } := h.emits.own.agree .disp (by decide)

theorem portSound (h : Stirs os s t) (sound : s.portSound) : t.portSound := h.emits.own.portSound sound

theorem ownOrders (h : Stirs os s t) (sound : s.portSound) : t.ownOrders = s.ownOrders ++ os := h.emits.orders sound

theorem frames (h : Stirs os s t) (sound : s.portSound) : OwnFramesOnly (s.stirred t) t := h.emits.frames sound

end Stirs

/-! ## The room of the order queue -/

/-- The orders `os` join the own orders; behind a sending port the queue takes every one. -/
structure Adds (os : List OwnOrder) (s t : State) : Prop where
  port : s.portSound → t.portSound
  orders : s.portSound → t.ownOrders = s.ownOrders ++ os
  waiting : t.ring.orders.length ≤ s.ring.orders.length + os.length
  busy : s.ring.sending ≠ none → t.ring.sending = s.ring.sending ∧ t.ring.orders.length = s.ring.orders.length + os.length

theorem Stirs.adds {os : List OwnOrder} {s t : State} (h : Stirs os s t) : Adds os s t :=
  ⟨h.portSound, h.ownOrders, h.emits.waiting, h.busy⟩

theorem Adds.of_ring {s t : State} (hr : t.ring = s.ring) (hp : t.rep.queue = s.rep.queue) : Adds [] s t where
  port sound := by rw [State.portSound, hr, hp]; exact sound
  orders _ := by rw [State.ownOrders, hr, List.append_nil]; rfl
  waiting := by rw [hr]; exact Nat.le_refl _
  busy _ := by rw [hr]; exact ⟨rfl, rfl⟩

theorem Adds.trans {os os' : List OwnOrder} {a b c : State} (h : Adds os a b) (k : Adds os' b c) : Adds (os ++ os') a c where
  port := k.port ∘ h.port
  orders sound := by rw [k.orders (h.port sound), h.orders sound, List.append_assoc]
  waiting := by
    have := h.waiting
    have := k.waiting
    rw [List.length_append]
    omega
  busy hs := by
    obtain ⟨port, length⟩ := h.busy hs
    obtain ⟨port', length'⟩ := k.busy (by rw [port]; exact hs)
    exact ⟨port'.trans port, by rw [length', length, List.length_append, Nat.add_assoc]⟩

/-- The order queue takes `r` orders more, if no more than `n` come. -/
def State.spare (s : State) (r n : Nat) : Prop :=
  (s.ring.sending ≠ none ∧ r = 16 - s.ring.orders.length) ∨ (n ≤ r ∧ s.ring.orders.length + n ≤ 16)

theorem State.spare_start {s : State} (sound : s.portSound) {n : Nat} (hn : n ≤ 16) : s.spare (16 - s.ring.orders.length) n := by
  by_cases hs : s.ring.sending = none
  · have none : s.ring.orders.length = 0 := by rw [(sound hs).2.1]; rfl
    exact .inr ⟨by omega, by omega⟩
  · exact .inl ⟨hs, rfl⟩

theorem State.spare_room {s : State} {r n : Nat} (h : s.spare r (n + 1)) : s.orderRoom = true ↔ 0 < r := by
  rw [State.orderRoom, decide_eq_true_iff, Config.orderCap]
  rcases h with ⟨-, h⟩ | ⟨h, h'⟩ <;> omega

theorem Adds.spare {os : List OwnOrder} {s t : State} (h : Adds os s t) {r n : Nat} (hs : s.spare r (n + os.length)) :
    t.spare (r - os.length) n := by
  have := h.waiting
  rcases hs with ⟨busy, room⟩ | ⟨few, room⟩
  · obtain ⟨port, length⟩ := h.busy busy
    exact .inl ⟨by rw [port]; exact busy, by omega⟩
  · exact .inr ⟨by omega, by omega⟩

theorem State.spare_mono {s : State} {r m n : Nat} (h : s.spare r n) (hm : m ≤ n) : s.spare r m :=
  h.imp_right fun ⟨few, room⟩ => ⟨hm.trans few, by omega⟩

/-! ## Sweeps -/

/-- The record and the track of a slot. -/
def State.slot (s : State) (i : Fin 8) : Train × Int := (s.train i, s.disp.tracks.get i)

/-- One step of a sweep: an item whose order is due is given it while there is room. -/
structure SweepStep {α : Type} (slot : α → Fin 8) (P : α → Bool) (o : α → OwnOrder) (y : α → Bool → Train × Int) (u v : State) (a : α) :
    Prop where
  stirs : Stirs (if P a && u.orderRoom then [o a] else []) u v
  slots : ∀ j, v.slot j = if j = slot a then y a (P a && u.orderRoom) else u.slot j

theorem SweepStep.of {α : Type} {slot : α → Fin 8} {P : α → Bool} {o : α → OwnOrder} {y : α → Bool → Train × Int} {u v : State} {a : α} {b : Bool}
    (hb : (P a && u.orderRoom) = b) (stirs : Stirs (if b then [o a] else []) u v)
    (slots : ∀ j, v.slot j = if j = slot a then y a b else u.slot j) : SweepStep slot P o y u v a := by
  subst hb
  exact ⟨stirs, slots⟩

/-- The items whose orders find a place. -/
def placed {α : Type} (P : α → Bool) (r : Nat) (l : List α) : List α := (l.filter P).take r

theorem placed_cons {α : Type} (P : α → Bool) (r : Nat) (a : α) (l : List α) :
    placed P r (a :: l) = if P a && decide (0 < r) then a :: placed P (r - 1) l else placed P r l := by
  unfold placed
  cases h : P a with
  | false => rw [List.filter_cons_of_neg (by rw [h]; exact Bool.false_ne_true)]; rfl
  | true =>
    rw [List.filter_cons_of_pos h]
    cases r with
    | zero => simp only [List.take_zero, Nat.lt_irrefl, decide_false, Bool.and_false, Bool.false_eq_true, if_false]
    | succ r => simp only [List.take_succ_cons, Nat.zero_lt_succ, decide_true, Bool.and_true, if_true, Nat.add_sub_cancel]

theorem placed_subset {α : Type} {P : α → Bool} {r : Nat} {l : List α} {a : α} (h : a ∈ placed P r l) : a ∈ l :=
  (List.mem_filter.mp (List.mem_of_mem_take h)).1

/-- A sweep gives the first of the due orders their places, as far as the room goes. -/
theorem sweep {α : Type} [DecidableEq α] {slot : α → Fin 8} {P : α → Bool} {o : α → OwnOrder} {y : α → Bool → Train × Int}
    {f : State → α → State} {s : State}
    (step : ∀ u a, (∃ os, Stirs os s u) → u.slot (slot a) = s.slot (slot a) → SweepStep slot P o y u (f u a) a)
    {l : List α} (hl : (l.map slot).Nodup) {u : State} (hu : ∃ os, Stirs os s u) (fresh : ∀ a ∈ l, u.slot (slot a) = s.slot (slot a))
    {r n : Nat} (hr : u.spare r (l.length + n)) :
    Stirs ((placed P r l).map o) u (l.foldl f u) ∧ (l.foldl f u).spare (r - (l.filter P).length) n ∧
    (∀ a ∈ l, (l.foldl f u).slot (slot a) = y a (decide (a ∈ placed P r l))) ∧
    ∀ j, (∀ a ∈ l, slot a ≠ j) → (l.foldl f u).slot j = u.slot j := by
  induction l generalizing u r with
  | nil =>
    have none : placed P r [] = [] := List.take_nil
    exact ⟨by rw [none]; exact Stirs.refl u, State.spare_mono hr (by simp), nofun, fun _ _ => rfl⟩
  | cons a l ih =>
    rw [List.map_cons, List.nodup_cons] at hl
    obtain ⟨apart, nodup⟩ := hl
    have apart' (b : α) (hb : b ∈ l) : slot b ≠ slot a := fun e => apart (e ▸ List.mem_map_of_mem hb)
    obtain ⟨os, before⟩ := hu
    obtain ⟨stirs, slots⟩ := step u a ⟨os, before⟩ (fresh a List.mem_cons_self)
    have room : u.orderRoom = decide (0 < r) := by
      rw [Bool.eq_iff_iff, decide_eq_true_iff]
      exact State.spare_room (n := l.length + n) (by rw [List.length_cons] at hr; rwa [Nat.add_right_comm] at hr)
    rw [room] at stirs slots
    have spare : (f u a).spare (r - (if P a && decide (0 < r) then [o a] else []).length) (l.length + n) := by
      refine stirs.adds.spare (State.spare_mono hr ?_)
      rw [List.length_cons]
      split <;> simp only [List.length_cons, List.length_nil] <;> omega
    have fresh' (b : α) (hb : b ∈ l) : (f u a).slot (slot b) = s.slot (slot b) := by
      rw [slots, if_neg (apart' b hb)]
      exact fresh b (List.mem_cons_of_mem a hb)
    obtain ⟨rest, left, theirs, others⟩ := ih nodup ⟨_, before.trans stirs⟩ fresh' spare
    have mine : (l.foldl f (f u a)).slot (slot a) = y a (P a && decide (0 < r)) := by
      rw [others _ apart', slots, if_pos rfl]
    have other (j : Fin 8) (hj : ∀ b ∈ a :: l, slot b ≠ j) : (l.foldl f (f u a)).slot j = u.slot j := by
      rw [others j fun b hb => hj b (List.mem_cons_of_mem a hb), slots, if_neg (hj a List.mem_cons_self).symm]
    have absent (k : Nat) : a ∉ placed P k l := fun h => apart (List.mem_map_of_mem (placed_subset h))
    rw [List.foldl_cons, placed_cons]
    by_cases due : (P a && decide (0 < r)) = true
    · rw [if_pos due] at stirs rest left theirs
      rw [if_pos due]
      rw [due] at mine
      obtain ⟨hP, hr'⟩ := Bool.and_eq_true_iff.mp due
      refine ⟨stirs.trans rest, ?_, fun b hb => ?_, other⟩
      · rw [List.filter_cons_of_pos hP, List.length_cons, Nat.add_comm, ← Nat.sub_sub]
        exact left
      · rcases List.mem_cons.mp hb with rfl | hb
        · rw [mine, decide_eq_true List.mem_cons_self]
        · rw [theirs b hb]
          have ne : b ≠ a := fun e => apart' b hb (congrArg slot e)
          simp only [List.mem_cons, ne, false_or, List.length_cons, List.length_nil]
    · rw [if_neg due] at stirs rest left theirs
      rw [if_neg due]
      rw [Bool.not_eq_true] at due
      rw [due] at mine
      refine ⟨stirs.trans rest, ?_, fun b hb => ?_, other⟩
      · rcases Bool.and_eq_false_iff.mp due with hP | hr'
        · rw [List.filter_cons_of_neg (by rw [hP]; exact Bool.false_ne_true)]
          exact left
        · have : r = 0 := Nat.eq_zero_of_not_pos (of_decide_eq_false hr')
          subst this
          simpa only [Nat.zero_sub] using left
      · rcases List.mem_cons.mp hb with rfl | hb
        · rw [mine, decide_eq_false (absent r)]
        · exact theirs b hb

/-! ## The loading order -/

theorem State.loadingOrder_nodup (s : State) (k : TrainKind) : (s.loadingOrder k).Nodup := by
  refine List.nodup_flatMap.mpr ⟨fun p _ => List.Nodup.filter _ (by decide), List.Pairwise.imp (fun {a b} h => ?_) List.nodup_range⟩
  intro i hi hj
  have position {p : Nat} (h : i ∈ slotNumbers.filter fun i => (s.train i).present && (s.train i).p.kind == k && (s.train i).p.position == p + 1) :
      (s.train i).p.position = p + 1 := by
    have := (List.mem_filter.mp h).2
    simp only [Bool.and_eq_true, beq_iff_eq] at this
    exact this.2
  exact h (Nat.succ_injective ((position hi).symm.trans (position hj)))

/-- The loading orders of both kinds. -/
def State.bothOrders (s : State) : List (Fin 8) := s.loadingOrder .expander ++ s.loadingOrder .compressor

theorem State.bothOrders_nodup (s : State) : s.bothOrders.Nodup := by
  refine List.Nodup.append (s.loadingOrder_nodup _) (s.loadingOrder_nodup _) fun i hi hj => ?_
  exact nomatch (State.mem_loadingOrder hi).2.symm.trans (State.mem_loadingOrder hj).2

theorem nodup_slots_length {l : List (Fin 8)} (h : l.Nodup) : l.length ≤ 8 := by
  simpa only [Fintype.card_fin] using h.length_le_card

theorem State.loadingOrder_congr {s t : State} (h : ∀ i, (t.train i).p = (s.train i).p) (k : TrainKind) :
    t.loadingOrder k = s.loadingOrder k := by
  simp only [State.loadingOrder, Train.present, h]

end Sys2Proof.Machine

end
section
/-!
PROOFS. The marks, the SETPOINTs and the UNLOADs of a computation (sections 7.6 to 7.11).
-/

namespace Sys2Proof.Machine

/-! ## What a computation reads of the trains -/

section
variable {s t : State}

theorem State.plantFactor_congr (hc : t.caverns = s.caverns) (d : Direction) : t.plantFactor d = s.plantFactor d := by
  unfold State.plantFactor State.openCaverns State.cavern
  rw [hc]

theorem State.availMax_congr (hc : t.caverns = s.caverns) (hm : t.stores = s.stores) {i : Fin 8} (hp : (t.train i).p = (s.train i).p) :
    t.availMax i = s.availMax i := by
  unfold State.availMax
  rw [hp]
  split
  · rfl
  · rw [State.plantFactor_congr hc, State.storeFactor, State.storeFactor, hp]
    unfold State.store
    rw [hm]

theorem State.starves_congr (hc : t.caverns = s.caverns) (hm : t.stores = s.stores) {i : Fin 8} (hp : (t.train i).p = (s.train i).p) :
    t.starves i = s.starves i := by
  rw [State.starves, State.starves, State.availMax_congr hc hm hp, hp]

theorem State.parts_congr (hc : t.caverns = s.caverns) (hm : t.stores = s.stores) (hp : ∀ i, (t.train i).p = (s.train i).p)
    (hs : ∀ i, (t.train i).state = (s.train i).state) : t.parts = s.parts := by
  have avail : t.availMax = s.availMax := funext fun i => State.availMax_congr hc hm (hp i)
  have part : t.takesPart = s.takesPart := funext fun i => by
    rw [State.takesPart, State.takesPart, State.starves_congr hc hm (hp i), Train.isIn_congr (hp i) (hs i)]
  simp only [State.parts, State.loadingOrder_congr hp, part, avail, hp]

end

/-! ## The STARVED marks -/

/-- The record of a slot with its STARVED mark set afresh. -/
def State.marked' (s : State) (i : Fin 8) : Train :=
  { s.train i with starved := if (s.train i).isIn .loaded then s.starves i else (s.train i).starved }

theorem State.markStarved_stirs (s : State) (i : Fin 8) : Stirs [] s (s.markStarved i) := by
  unfold State.markStarved
  dsimp only
  split
  · split
    · exact (s.setTrain_stirs i _).trans (State.notify_stirs _ _ _ _)
    · exact s.setTrain_stirs i _
  · exact .refl s

theorem State.markStarved_train (s : State) (i j : Fin 8) : (s.markStarved i).train j = if j = i then s.marked' i else s.train j := by
  unfold State.markStarved
  by_cases h : (s.train i).isIn .loaded = true
  · have marked : s.marked' i = { s.train i with starved := s.starves i } := by rw [State.marked', if_pos h]
    rw [if_pos h, marked]
    dsimp only
    split
    · exact ((State.notify_own _ _ _ _).agree.train (by decide) j).trans (State.train_setTrain _ _ _ _)
    · exact State.train_setTrain _ _ _ _
  · have marked : s.marked' i = s.train i := by rw [State.marked', if_neg h]
    rw [if_neg h, marked]
    split
    case isTrue e => rw [e]
    case isFalse => rfl

theorem State.markStarved_tracks (s : State) (i : Fin 8) : (s.markStarved i).disp = s.disp :=
  (s.markStarved_keeps i).agree .disp (by decide)

/-- A mark does not tell on another. -/
theorem State.markStarved_marked (s : State) (i j : Fin 8) : (s.markStarved i).marked' j = s.marked' j := by
  have kept := (s.markStarved_keeps i).agree
  have p : ((s.markStarved i).train j).p = (s.train j).p := kept.train_p (by decide) j
  have starves : (s.markStarved i).starves j = s.starves j := State.starves_congr (kept .caverns (by decide)) (kept .stores (by decide)) p
  rw [State.marked', starves, s.markStarved_train i j]
  split
  case isTrue e =>
    subst e
    have isIn : (s.marked' j).isIn .loaded = (s.train j).isIn .loaded := Train.isIn_congr rfl rfl _
    rw [isIn, State.marked']
    split <;> rfl
  case isFalse => rfl

theorem State.markAll_stirs (s : State) : Stirs [] s s.markAll := by
  unfold State.markAll
  generalize slotNumbers = l
  induction l generalizing s with
  | nil => exact .refl s
  | cons i l ih => exact (s.markStarved_stirs i).trans (ih _)

theorem State.markAll_train (s : State) (i : Fin 8) : s.markAll.train i = s.marked' i := by
  have swept (l : List (Fin 8)) (u : State) : (l.foldl State.markStarved u).train i = if i ∈ l then u.marked' i else u.train i := by
    induction l generalizing u with
    | nil => rfl
    | cons k l ih =>
      rw [List.foldl_cons, ih, u.markStarved_marked, u.markStarved_train]
      by_cases e : i = k <;> simp [e]
  exact (swept slotNumbers s).trans (if_pos (mem_slotNumbers i))

/-! ## The stages before S8 -/

theorem State.notify_adds (s : State) (n : NoticeName) (x : SourceRecord) (l : List Item) : Adds [] s (s.notify n x l) :=
  (s.notify_stirs n x l).adds

theorem State.adoptSet_adds (s : State) (n : Word) : Adds [] s (s.adoptSet n) :=
  Adds.trans (os := []) (b := State.editQuiet { s with disp := { s.disp with active := s.disp.next, swap := false } }) (.of_ring rfl rfl)
    (State.notify_adds _ _ _ _)

theorem State.beginComputation_adds (s : State) : Adds [] s s.beginComputation := by
  have counted : Adds [] s { s with grid := { s.grid with lastComp := some s.now }, disp := { s.disp with count := s.disp.count + 1 } } :=
    .of_ring rfl rfl
  unfold State.beginComputation
  dsimp only
  split
  · exact counted.trans (State.adoptSet_adds _ _)
  · exact counted

theorem State.holdReserve_adds (s : State) (env : Int × Int) (x y : Int) : Adds [] s (s.holdReserve env x y) := by
  unfold State.holdReserve
  dsimp only
  split
  · exact .of_ring rfl rfl
  · have held : Adds [] s { s with disp := { s.disp with resShort := reserveShort env x y } } := .of_ring rfl rfl
    split <;> exact held.trans (State.notify_adds _ _ _ _)

theorem State.targeted_adds (s : State) : Adds [] s s.targeted :=
  (s.beginComputation_adds.trans s.beginComputation.markAll_stirs.adds).trans (State.holdReserve_adds _ _ _ _)

theorem State.offerRecord_adds (s : State) (l : List Item) : Adds [] s (s.offerRecord l) := by
  have port := fun sound => (s.offerRecord_own l).portSound sound
  unfold State.offerRecord at port ⊢
  split at port
  case isTrue h =>
    rw [if_pos h]
    refine ⟨port, fun sound => ?_, State.pump_waiting _, fun hs => ?_⟩
    · rw [List.append_nil]
      exact State.joinReports_ownOrders sound _
    · rw [State.joinReports_busy hs]
      exact ⟨rfl, rfl⟩
  case isFalse h =>
    rw [if_neg h]
    exact .of_ring rfl rfl

theorem State.keepRecord_adds (s : State) (r : CompRecord) : Adds [] s (s.keepRecord r) := by
  unfold State.keepRecord State.periodStep
  dsimp only
  split
  · exact Adds.trans (os := []) (b := { s with disp := { s.disp with last := some r, target := r.target, fresh := false, period := 0 } })
      (.of_ring rfl rfl) (State.offerRecord_adds _ _)
  · exact .of_ring rfl rfl

/-- What the stages before S8 leave of a train. -/
theorem State.targeted_train (s : State) (i : Fin 8) : s.targeted.train i = s.marked' i := by
  have held : Keeps [.disp] s.prepared s.targeted := State.holdReserve_keeps _ _ _ _
  have begun := s.beginComputation_keeps.agree
  have train (j : Fin 8) : s.beginComputation.train j = s.train j := begun.train (by decide) j
  have starves : s.beginComputation.starves i = s.starves i :=
    State.starves_congr (begun .caverns (by decide)) (begun .stores (by decide)) (by rw [train])
  rw [held.agree.train (by decide), State.prepared, State.markAll_train, State.marked', train, starves]
  rfl

theorem State.prepared_train (s : State) (i : Fin 8) : s.prepared.train i = s.marked' i := by
  have held : Keeps [.disp] s.prepared s.targeted := State.holdReserve_keeps _ _ _ _
  rw [← s.targeted_train, held.agree.train (by decide)]

theorem State.prepared_parts (s : State) : s.prepared.parts = s.parts := by
  have kept := s.prepared_keeps.agree
  refine State.parts_congr (kept .caverns (by decide)) (kept .stores (by decide)) ?_ ?_ <;> exact fun i => by rw [s.prepared_train]; rfl

theorem State.targeted_tracks (s : State) : s.targeted.disp.tracks = s.disp.tracks := by rw [s.targeted_disp]

/-! ## The SETPOINTs -/

/-- One SETPOINT of S8, as an effect on the state alone. -/
def State.issueOne (s : State) (v : Fin 8 × Int) : State := (Issue.one ⟨s, 0, none⟩ v).state

/-- The change of a slot's setpoint reaches the quantum (R131). -/
def State.reaches (s : State) (v : Fin 8 × Int) : Bool := decide (s.disp.active.quantum ≤ magnitude (v.2 - (s.train v.1).setpoint))

/-- The SETPOINT of a value. -/
def State.setpointOrder (s : State) (v : Fin 8 × Int) : OwnOrder := ⟨BitVec.ofNat 8 (s.train v.1).p.node, .setpoint, v.2⟩

/-- The slot of a value once its SETPOINT was placed or not. -/
def State.issuedSlot (s : State) (v : Fin 8 × Int) (b : Bool) : Train × Int :=
  ({ s.train v.1 with setpoint := if b then v.2 else (s.train v.1).setpoint }, v.2)

theorem State.orderRoom_setTrack (s : State) (i : Fin 8) (v : Int) : (s.setTrack i v).orderRoom = s.orderRoom := rfl

theorem Issue.one_eq (x : Issue) (v : Fin 8 × Int) : x.one v =
    if x.state.reaches v then
      if x.state.orderRoom then
        { x with state := ((x.state.setTrack v.1 v.2).place (x.state.train v.1).p.node .setpoint v.2).recordSetpoint v.1 v.2 }
      else { state := x.state.setTrack v.1 v.2, count := x.count + 1, first := x.first.orElse fun _ => some v.1 }
    else { x with state := x.state.setTrack v.1 v.2 } := by
  unfold Issue.one State.reaches
  dsimp only
  by_cases h : magnitude (v.2 - (x.state.train v.1).setpoint) < x.state.disp.active.quantum
  · rw [if_pos (show magnitude (v.2 - ((x.state.setTrack v.1 v.2).train v.1).setpoint) < (x.state.setTrack v.1 v.2).disp.active.quantum from h),
      if_neg (mt of_decide_eq_true (Int.not_le.mpr h))]
  · rw [if_neg (show ¬ magnitude (v.2 - ((x.state.setTrack v.1 v.2).train v.1).setpoint) < (x.state.setTrack v.1 v.2).disp.active.quantum from h),
      if_pos (decide_eq_true (Int.not_lt.mp h))]
    rfl

theorem Issue.one_state (x : Issue) (v : Fin 8 × Int) : (x.one v).state = x.state.issueOne v := by
  rw [State.issueOne, Issue.one_eq, Issue.one_eq]
  dsimp only
  split
  · split <;> rfl
  · rfl

theorem Issue.one_count (x : Issue) (v : Fin 8 × Int) :
    (x.one v).count = x.count + if x.state.reaches v && !x.state.orderRoom then 1 else 0 := by
  rw [Issue.one_eq]
  cases x.state.reaches v <;> cases x.state.orderRoom <;> rfl

theorem Issue.foldl_state (x : Issue) (l : List (Fin 8 × Int)) : (l.foldl Issue.one x).state = l.foldl State.issueOne x.state := by
  induction l generalizing x with
  | nil => rfl
  | cons v l ih => rw [List.foldl_cons, ih, Issue.one_state]; rfl

theorem State.slot_setTrack (s : State) (i j : Fin 8) (v : Int) :
    (s.setTrack i v).slot j = if j = i then (s.train i, v) else s.slot j := by
  have track : (s.setTrack i v).disp.tracks.get j = if j = i then v else s.disp.tracks.get j := Vector.get_set _ _ _ _
  rw [State.slot, track]
  split
  case isTrue e => rw [e]; rfl
  case isFalse => rfl

theorem State.slot_setTrain (s : State) (i j : Fin 8) (y : Train) :
    (s.setTrain i y).slot j = if j = i then (y, s.disp.tracks.get i) else s.slot j := by
  rw [State.slot, State.train_setTrain]
  split
  case isTrue e => rw [e]; rfl
  case isFalse => rfl

theorem Stirs.slot_place {s : State} (h : s.orderRoom = true) (n : Nat) (o : Order) (v : Int) (j : Fin 8) : (s.place n o v).slot j = s.slot j := by
  have own := s.place_own h n o v
  rw [State.slot, own.agree.train (by decide), show (s.place n o v).disp = s.disp from own.agree .disp (by decide)]
  rfl

/-- One SETPOINT is a step of a sweep. -/
theorem State.issueOne_step {s u : State} (hu : ∃ os, Stirs os s u) {v : Fin 8 × Int} (fresh : u.slot v.1 = s.slot v.1) :
    SweepStep Prod.fst s.reaches s.setpointOrder s.issuedSlot u (u.issueOne v) v := by
  obtain ⟨os, before⟩ := hu
  have train : u.train v.1 = s.train v.1 := congrArg Prod.fst fresh
  have active : u.disp.active = s.disp.active := by rw [before.disp]
  have reaches : u.reaches v = s.reaches v := by rw [State.reaches, State.reaches, train, active]
  have tracked : Stirs [] u (u.setTrack v.1 v.2) := u.setTrack_stirs _ _
  have one : u.issueOne v = if s.reaches v then
      if u.orderRoom then ((u.setTrack v.1 v.2).place (u.train v.1).p.node .setpoint v.2).recordSetpoint v.1 v.2 else u.setTrack v.1 v.2
      else u.setTrack v.1 v.2 := by
    rw [State.issueOne, Issue.one_eq, ← reaches]
    split
    · split <;> rfl
    · rfl
  have still (j : Fin 8) : (u.setTrack v.1 v.2).slot j = if j = v.1 then s.issuedSlot v false else u.slot j := by
    rw [State.slot_setTrack, train]
    rfl
  by_cases due : s.reaches v = true
  · rw [if_pos due] at one
    by_cases room : u.orderRoom = true
    · rw [if_pos room] at one
      have sent := State.place_stirs (s := u.setTrack v.1 v.2) room (u.train v.1).p.node .setpoint v.2
      have kept (k : Fin 8) := Stirs.slot_place (s := u.setTrack v.1 v.2) room (u.train v.1).p.node .setpoint v.2 k
      refine .of (b := true) (by rw [due, room]; rfl) ?_ fun j => ?_
      · rw [one, if_pos rfl, State.setpointOrder, ← train]
        exact (tracked.trans sent).trans (State.setTrain_stirs _ _ _)
      · have here := kept v.1
        rw [still, if_pos rfl] at here
        rw [one, State.recordSetpoint, State.slot_setTrain, kept, still, show State.train _ v.1 = _ from congrArg Prod.fst here,
          show (State.disp _).tracks.get v.1 = _ from congrArg Prod.snd here]
        split <;> rfl
    · rw [if_neg room] at one
      rw [Bool.not_eq_true] at room
      rw [one]
      exact .of (b := false) (by rw [room, Bool.and_false]) tracked still
  · rw [if_neg due] at one
    rw [Bool.not_eq_true] at due
    rw [one]
    exact .of (b := false) (by rw [due, Bool.false_and]) tracked still

/-- S8 counts the SETPOINTs the queue did not take. -/
theorem Issue.foldl_count {s : State} {l : List (Fin 8 × Int)} (hl : (l.map Prod.fst).Nodup) {x : Issue} (hx : ∃ os, Stirs os s x.state)
    (fresh : ∀ v ∈ l, x.state.slot v.1 = s.slot v.1) {r n : Nat} (hr : x.state.spare r (l.length + n)) :
    (l.foldl Issue.one x).count = x.count + ((l.filter s.reaches).length - r) := by
  induction l generalizing x r with
  | nil => simp only [List.foldl_nil, List.filter_nil, List.length_nil, Nat.zero_sub, Nat.add_zero]
  | cons v l ih =>
    rw [List.map_cons, List.nodup_cons] at hl
    obtain ⟨apart, nodup⟩ := hl
    obtain ⟨os, before⟩ := hx
    have here := fresh v List.mem_cons_self
    obtain ⟨stirs, slots⟩ := State.issueOne_step ⟨os, before⟩ here
    rw [List.length_cons, Nat.add_right_comm] at hr
    have room : x.state.orderRoom = decide (0 < r) := by
      rw [Bool.eq_iff_iff, decide_eq_true_iff]
      exact State.spare_room hr
    have reaches : x.state.reaches v = s.reaches v := by
      rw [State.reaches, State.reaches, before.disp, show x.state.train v.1 = s.train v.1 from congrArg Prod.fst here]
    rw [room] at stirs
    have spare : (x.state.issueOne v).spare (r - (if s.reaches v && decide (0 < r) then [s.setpointOrder v] else []).length) (l.length + n) := by
      refine stirs.adds.spare (State.spare_mono hr ?_)
      split <;> simp only [List.length_cons, List.length_nil] <;> omega
    have next := ih nodup (x := x.one v) ⟨_, by rw [Issue.one_state]; exact before.trans stirs⟩
      (fun w hw => by
        have ne : w.1 ≠ v.1 := fun e => apart (e ▸ List.mem_map_of_mem hw)
        rw [Issue.one_state, slots, if_neg ne]
        exact fresh w (List.mem_cons_of_mem v hw))
      (by rw [Issue.one_state]; exact spare)
    rw [List.foldl_cons, next, Issue.one_count, reaches, room]
    by_cases due : s.reaches v = true
    · rw [List.filter_cons_of_pos due, List.length_cons, due]
      rcases Nat.eq_zero_or_pos r with rfl | hr
      · simp only [Nat.lt_irrefl, decide_false, Bool.and_false, Bool.false_eq_true, if_false, List.length_nil, Bool.not_false, Bool.and_self,
          if_true]
        omega
      · simp only [hr, decide_true, Bool.and_self, if_true, List.length_cons, List.length_nil, Bool.not_true, Bool.and_false, Bool.false_eq_true,
          if_false]
        omega
    · rw [List.filter_cons_of_neg due]
      rw [Bool.not_eq_true] at due
      simp only [due, Bool.false_and, Bool.false_eq_true, if_false, List.length_nil, Nat.sub_zero, Nat.add_zero]

/-! ## Orders of the part that leave the flow -/

theorem State.shifted_stirs (s : State) (i : Fin 8) (y : Train) (c : Cause) : Stirs [] s (s.shifted i y s.conv c) :=
  ((s.setTrain_stirs i y).trans (State.setTrack_stirs _ i y.setpoint)).trans (State.notify_stirs _ _ _ _)

theorem State.shifted_slot (s : State) (i j : Fin 8) (y : Train) (c : Cause) :
    (s.shifted i y s.conv c).slot j = if j = i then (y, y.setpoint) else s.slot j := by
  have own := s.shifted_own i y s.conv c
  have same : (s.shifted i y s.conv c).slot j = ((s.setTrain i y).setTrack i y.setpoint).slot j := by
    rw [State.slot, own.agree.train (by decide), show (s.shifted i y s.conv c).disp = _ from own.agree .disp (by decide)]
    rfl
  rw [same, State.slot_setTrack, State.train_setTrain_same, State.slot_setTrain]
  split <;> rfl

theorem State.originate_full {s : State} {i : Fin 8} {o : Order} (ha : admission (s.train i).state o = none) (hl : o ≠ .load)
    (room : s.orderRoom = false) : s.originate i o = s.trainQueueFull i o := by
  unfold State.originate
  rw [ha]
  dsimp only
  rw [if_neg fun e => hl e.1, if_pos room]

theorem State.originate_sent {s : State} {i : Fin 8} {o : Order} (ha : admission (s.train i).state o = none) (hl : o ≠ .load)
    (hf : s.furtherRefusal i o = none) (room : s.orderRoom = true) :
    s.originate i o = (s.place (s.train i).p.node o 0).takeOrder i o := by
  unfold State.originate
  rw [ha]
  dsimp only
  rw [if_neg fun e => hl e.1, if_neg (by rw [room]; nofun), hf]

/-- An UNLOAD of a LOADED train, a STOP of one in IDLE_RUN: the flow and the converter stay. -/
structure Steady (s : State) (i : Fin 8) (o : Order) (new : TrainState) : Prop where
  admits : admission (s.train i).state o = none
  free : s.furtherRefusal i o = none
  gives : o.gives = some new
  flows : (s.train i).state.flows = new.flows
  leaves : (s.train i).state ≠ new ∧ (s.train i).state ≠ .startWait ∧ (s.train i).state ≠ .starting
  enters : new ≠ .loaded ∧ new ≠ .tripped
  order : o ≠ .load ∧ o ≠ .trip ∧ o ≠ .tripReset

theorem Steady.unload {s : State} {i : Fin 8} (h : (s.train i).state = .loaded) : Steady s i .unload .unloading := by
  refine ⟨?_, rfl, rfl, ?_, ?_, ⟨nofun, nofun⟩, ⟨nofun, nofun, nofun⟩⟩ <;> rw [h]
  · rfl
  · rfl
  · exact ⟨nofun, nofun, nofun⟩

theorem Steady.stop {s : State} {i : Fin 8} (h : (s.train i).state = .idleRun) : Steady s i .stop .stopping := by
  refine ⟨?_, rfl, rfl, ?_, ?_, ⟨nofun, nofun⟩, ⟨nofun, nofun, nofun⟩⟩ <;> rw [h]
  · rfl
  · rfl
  · exact ⟨nofun, nofun, nofun⟩

/-- A steady order that finds room. -/
theorem Steady.sent {s : State} {i : Fin 8} {o : Order} {new : TrainState} (h : Steady s i o new) (room : s.orderRoom = true) :
    s.originate i o = (s.place (s.train i).p.node o 0).shifted i ((s.train i).put new s.now) s.conv .order := by
  have own := s.place_own room (s.train i).p.node o 0
  have train := own.agree.train (by decide) i
  have conv : (s.place (s.train i).p.node o 0).conv = s.conv := own.agree .conv (by decide)
  have now : (s.place (s.train i).p.node o 0).now = s.now := own.agree .now (by decide)
  rw [State.originate_sent h.admits h.order.1 h.free room, State.takeOrder_moves h.gives (fun e => absurd e h.order.2.1) h.order.2.2,
    State.changeTrain_steady (by rw [train]; exact h.leaves.1) (by rw [train]; exact h.flows)
      (fun e => absurd (train ▸ e) h.leaves.2.2), Train.changed_put _ h.enters, State.convAfter_other (by rw [train]; exact h.leaves.2),
    train, conv, now]

/-- A steady order is a step of a sweep. -/
theorem Steady.step {s u : State} {i : Fin 8} {o : Order} {new : TrainState} {P : Fin 8 → Bool} (hu : ∃ os, Stirs os s u)
    (fresh : u.slot i = s.slot i) (h : P i = true → Steady u i o new) {v : State} (hv : v = if P i then u.originate i o else u) :
    SweepStep id P (fun i => ⟨BitVec.ofNat 8 (s.train i).p.node, o, 0⟩)
      (fun i b => if b then ((s.train i).put new s.now, 0) else s.slot i) u v i := by
  obtain ⟨os, before⟩ := hu
  have train : u.train i = s.train i := congrArg Prod.fst fresh
  have now : u.now = s.now := before.agree .now (by decide)
  have still (j : Fin 8) : u.slot j = if j = i then s.slot i else u.slot j := by
    split
    case isTrue e => rw [e, fresh]
    case isFalse => rfl
  subst hv
  by_cases due : P i = true
  · rw [if_pos due]
    have steady := h due
    by_cases room : u.orderRoom = true
    · have shape := steady.sent room
      have own := u.place_own room (u.train i).p.node o 0
      rw [← show (u.place (u.train i).p.node o 0).conv = u.conv from own.agree .conv (by decide)] at shape
      refine .of (b := true) (by rw [due, room]; rfl) ?_ fun j => ?_
      · rw [shape, if_pos rfl, ← train]
        exact (State.place_stirs room _ _ _).trans (State.shifted_stirs _ _ _ _)
      · rw [shape, State.shifted_slot, Stirs.slot_place room, train, now]
        rfl
    · rw [Bool.not_eq_true] at room
      rw [State.originate_full steady.admits steady.order.1 room]
      refine .of (b := false) (by rw [room, Bool.and_false]) (u.notify_stirs _ _ _) fun j => ?_
      have own : Own u (u.trainQueueFull i o) := State.notify_own _ _ _ _
      rw [State.slot, own.agree.train (by decide), show (u.trainQueueFull i o).disp = u.disp from own.agree .disp (by decide)]
      exact still j
  · rw [if_neg due]
    rw [Bool.not_eq_true] at due
    exact .of (b := false) (by rw [due, Bool.false_and]) (.refl u) still

end Sys2Proof.Machine

end
section
/-!
PROOFS. The issue stage of a computation as a whole (section 7.11).
-/

namespace Sys2Proof.Machine

/-! ## The values of S7 -/

theorem residuePass_slots (r : Int) (xs : List (Part × Int)) : (residuePass r xs).2.map (·.1) = xs.map (·.1) := by
  induction xs generalizing r with
  | nil => rfl
  | cons x xs ih =>
    obtain ⟨p, v⟩ := x
    unfold residuePass
    split <;> exact congrArg (p :: ·) (ih _)

theorem residuePasses_slots (n : Nat) (r : Int) (xs : List (Part × Int)) : (residuePasses n r xs).map (·.1) = xs.map (·.1) := by
  induction n generalizing r xs with
  | zero => rfl
  | succ n ih => exact (ih _ _).trans (residuePass_slots r xs)

/-- Each train taking part has one share, whatever the magnitude. -/
theorem shares_slots (m : Int) (ps : List Part) : (shares m ps).map (·.1) = ps := by
  rw [shares_eq, residuePasses_slots, baseShares_slots]

/-- The slots taking part, in loading order. -/
theorem State.parts_slots (s : State) : s.parts.map Part.slot = s.bothOrders.filter s.takesPart := by
  rw [State.parts, List.map_map]
  exact List.map_id _

/-- The ramped values of a target over the trains taking part. -/
def State.rampedTo (s : State) (m : Int) : List (Fin 8 × Int) := (shares m s.parts).map (s.rampedValue s.sinceLast)

theorem State.rampedTo_slots (s : State) (m : Int) : (s.rampedTo m).map Prod.fst = s.bothOrders.filter s.takesPart := by
  rw [← s.parts_slots, ← shares_slots m s.parts, State.rampedTo, List.map_map, List.map_map]
  rfl

theorem State.rampedTo_nodup (s : State) (m : Int) : ((s.rampedTo m).map Prod.fst).Nodup := by
  rw [s.rampedTo_slots]
  exact s.bothOrders_nodup.filter _

theorem State.rampedValues_eq (s : State) (fDev : Int) : s.rampedValues fDev = s.rampedTo (magnitude (s.targetOf fDev)) := by
  rw [State.rampedValues, State.rampedTo, s.prepared_parts]
  refine List.map_congr_left fun x _ => ?_
  rw [State.rampedValue, State.rampedValue, s.targeted_tracks, s.targeted_train]
  rfl

theorem State.marked'_taking {s : State} {i : Fin 8} (h : s.takesPart i = true) : s.marked' i = { s.train i with starved := false } := by
  rw [State.takesPart, Bool.and_eq_true, Bool.not_eq_true'] at h
  rw [State.marked', if_pos h.1, h.2]

theorem State.marked'_unloaded {s : State} {i : Fin 8} (h : (s.train i).isIn .loaded = false) : s.marked' i = s.train i := by
  rw [State.marked', h]
  rfl

/-! ## S8 from the start of the computation -/

/-- The trains that starve, in loading order. -/
def State.starving (s : State) : List (Fin 8) :=
  s.bothOrders.filter fun i => (s.train i).isIn .loaded && decide (s.availMax i < (s.train i).p.pMin)

/-- The values whose change reaches the quantum in force after an adoption. -/
def State.dueValues (s : State) (m : Int) : List (Fin 8 × Int) :=
  (s.rampedTo m).filter fun v => decide ((if s.disp.swap then s.disp.next.quantum else s.disp.active.quantum) ≤
    magnitude (v.2 - (s.train v.1).setpoint))

/-- The room of the order queue. -/
def State.room (s : State) : Nat := 16 - s.ring.orders.length

/-- The starved trains whose UNLOAD finds a place after the SETPOINTs. -/
def State.unloadedStarving (s : State) (m : Int) : List (Fin 8) := s.starving.take (s.room - (s.dueValues m).length)

theorem State.targeted_reaches (s : State) (v : Fin 8 × Int) : s.targeted.reaches v =
    decide ((if s.disp.swap then s.disp.next.quantum else s.disp.active.quantum) ≤ magnitude (v.2 - (s.train v.1).setpoint)) := by
  have active : s.targeted.disp.active = if s.disp.swap then s.disp.next else s.disp.active := by rw [s.targeted_disp]
  rw [State.reaches, active, s.targeted_train]
  cases s.disp.swap <;> rfl

theorem State.targeted_due (s : State) (m : Int) : (s.rampedTo m).filter s.targeted.reaches = s.dueValues m :=
  List.filter_congr fun v _ => s.targeted_reaches v

theorem State.targeted_spare {s : State} (sound : s.portSound) (m : Int) : s.targeted.spare s.room ((s.rampedTo m).length + 8) := by
  have few : (s.rampedTo m).length ≤ 8 := by
    rw [← List.length_map (f := Prod.fst)]
    exact nodup_slots_length (s.rampedTo_nodup m)
  exact s.targeted_adds.spare (s.spare_start sound (by simp only [List.length_nil]; omega))

theorem State.mem_rampedTo {s : State} {m : Int} {v : Fin 8 × Int} (h : v ∈ s.rampedTo m) : s.takesPart v.1 = true := by
  have mem : v.1 ∈ s.bothOrders.filter s.takesPart := s.rampedTo_slots m ▸ List.mem_map_of_mem h
  exact (List.mem_filter.mp mem).2

/-- The trains that starve take no part. -/
theorem State.takesPart_starving {s : State} {i : Fin 8} (h : s.takesPart i = true) :
    ((s.train i).isIn .loaded && decide (s.availMax i < (s.train i).p.pMin)) = false := by
  rw [State.takesPart, Bool.and_eq_true, Bool.not_eq_true'] at h
  rw [show decide (s.availMax i < (s.train i).p.pMin) = false from h.2, Bool.and_false]

/-- The state once every SETPOINT of the targets' shares was offered. -/
structure SetpointsFrom (s : State) (m : Int) (w : State) : Prop where
  sent : Stirs (((s.dueValues m).take s.room).map s.setpointOrder) s.targeted w
  left : w.spare (s.room - (s.dueValues m).length) 8
  taking : ∀ v ∈ s.rampedTo m, w.slot v.1 =
    ({ s.train v.1 with starved := false, setpoint := if v ∈ (s.dueValues m).take s.room then v.2 else (s.train v.1).setpoint }, v.2)
  others : ∀ i, i ∉ (s.rampedTo m).map Prod.fst → w.slot i = (s.marked' i, s.disp.tracks.get i)

theorem State.issued_setpoints {s : State} (sound : s.portSound) (fDev : Int) :
    SetpointsFrom s (magnitude (s.targetOf fDev)) (s.issued fDev).state ∧
    (s.issued fDev).count = (s.dueValues (magnitude (s.targetOf fDev))).length - s.room := by
  generalize hm : magnitude (s.targetOf fDev) = m
  have vs : s.rampedValues fDev = s.rampedTo m := by rw [s.rampedValues_eq, hm]
  have spare := State.targeted_spare sound m
  have state : (s.issued fDev).state = (s.rampedTo m).foldl State.issueOne s.targeted := by
    rw [State.issued, vs]
    exact Issue.foldl_state _ _
  have count : (s.issued fDev).count = (s.dueValues m).length - s.room := by
    rw [State.issued, vs, ← s.targeted_due m]
    exact (Issue.foldl_count (s := s.targeted) (x := ⟨s.targeted, 0, none⟩) (s.rampedTo_nodup m) ⟨[], .refl _⟩ (fun _ _ => rfl) spare).trans
      (Nat.zero_add _)
  obtain ⟨sent, left, values, rest⟩ := sweep (s := s.targeted) (fun u v hu fresh => State.issueOne_step hu fresh) (s.rampedTo_nodup m)
    ⟨[], .refl _⟩ (fun _ _ => rfl) spare
  have due : placed s.targeted.reaches s.room (s.rampedTo m) = (s.dueValues m).take s.room := by rw [placed, s.targeted_due]
  have orders : ((s.dueValues m).take s.room).map s.targeted.setpointOrder = ((s.dueValues m).take s.room).map s.setpointOrder :=
    List.map_congr_left fun v _ => by rw [State.setpointOrder, s.targeted_train]; rfl
  rw [← state] at sent left values rest
  rw [s.targeted_due] at left
  rw [due] at sent values
  rw [orders] at sent
  refine ⟨⟨sent, left, fun v hv => ?_, fun i hi => ?_⟩, count⟩
  · rw [values v hv, State.issuedSlot, s.targeted_train, State.marked'_taking (State.mem_rampedTo hv)]
    simp only [decide_eq_true_eq]
  · rw [rest i fun v hv e => hi (e ▸ List.mem_map_of_mem hv), State.slot, s.targeted_train, s.targeted_tracks]

namespace SetpointsFrom

variable {s w : State} {m : Int}

/-- Every train but for its setpoint is as the marks left it. -/
theorem train (h : SetpointsFrom s m w) (i : Fin 8) : ∃ v, w.train i = { s.marked' i with setpoint := v } := by
  by_cases member : i ∈ (s.rampedTo m).map Prod.fst
  · obtain ⟨v, hv, rfl⟩ := List.mem_map.mp member
    rw [State.marked'_taking (State.mem_rampedTo hv)]
    exact ⟨_, congrArg Prod.fst (h.taking v hv)⟩
  · exact ⟨_, congrArg Prod.fst (h.others i member)⟩

theorem params (h : SetpointsFrom s m w) (i : Fin 8) : (w.train i).p = (s.train i).p := by
  obtain ⟨v, hv⟩ := h.train i
  rw [hv]
  rfl

/-- The trains to be unloaded are the starving ones. -/
theorem starved (h : SetpointsFrom s m w) (i : Fin 8) : ((w.train i).isIn .loaded && (w.train i).starved) =
    ((s.train i).isIn .loaded && decide (s.availMax i < (s.train i).p.pMin)) := by
  obtain ⟨v, hv⟩ := h.train i
  have isIn : (w.train i).isIn .loaded = (s.train i).isIn .loaded := Train.isIn_congr (h.params i) (by rw [hv]; rfl) _
  rw [isIn]
  cases hl : (s.train i).isIn .loaded with
  | false => rfl
  | true =>
    rw [hv]
    change (true && if (s.train i).isIn .loaded = true then s.starves i else _) = _
    rw [if_pos hl]
    rfl

/-- A train without a share is as the marks left it. -/
theorem untaken (h : SetpointsFrom s m w) {i : Fin 8} (hi : s.takesPart i = false) : w.slot i = (s.marked' i, s.disp.tracks.get i) := by
  refine h.others i fun member => ?_
  obtain ⟨v, hv, rfl⟩ := List.mem_map.mp member
  exact Bool.false_ne_true (hi.symm.trans (State.mem_rampedTo hv))

theorem now (h : SetpointsFrom s m w) : w.now = s.now :=
  (h.sent.agree .now (by decide)).trans (s.targeted_keeps.agree .now (by decide))

/-- The UNLOADs after the SETPOINTs: one for each starving train, while there is room. -/
theorem unloads (h : SetpointsFrom s m w) :
    Stirs ((s.unloadedStarving m).map fun i => ⟨BitVec.ofNat 8 (s.train i).p.node, .unload, 0⟩) w w.unloadAll ∧
    (∀ i ∈ s.starving, (w.unloadAll.slot i).1 =
      if i ∈ s.unloadedStarving m then { (s.train i).put .unloading s.now with starved := false } else { s.train i with starved := true }) ∧
    ∀ i, ((s.train i).isIn .loaded && decide (s.availMax i < (s.train i).p.pMin)) = false → w.unloadAll.slot i = w.slot i := by
  have order : w.loadingOrder .expander ++ w.loadingOrder .compressor = s.bothOrders := by
    rw [State.loadingOrder_congr h.params, State.loadingOrder_congr h.params]
    rfl
  have step (u : State) (i : Fin 8) (hu : ∃ os, Stirs os w u) (fresh : u.slot i = w.slot i) :
      SweepStep id (fun i => (s.train i).isIn .loaded && decide (s.availMax i < (s.train i).p.pMin))
        (fun i => ⟨BitVec.ofNat 8 (w.train i).p.node, .unload, 0⟩) (fun i b => if b then ((w.train i).put .unloading w.now, 0) else w.slot i) u
        (u.unloadStarved i) i := by
    have train : u.train i = w.train i := congrArg Prod.fst fresh
    refine Steady.step hu fresh (fun due => .unload ?_) ?_
    · rw [← h.starved, Bool.and_eq_true, Train.isIn_iff] at due
      rw [train]
      exact due.1.2
    · rw [State.unloadStarved, train, h.starved]
  obtain ⟨stopped, -, records, kept⟩ := sweep (slot := id) step (l := s.bothOrders) (by rw [List.map_id]; exact s.bothOrders_nodup)
    ⟨[], .refl w⟩ (fun _ _ => rfl) (n := 0) (State.spare_mono h.left (nodup_slots_length s.bothOrders_nodup))
  have all : w.unloadAll = s.bothOrders.foldl State.unloadStarved w := by rw [State.unloadAll, order]
  have due : placed (fun i => (s.train i).isIn .loaded && decide (s.availMax i < (s.train i).p.pMin))
      (s.room - (s.dueValues m).length) s.bothOrders = s.unloadedStarving m := rfl
  have orders : (s.unloadedStarving m).map (fun i => (⟨BitVec.ofNat 8 (w.train i).p.node, .unload, 0⟩ : OwnOrder)) =
      (s.unloadedStarving m).map fun i => ⟨BitVec.ofNat 8 (s.train i).p.node, .unload, 0⟩ := List.map_congr_left fun i _ => by rw [h.params]
  rw [due] at stopped records
  rw [orders] at stopped
  rw [← all] at stopped records kept
  refine ⟨stopped, fun i hi => ?_, fun i hi => ?_⟩
  · obtain ⟨loaded, low⟩ := Bool.and_eq_true_iff.mp (List.mem_filter.mp hi).2
    have mark : s.marked' i = { s.train i with starved := true } := by rw [State.marked', if_pos loaded, State.starves, low]
    have here := h.untaken (i := i) (by rw [State.takesPart, State.starves, low, Bool.not_true, Bool.and_false])
    rw [mark] at here
    rw [show (w.unloadAll.slot i).1 = _ from congrArg Prod.fst (records i (List.mem_of_mem_filter hi))]
    by_cases sentTo : i ∈ s.unloadedStarving m
    · have stood : (s.train i).state = .loaded := ((Train.isIn_iff _ _).mp loaded).2
      rw [if_pos sentTo, decide_eq_true sentTo, show w.train i = _ from congrArg Prod.fst here, h.now]
      simp only [if_true, Train.put, stood]
    · rw [if_neg sentTo, decide_eq_false sentTo]
      exact congrArg Prod.fst here
  · by_cases member : i ∈ s.bothOrders
    · have out : i ∉ s.unloadedStarving m := fun hm =>
        Bool.false_ne_true (hi.symm.trans (List.mem_filter.mp (List.mem_of_mem_take hm)).2)
      exact (records i member).trans (by rw [decide_eq_false out]; rfl)
    · exact kept i fun j hj e => member (e ▸ hj)

end SetpointsFrom

/-! ## The rest of the computation -/

theorem State.setpointsUnplaced_adds (s : State) (i : Option (Fin 8)) (n : Nat) : Adds [] s (s.setpointsUnplaced i n) := by
  unfold State.setpointsUnplaced
  split
  · exact .of_ring rfl rfl
  · exact s.notify_adds _ _ _

/-- The notice and the record leave the trains, the tracks and the orders. -/
theorem State.keepRecord_slot (s : State) (r : CompRecord) (i : Fin 8) : (s.keepRecord r).slot i = s.slot i := by
  obtain ⟨n, disp⟩ := s.keepRecord_disp r
  rw [State.slot, (s.keepRecord_keeps r).agree.train (by decide), disp]
  rfl

theorem State.setpointsUnplaced_slot (s : State) (x : Option (Fin 8)) (n : Nat) (i : Fin 8) : (s.setpointsUnplaced x n).slot i = s.slot i := by
  have own := s.setpointsUnplaced_own x n
  rw [State.slot, own.agree.train (by decide), show (s.setpointsUnplaced x n).disp = s.disp from own.agree .disp (by decide)]
  rfl

theorem State.fullRecord_issue (s : State) (k : TriggerKind) (fDev : Int) :
    (s.fullRecord k fDev).target = s.targetOf fDev ∧ (s.fullRecord k fDev).unplaced = some (s.issued fDev).count ∧
    (s.fullRecord k fDev).deficit = some (sat32 (magnitude (s.targetOf fDev) - sumOf ((s.rampedValues fDev).map (·.2)))) := by
  have target : (s.baseRecord k fDev).target = s.targetOf fDev := by rw [State.baseRecord]
  unfold State.fullRecord
  generalize s.baseRecord k fDev = r at target ⊢
  exact ⟨target, rfl, rfl⟩

theorem State.baseRecord_issue (s : State) (k : TriggerKind) (fDev : Int) :
    (s.baseRecord k fDev).unplaced = none ∧ (s.baseRecord k fDev).deficit = none := by
  constructor <;> rw [State.baseRecord]

theorem Stirs.foldl {α : Type} {f : State → α → State} (step : ∀ s a, ∃ os, Stirs os s (f s a)) (l : List α) (s : State) :
    ∃ os, Stirs os s (l.foldl f s) := by
  induction l generalizing s with
  | nil => exact ⟨_, .refl s⟩
  | cons a l ih =>
    obtain ⟨os, first⟩ := step s a
    obtain ⟨os', rest⟩ := ih (f s a)
    exact ⟨_, first.trans rest⟩

theorem State.unloadStarved_stirs (s : State) (i : Fin 8) : ∃ os, Stirs os s (s.unloadStarved i) := by
  refine ⟨_, (Steady.step (P := fun i => (s.train i).isIn .loaded && (s.train i).starved) ⟨[], .refl s⟩ rfl (fun h => .unload ?_) rfl).stirs⟩
  rw [Bool.and_eq_true, Train.isIn_iff] at h
  exact h.1.2

/-- S8 moves train records and tracks, and adds own orders. -/
theorem State.issued_stirs (s : State) (fDev : Int) : ∃ os, Stirs os s.targeted (s.issued fDev).state.unloadAll := by
  obtain ⟨os, sent⟩ := Stirs.foldl (f := State.issueOne) (fun u _ => ⟨_, (State.issueOne_step ⟨[], .refl u⟩ rfl).stirs⟩) (s.rampedValues fDev)
    s.targeted
  obtain ⟨os', stopped⟩ := Stirs.foldl State.unloadStarved_stirs
    ((s.issued fDev).state.loadingOrder .expander ++ (s.issued fDev).state.loadingOrder .compressor) (s.issued fDev).state
  rw [← Issue.foldl_state ⟨s.targeted, 0, none⟩] at sent
  exact ⟨_, sent.trans stopped⟩

/-- What a computation never touches. -/
theorem State.compute_agree (s : State) (k : TriggerKind) (fDev : Int) :
    Agree [.grid, .disp, .sets, .last, .mgr, .trains, .trainParams, .stacks] s (s.compute k fDev) := by
  have targeted : Agree [.grid, .disp, .sets, .last, .mgr, .trains, .trainParams, .stacks] s s.targeted := s.targeted_keeps.agree.mono (by decide)
  have kept (u : State) (r : CompRecord) : Agree [.grid, .disp, .sets, .last, .mgr, .trains, .trainParams, .stacks] u (u.keepRecord r) :=
    (u.keepRecord_keeps r).agree.mono (by decide)
  rw [State.compute_eq]
  split
  · obtain ⟨os, sent⟩ := s.issued_stirs fDev
    exact ((targeted.trans (sent.agree.mono (by decide))).trans ((State.setpointsUnplaced_own _ _ _).agree.mono (by decide))).trans (kept _ _)
  · exact targeted.trans (kept _ _)

end Sys2Proof.Machine

open Sys2Proof Sys2Proof.Machine

/-- Settles O35: the SETPOINTs and then the UNLOADs as two sweeps of the loading order. -/
theorem issueStage : Obligations.IssueStage := by
  intro s k f sound t
  have agree := s.compute_agree k f
  refine ⟨fun mode => ?_, fun mode => ?_, agree .commit (by decide), agree .manifold (by decide), agree .conv (by decide),
    agree .caverns (by decide), agree .chans (by decide), agree .stores (by decide), agree .sched (by decide), agree .clock (by decide),
    agree .mode (by decide), agree .plant (by decide)⟩
  · have dispatches : s.targeted.mode.mode.dispatches = true := by
      rw [s.targeted_mode]
      rcases mode with h | h <;> rw [h] <;> rfl
    have run : t = _ := (s.compute_eq k f).trans (if_pos dispatches)
    obtain ⟨setpoints, count⟩ := State.issued_setpoints sound f
    obtain ⟨stopped, starving, rest⟩ := setpoints.unloads
    have slots (i : Fin 8) : t.slot i = (s.issued f).state.unloadAll.slot i := by
      rw [run, State.keepRecord_slot, State.setpointsUnplaced_slot]
    have adds : Adds _ s t := run ▸ (((s.targeted_adds.trans setpoints.sent.adds).trans stopped.adds).trans
      (State.setpointsUnplaced_adds _ _ _)).trans (State.keepRecord_adds _ _)
    obtain ⟨target, unplaced, deficit⟩ := s.fullRecord_issue k f
    have last : t.disp.last = some (s.fullRecord k f) := by rw [run, State.keepRecord_last]
    generalize s.fullRecord k f = r at target unplaced deficit last
    rw [s.rampedValues_eq, ← target] at deficit
    rw [← target] at setpoints count stopped starving adds
    refine ⟨r, last, ?_⟩
    intro quantum vs due room starved unloaded order
    refine ⟨?_, unplaced.trans (congrArg some count), deficit, fun v hv => ?_, fun i hi => ?_, fun i hi => ?_⟩
    · rw [adds.orders sound]
      simp only [List.append_nil, List.nil_append, List.append_assoc]
      rfl
    · have here := (slots v.1).trans ((rest v.1 (State.takesPart_starving (State.mem_rampedTo hv))).trans (setpoints.taking v hv))
      exact ⟨congrArg Prod.snd here, congrArg Prod.fst here⟩
    · rw [show t.train i = _ from (congrArg Prod.fst (slots i)).trans (starving i hi)]
      have loaded := (Train.isIn_iff _ _).mp (Bool.and_eq_true_iff.mp (List.mem_filter.mp hi).2).1
      simp only [Train.put, TrainParams.timeout, Option.map_some]
      rfl
    · have here := (slots i).trans ((rest i (by rw [hi]; rfl)).trans (setpoints.untaken (by rw [State.takesPart, hi]; rfl)))
      rw [State.marked'_unloaded hi] at here
      exact ⟨congrArg Prod.fst here, congrArg Prod.snd here⟩
  · have dispatches : ¬ s.targeted.mode.mode.dispatches = true := by
      rw [s.targeted_mode, mode]
      exact Bool.false_ne_true
    have run : t = s.targeted.keepRecord (s.baseRecord k f) := (s.compute_eq k f).trans (if_neg dispatches)
    have slots (i : Fin 8) : t.slot i = (s.marked' i, s.disp.tracks.get i) := by
      rw [run, State.keepRecord_slot, State.slot, s.targeted_train, s.targeted_tracks]
    refine ⟨⟨s.baseRecord k f, by rw [run, State.keepRecord_last], s.baseRecord_issue k f⟩, ?_, ?_, fun i => congrArg Prod.fst (slots i)⟩
    · have adds : Adds _ s t := run ▸ s.targeted_adds.trans (State.keepRecord_adds _ _)
      rw [adds.orders sound]
      exact List.append_nil _
    · obtain ⟨n, disp⟩ := s.targeted.keepRecord_disp (s.baseRecord k f)
      rw [run, disp]
      exact s.targeted_tracks

end
section
/-!
PROOFS. The target of a computation and the reserve-short condition (sections 7.5 to 7.7).
-/

namespace Sys2Proof.Machine

/-! ## The available maxima -/

theorem leastOf_le {l : List Int} {x : Int} (h : x ∈ l) : leastOf l ≤ x := by
  induction l using leastOf.induct with
  | case1 => exact nomatch h
  | case2 y => rw [List.mem_singleton.mp h]; exact le_refl y
  | case3 y z rest ih =>
    rcases List.mem_cons.mp h with rfl | h
    · exact min_le_left _ _
    · exact (min_le_right _ _).trans (ih h)

theorem leastOf_mem {l : List Int} (h : l ≠ []) : leastOf l ∈ l := by
  induction l using leastOf.induct with
  | case1 => exact absurd rfl h
  | case2 y => exact List.mem_singleton_self y
  | case3 y z rest ih =>
    rcases min_choice y (leastOf (z :: rest)) with e | e
    · rw [leastOf, e]; exact List.mem_cons_self
    · rw [leastOf, e]; exact List.mem_cons_of_mem y (ih nofun)

theorem State.mem_openCaverns (s : State) (c : Fin 4) :
    c ∈ s.openCaverns ↔ (s.cavern c).p.present = true ∧ (s.cavern c).valve = .opened := by
  simp only [State.openCaverns, List.mem_filter, mem_cavernNumbers, true_and, Cavern.isOpen, Bool.and_eq_true, beq_iff_eq]

theorem State.availMax_kind {s : State} {i : Fin 8} {m : Fin 3} {d : Direction} (hk : (s.train i).p.kind = d.kind)
    (hm : (s.train i).p.store = m.val) :
    s.availMax i = ((s.train i).p.pMax * min (s.plantFactor d) ((s.store m).factor d)).tdiv 1000 := by
  have factor : s.storeFactor (s.train i) d = (s.store m).factor d := by
    rw [State.storeFactor, dif_pos (hm ▸ m.isLt)]
    congr 2
    exact Fin.ext hm
  simp only [State.availMax, hk, Direction.kind_dir, factor]

/-! ## The sums over the trains taking part -/

theorem trainParams_position {ws : List Word} {p : TrainParams} (h : trainParams ws = some p) : 1 ≤ p.position ∧ p.position ≤ 8 := by
  unfold trainParams at h
  split at h
  case h_2 => cases h
  case h_1 =>
    simp only [Option.bind_eq_bind, Option.bind_eq_some_iff, Option.ite_none_right_eq_some, Option.some.injEq] at h
    obtain ⟨kind, h0, node, h1, pMax, h2, pMin, h3, ramp, h4, tStart, h5, tLoad, h6, tUnload, h7, tStop, h8, store, h9,
      position, h10, flag, h11, range, rfl⟩ := h
    exact (natIn_eq_some.mp h10).1

/-- Where the tables are in range, every present train has its place in the loading orders. -/
theorem State.mem_bothOrders {s : State} (h : s.tablesInRange) {i : Fin 8} (hp : (s.train i).present = true) : i ∈ s.bothOrders := by
  obtain ⟨lo, hi⟩ := trainParams_position (h.trains i hp)
  have within (k : TrainKind) (hk : (s.train i).p.kind = k) : i ∈ s.loadingOrder k := by
    refine List.mem_flatMap.mpr ⟨(s.train i).p.position - 1, List.mem_range.mpr (by omega), List.mem_filter.mpr ⟨mem_slotNumbers i, ?_⟩⟩
    simp only [hp, hk, BEq.rfl, Bool.and_self, Bool.true_and, beq_iff_eq]
    omega
  rw [State.bothOrders, List.mem_append]
  cases hk : (s.train i).p.kind with
  | expander => exact .inl (within _ hk)
  | compressor => exact .inr (within _ hk)
  | absent => simp [Train.present, hk] at hp

theorem sumOf_eq_sum (l : List Int) : sumOf l = l.sum := by
  induction l with
  | nil => rfl
  | cons x l ih => rw [sumOf_cons, ih, List.sum_cons]

/-- The slots taking part, in slot order. -/
def State.joining (s : State) : List (Fin 8) :=
  slotNumbers.filter fun i => (s.train i).isIn .loaded && decide ((s.train i).p.pMin ≤ s.availMax i)

theorem State.takesPart_eq (s : State) (i : Fin 8) :
    s.takesPart i = ((s.train i).isIn .loaded && decide ((s.train i).p.pMin ≤ s.availMax i)) := by
  rw [State.takesPart, State.starves, ← decide_not]
  exact congrArg _ (decide_eq_decide.mpr Int.not_lt)

theorem State.joining_perm {s : State} (h : s.tablesInRange) : (s.bothOrders.filter s.takesPart).Perm s.joining := by
  refine (List.perm_ext_iff_of_nodup (s.bothOrders_nodup.filter _) (List.Nodup.filter _ (by decide))).mpr fun i => ?_
  rw [List.mem_filter, List.mem_filter, s.takesPart_eq]
  refine and_congr_left fun part => ?_
  have loaded := (Bool.and_eq_true_iff.mp part).1
  exact ⟨fun _ => mem_slotNumbers i, fun _ => State.mem_bothOrders h ((Train.isIn_iff _ _).mp loaded).1⟩

theorem State.parts_sum {s : State} (h : s.tablesInRange) {f : Part → Int} {g : Fin 8 → Int} (hf : ∀ p ∈ s.parts, f p = g p.slot) :
    sumOf (s.parts.map f) = sumOf (s.joining.map g) := by
  have slots : s.parts.map f = (s.bothOrders.filter s.takesPart).map g := by
    rw [← s.parts_slots, List.map_map]
    exact List.map_congr_left hf
  rw [slots, sumOf_eq_sum, sumOf_eq_sum]
  exact ((State.joining_perm h).map g).sum_eq

theorem State.minSum_parts {s : State} (h : s.tablesInRange) : minSum s.parts = sumOf (s.joining.map fun i => (s.train i).p.pMin) :=
  State.parts_sum h fun _ hp => (State.mem_parts hp).2.1

theorem State.maxSum_parts {s : State} (h : s.tablesInRange) : maxSum s.parts = sumOf (s.joining.map s.availMax) :=
  State.parts_sum h fun _ hp => (State.mem_parts hp).2.2.1

theorem State.parts_isEmpty {s : State} (h : s.tablesInRange) : s.parts.isEmpty = true ↔ s.joining = [] := by
  have length : s.parts.length = s.joining.length := by
    rw [← List.length_map (f := Part.slot), s.parts_slots]
    exact (State.joining_perm h).length_eq
  rw [List.isEmpty_iff, ← List.length_eq_zero_iff, ← List.length_eq_zero_iff, length]

/-! ## The target -/

/-- The request clamped into an envelope. -/
def enveloped (empty : Prop) [Decidable empty] (m : ManifoldState) (lo hi req : Int) : Int :=
  if empty then 0 else match m with
    | .discharge => max lo (min hi req)
    | .charge => -(max lo (min hi (-req)))
    | _ => 0

theorem boundedTarget_eq {ps : List Part} {empty : Prop} [Decidable empty] (he : ps.isEmpty = true ↔ empty) (hs : minSum ps ≤ maxSum ps)
    (m : ManifoldState) (req : Int) : boundedTarget m ps req = enveloped empty m (minSum ps) (maxSum ps) req := by
  cases m with
  | discharge => exact if_congr he rfl (clampTo_eq hs req)
  | charge => exact if_congr he rfl (congrArg (- ·) (clampTo_eq hs (-req)))
  | idle | changeover => exact if_congr he rfl rfl

/-- The limit of R126 on a value. -/
theorem limited_iff (no : Bool) (lim p : Int) :
    (if no then limited lim p else p) = if no = false ∨ magnitude p ≤ lim then p else if p < 0 then -lim else lim := by
  cases no with
  | false => rw [if_neg Bool.false_ne_true, if_pos (Or.inl rfl)]
  | true =>
    simp only [if_true, reduceCtorEq, false_or]
    rfl

/-- A value of an envelope, limited to no less than the envelope's least magnitude, and what it may be. -/
structure TargetWithin (empty : Prop) (m : ManifoldState) (lo hi lim : Int) (no : Bool) (p : Int) : Prop where
  magnitude : magnitude p ≤ hi
  none : empty → p = 0
  held : no = true → Sys2Proof.Machine.magnitude p ≤ lim
  discharge : m = .discharge → 0 ≤ p
  charge : m = .charge → p ≤ 0
  still : m = .idle ∨ m = .changeover → p = 0
  up : ¬ empty → m = .discharge → lo ≤ p ∧ p ≤ hi
  down : ¬ empty → m = .charge → -hi ≤ p ∧ p ≤ -lo

theorem targetWithin {empty : Prop} [Decidable empty] {m : ManifoldState} {lo hi lim : Int} (no : Bool) (h0 : 0 ≤ lo) (h1 : lo ≤ hi)
    (hl : lo ≤ lim) (req : Int) :
    TargetWithin empty m lo hi lim no
      (if no = false ∨ magnitude (enveloped empty m lo hi req) ≤ lim then enveloped empty m lo hi req
        else if enveloped empty m lo hi req < 0 then -lim else lim) := by
  have value : enveloped empty m lo hi req = 0 ∧ (empty ∨ m = .idle ∨ m = .changeover) ∨
      (¬ empty ∧ m = .discharge ∧ lo ≤ enveloped empty m lo hi req ∧ enveloped empty m lo hi req ≤ hi) ∨
      (¬ empty ∧ m = .charge ∧ -hi ≤ enveloped empty m lo hi req ∧ enveloped empty m lo hi req ≤ -lo) := by
    by_cases e : empty
    · exact .inl ⟨if_pos e, .inl e⟩
    · cases m with
      | discharge =>
        rw [show enveloped empty .discharge lo hi req = _ from if_neg e]
        exact .inr (.inl ⟨e, rfl, le_max_left _ _, max_le h1 (min_le_left _ _)⟩)
      | charge =>
        have lower : lo ≤ max lo (min hi (-req)) := le_max_left _ _
        have upper : max lo (min hi (-req)) ≤ hi := max_le h1 (min_le_left _ _)
        rw [show enveloped empty .charge lo hi req = _ from if_neg e]
        exact .inr (.inr ⟨e, rfl, neg_le_neg upper, neg_le_neg lower⟩)
      | idle => exact .inl ⟨if_neg e, .inr (.inl rfl)⟩
      | changeover => exact .inl ⟨if_neg e, .inr (.inr rfl)⟩
  generalize enveloped empty m lo hi req = b at value
  generalize hp : (if no = false ∨ magnitude b ≤ lim then b else if b < 0 then -lim else lim) = p
  have limit : p = b ∨ (no = true ∧ lim < magnitude b ∧ p = if b < 0 then -lim else lim) := by
    by_cases h : no = false ∨ magnitude b ≤ lim
    · exact .inl (hp ▸ if_pos h)
    · rw [not_or, Bool.not_eq_false, not_le] at h
      exact .inr ⟨h.1, h.2, by rw [← hp, if_neg (by rw [not_or, Bool.not_eq_false, not_le]; exact h)]⟩
  have held : no = true → magnitude p ≤ lim := fun h => by
    by_cases small : magnitude b ≤ lim
    · rw [← hp, if_pos (.inr small)]; exact small
    · rw [← hp, if_neg (by rw [h]; simp [small])]
      unfold magnitude
      split <;> split <;> omega
  clear hp
  unfold magnitude at limit
  rcases value with ⟨zero, why⟩ | ⟨full, rfl, lower, upper⟩ | ⟨full, rfl, lower, upper⟩
  · have none : p = 0 := by
      rcases limit with e | ⟨-, big, -⟩
      · omega
      · rw [zero] at big; simp at big; omega
    subst none
    refine ⟨h0.trans h1, fun _ => rfl, held, fun _ => le_refl 0, fun _ => le_refl 0, fun _ => rfl, fun ne hm => ?_, fun ne hm => ?_⟩ <;>
      rcases why with e | e | e <;> first | exact absurd e ne | exact nomatch hm.symm.trans e
  · have within : lo ≤ p ∧ p ≤ hi := by
      rcases limit with e | ⟨-, big, e⟩
      · omega
      · split at big <;> split at e <;> omega
    refine ⟨?_, fun e => absurd e full, held, fun _ => h0.trans within.1, nofun, fun h => h.elim nofun nofun, fun _ _ => within, nofun⟩
    rw [magnitude_of_nonneg (h0.trans within.1)]
    exact within.2
  · have within : -hi ≤ p ∧ p ≤ -lo := by
      rcases limit with e | ⟨-, big, e⟩
      · omega
      · split at big <;> split at e <;> omega
    refine ⟨?_, fun e => absurd e full, held, nofun, fun _ => by omega, fun h => h.elim nofun nofun, nofun, fun _ _ => within⟩
    unfold magnitude
    split <;> omega

end Sys2Proof.Machine

end
section
/-!
PROOFS. The figures of the computation record (sections 7.5 to 7.7, 7.12).
-/

namespace Sys2Proof.Machine

theorem State.schedAt_congr {s t : State} (hp : t.plant = s.plant) (hs : t.sched = s.sched) (hc : t.clock = s.clock) (u : Nat) :
    t.schedAt u = s.schedAt u := by
  unfold State.schedAt State.entryEndingAt State.entryInForce State.interval State.fallbackEntry
  rw [hp, hs, hc]

theorem State.scheduledPower_eq (s : State) : s.scheduledPower = s.schedAt s.clock.plantMs := by
  have kept := s.beginComputation_keeps.agree
  have clock : s.beginComputation.clock = s.clock := kept .clock (by decide)
  rw [State.scheduledPower, State.schedAt_congr (kept .plant (by decide)) (kept .sched (by decide)) clock, clock]

theorem State.noIncrease_congr {s t : State} (hm : t.mode = s.mode) (hc : t.caverns = s.caverns) : t.noIncrease = s.noIncrease := by
  unfold State.noIncrease State.openCaverns State.cavern
  rw [hm, hc]

theorem State.noIncrease_iff (s : State) : s.noIncrease = true ↔ s.mode.mode = .hold ∨
    ∃ c, (s.cavern c).p.present = true ∧ (s.cavern c).valve = .opened ∧ (s.cavern c).hold = true := by
  simp only [State.noIncrease, Bool.or_eq_true, beq_iff_eq, List.any_eq_true, State.mem_openCaverns, and_assoc]

/-- The reserve response of a computation, with the parameter set in force after an adoption. -/
def State.responseTo (s : State) (fDev : Int) : Int :=
  reserveResponse (if s.disp.swap then s.disp.next else s.disp.active) s.sched.active.reserve fDev

theorem State.begun_reserve (s : State) : s.beginComputation.sched = s.sched := s.beginComputation_keeps.agree .sched (by decide)

theorem State.begun_active (s : State) : s.beginComputation.disp.active = if s.disp.swap then s.disp.next else s.disp.active := by
  rw [s.beginComputation_disp]

theorem State.requestOf_eq (s : State) (fDev : Int) :
    s.requestOf fDev = sat32 (s.schedAt s.clock.plantMs + s.responseTo fDev + s.sched.trim) := by
  rw [State.requestOf, s.scheduledPower_eq, s.begun_reserve, s.begun_active, State.responseTo]

/-- The figures of S1 to S5 in the record of a computation. -/
theorem State.recordOf_figures (s : State) (k : TriggerKind) (fDev : Int) :
    let r := s.recordOf k fDev
    r.manifold = s.manifold.state ∧ r.sched = s.schedAt s.clock.plantMs ∧ r.reserve = s.sched.active.reserve ∧ r.trim = s.sched.trim ∧
    r.fcr = s.responseTo fDev ∧ r.req = s.requestOf fDev ∧ r.envMin = minSum s.parts ∧ r.envMax = maxSum s.parts ∧
    r.target = s.targetOf fDev ∧ r.shortfall = sat32 (s.requestOf fDev - s.targetOf fDev) ∧ r.noIncrease = s.noIncrease ∧
    r.resShort = s.targeted.disp.resShort := by
  obtain ⟨d, u, l, base⟩ := s.recordOf_base k fDev
  rw [base]
  have kept := s.targeted_keeps.agree
  have manifold : s.targeted.manifold = s.manifold := kept .manifold (by decide)
  have sched : s.targeted.sched = s.sched := kept .sched (by decide)
  have no : s.targeted.noIncrease = s.noIncrease := State.noIncrease_congr (kept .mode (by decide)) (kept .caverns (by decide))
  rw [State.baseRecord]
  dsimp only
  rw [manifold, sched, no, s.prepared_parts, s.scheduledPower_eq, s.begun_reserve, s.begun_active]
  exact ⟨rfl, rfl, rfl, rfl, rfl, rfl, rfl, rfl, rfl, rfl, rfl, rfl⟩

/-- The slots of the record name the trains taking part. -/
theorem State.recordOf_slots (s : State) (k : TriggerKind) (fDev : Int) :
    ∃ (u : State) (b : Bool), (s.recordOf k fDev).slots = u.slotRecords s.parts b ∧ ∀ i, (u.train i).p = (s.train i).p := by
  have targeted (i : Fin 8) : (s.targeted.train i).p = (s.train i).p := by rw [s.targeted_train]; rfl
  unfold State.recordOf
  split
  · refine ⟨(s.issued fDev).state, true, ?_, fun i => ?_⟩
    · rw [← s.prepared_parts, State.fullRecord]
    · have issued : Leaves [.trains, .disp] s.targeted (s.issued fDev).state :=
        (Issue.foldl_keeps { state := s.targeted, count := 0, first := none } (s.rampedValues fDev)).1
      exact (issued.agree.train_p (by decide) i).trans (targeted i)
  · refine ⟨s.targeted, false, ?_, targeted⟩
    rw [← s.prepared_parts, State.baseRecord]

/-- A record that names no train taking part has none. -/
theorem State.slotRecords_part {u s : State} {b : Bool} {l : List (Option SlotRecord)} (hl : l = u.slotRecords s.parts b)
    (hp : ∀ i, (u.train i).p = (s.train i).p) (h : ∀ x ∈ l, ∀ y, x = some y → y.part = false) : s.parts = [] := by
  refine List.eq_nil_iff_forall_not_mem.mpr fun p hparts => ?_
  have present : (u.train p.slot).present = true := by
    have loaded := (State.mem_parts hparts).1
    rw [Train.present, hp]
    exact ((Train.isIn_iff _ _).mp loaded).1
  have mem : u.slotRecord s.parts b p.slot ∈ l := hl ▸ List.mem_map_of_mem (mem_slotNumbers p.slot)
  have none := h _ mem _ (by rw [State.slotRecord, if_pos present])
  have named : s.parts.any (·.slot == p.slot) = true := List.any_eq_true.mpr ⟨p, hparts, BEq.rfl⟩
  exact Bool.false_ne_true (none.symm.trans named)

theorem State.prepared_target (s : State) : s.prepared.disp.target = s.disp.target := by
  have disp : s.prepared.disp = s.beginComputation.disp := s.beginComputation.markAll_keeps.agree .disp (by decide)
  rw [disp, s.beginComputation_disp]

theorem State.targetOf_eq {s : State} (h : s.tablesInRange) (fDev : Int) :
    let bounded := enveloped (s.joining = []) s.manifold.state (minSum s.parts) (maxSum s.parts) (s.requestOf fDev)
    let lim := max (magnitude s.disp.target) (minSum s.parts)
    s.targetOf fDev = if s.noIncrease = false ∨ magnitude bounded ≤ lim then bounded else if bounded < 0 then -lim else lim := by
  intro bounded lim
  have kept := s.prepared_keeps.agree
  have manifold : s.prepared.manifold = s.manifold := kept .manifold (by decide)
  have no : s.prepared.noIncrease = s.noIncrease := State.noIncrease_congr (kept .mode (by decide)) (kept .caverns (by decide))
  rw [State.targetOf, State.targetFor, manifold, no, s.prepared_target, s.prepared_parts,
    boundedTarget_eq (State.parts_isEmpty h) (State.parts_sums h).2]
  exact limited_iff _ _ _

theorem reserveShort_iff (env : Int × Int) (sched reserve : Int) :
    reserveShort env sched reserve = true ↔ 0 < reserve ∧ (sched - reserve < env.1 ∨ env.2 < sched + reserve) := by
  simp only [reserveShort, Bool.and_eq_true, Bool.or_eq_true, decide_eq_true_eq]

theorem envelope_eq {ps : List Part} {empty : Prop} [Decidable empty] (he : ps.isEmpty = true ↔ empty) {lo hi : Int} (hl : minSum ps = lo)
    (hh : maxSum ps = hi) (m : ManifoldState) :
    envelope m ps = if empty then (0, 0) else match m with
      | .discharge => (lo, hi)
      | .charge => (-hi, -lo)
      | _ => (0, 0) := by
  subst hl hh
  cases m <;> exact if_congr he rfl rfl

theorem State.targeted_resShort (s : State) : s.targeted.disp.resShort =
    reserveShort (envelope s.manifold.state s.parts) (s.schedAt s.clock.plantMs) s.sched.active.reserve := by
  have manifold : s.prepared.manifold = s.manifold := s.prepared_keeps.agree .manifold (by decide)
  rw [s.targeted_disp, manifold, s.prepared_parts, s.scheduledPower_eq, s.begun_reserve]

/-- The reserve-short condition is as the reserve test leaves it. -/
theorem State.compute_resShort (s : State) (k : TriggerKind) (fDev : Int) : (s.compute k fDev).disp.resShort = s.targeted.disp.resShort := by
  have kept (u : State) (r : CompRecord) : (u.keepRecord r).disp.resShort = u.disp.resShort := by
    obtain ⟨n, disp⟩ := u.keepRecord_disp r
    rw [disp]
  rw [State.compute_eq]
  split
  · obtain ⟨os, sent⟩ := s.issued_stirs fDev
    have disp : ((s.issued fDev).state.unloadAll.setpointsUnplaced (s.issued fDev).first (s.issued fDev).count).disp =
        (s.issued fDev).state.unloadAll.disp := (State.setpointsUnplaced_own _ _ _).agree .disp (by decide)
    rw [kept, disp, sent.disp]
  · exact kept _ _

end Sys2Proof.Machine

open Sys2Proof Sys2Proof.Machine

/-- Settles O22: the figures of the record, by the trains taking part in slot order. -/
theorem targetBounded : Obligations.TargetBounded := by
  refine ⟨fun s d => ?_, fun s k f ranged => ?_, fun s env sched reserve => ?_⟩
  · intro isOpen given
    have factor (c : Fin 4) : (s.cavern c).factor d = given c := by cases d <;> rfl
    have open' (c : Fin 4) : c ∈ s.openCaverns ↔ isOpen c := s.mem_openCaverns c
    refine ⟨fun none => ?_, fun c hc => ?_, fun ⟨c, hc⟩ => ?_, fun i m hk hm => ?_⟩
    · have empty : s.openCaverns = [] := List.eq_nil_iff_forall_not_mem.mpr fun c hc => none c ((open' c).mp hc)
      rw [State.plantFactor, empty]
      rfl
    · rw [← factor]
      exact leastOf_le (List.mem_map_of_mem ((open' c).mpr hc))
    · have full : (s.openCaverns.map fun c => (s.cavern c).factor d) ≠ [] := by
        rw [Ne, List.map_eq_nil_iff]
        exact List.ne_nil_of_mem ((open' c).mpr hc)
      obtain ⟨e, he, least⟩ := List.mem_map.mp (leastOf_mem full)
      exact ⟨e, (open' e).mp he, by rw [← factor, least]; rfl⟩
    · intro x heat
      rw [State.availMax_kind hk hm]
      cases d <;> rfl
  · intro joins lo hi m lim
    obtain ⟨manifold, sched, reserve, trim, fcr, req, envMin, envMax, target, shortfall, no, short⟩ := s.recordOf_figures k f
    obtain ⟨u, b, slots, params⟩ := s.recordOf_slots k f
    have last := s.compute_last k f
    have resShort := s.compute_resShort k f
    generalize s.recordOf k f = r at *
    have low : minSum s.parts = lo := State.minSum_parts ranged
    have high : maxSum s.parts = hi := State.maxSum_parts ranged
    obtain ⟨nonneg, ordered⟩ := State.parts_sums ranged
    have exact := State.targetOf_eq ranged f
    have within := targetWithin (empty := s.joining = []) (m := s.manifold.state) s.noIncrease nonneg ordered
      (le_max_right (magnitude s.disp.target) (minSum s.parts)) (s.requestOf f)
    rw [← exact, low, high, ← target, ← no] at within
    rw [low, high, ← target, ← no, ← req] at exact
    rw [low, high] at ordered
    rw [low] at envMin
    rw [high] at envMax
    rw [← target, ← req] at shortfall
    have empty : s.parts.isEmpty = true ↔ joins = [] := State.parts_isEmpty ranged
    refine ⟨r, last, envMax ▸ within.magnitude, fun none => within.none ?_, fun yes => envMin ▸ within.held yes, fun e => ?_, fun e => ?_, fun e => ?_,
      manifold, envMin, envMax, ordered, sched, reserve, trim, ?_, ?_, ?_, ?_, within.up, within.down, shortfall, ?_, resShort.trans short.symm,
      fun bounded i hi => ?_⟩
    · exact empty.mp (List.isEmpty_iff.mpr (State.slotRecords_part slots params none))
    · exact within.discharge (manifold.symm.trans e)
    · exact within.charge (manifold.symm.trans e)
    · rw [manifold] at e
      exact within.still e
    · rw [fcr, reserve]
      rfl
    · rw [req, s.requestOf_eq, sched, fcr, trim]
    · rw [no]
      exact s.noIncrease_iff
    · rw [exact]
      rfl
    · intro env
      have limits : envelope s.manifold.state s.parts = env := envelope_eq empty low high _
      rw [short, s.targeted_resShort, limits, reserveShort_iff, sched, reserve]
    · exact State.availMax_bounds bounded ranged ((Train.isIn_iff _ _).mp hi).1
  · intro now held
    have same : reserveShort env sched reserve = now := by
      rw [Bool.eq_iff_iff, reserveShort_iff]
      exact decide_eq_true_iff.symm
    rw [State.holdReserve, same]

end
section
/-!
PROOFS. The reversal, load, stop and idle steps of commitment (section 8.2).
-/

namespace Sys2Proof.Machine

/-! ## Own frames beside a change -/

/-- A change that own frames do not look at. -/
structure Aside (g : State → State) : Prop extends Silent g where
  now : ∀ s, (g s).now = s.now
  node : ∀ s, (g s).node = s.node
  clock : ∀ s, (g s).clock = s.clock
  plant : ∀ s, (g s).plant = s.plant
  flags : ∀ s x, (g s).notifyFlag x = s.notifyFlag x

namespace Aside

variable {g : State → State}

theorem setRep (h : Aside g) (s : State) (p : Reports) : { g s with rep := p } = g { s with rep := p } :=
  (Eq.trans (by rw [← h.ring]) (h.commutes s s.ring p).symm)

theorem setRing (h : Aside g) (s : State) (r : Ring) : { g s with ring := r } = g { s with ring := r } :=
  (Eq.trans (by rw [← h.rep]) (h.commutes s r s.rep).symm)

/-- A change of ring and reports, each as it is computed beside the change. -/
theorem set (h : Aside g) {s : State} {r r' : Ring} {p p' : Reports} (hr : r = r') (hp : p = p') :
    { g s with ring := r, rep := p } = g { s with ring := r', rep := p' } := by
  subst hr hp
  exact (h.commutes s r p).symm

theorem sendForward (h : Aside g) (s : State) : (g s).sendForward = g s.sendForward := by
  unfold State.sendForward
  rw [h.ring]
  cases s.ring.forward with
  | nil => rfl
  | cons f rest => exact h.setRing s _

theorem remember (h : Aside g) (s : State) (k : Byte) :
    (g s).ring.remember (g s).now (g s).plant.returnTimeout k = s.ring.remember s.now s.plant.returnTimeout k := by rw [h.ring, h.now, h.plant]

theorem sendOrder (h : Aside g) (s : State) : (g s).sendOrder = g s.sendOrder := by
  have orders : (g s).ring.orders = s.ring.orders := by rw [h.ring]
  have seq : (g s).ring.seqNo = s.ring.seqNo := by rw [h.ring]
  unfold State.sendOrder
  rw [orders]
  cases s.ring.orders with
  | nil => rfl
  | cons o rest => exact h.set (by rw [h.remember, seq]) (h.rep s)

theorem sendReport (h : Aside g) (s : State) : (g s).sendReport = g s.sendReport := by
  have queue : (g s).rep.queue = s.rep.queue := by rw [h.rep]
  have seq : (g s).ring.seqNo = s.ring.seqNo := by rw [h.ring]
  unfold State.sendReport
  rw [queue]
  cases s.rep.queue with
  | nil => rfl
  | cons r rest => exact h.set (by rw [h.remember, seq]) (by rw [h.rep, h.plant])

theorem pump (h : Aside g) (s : State) : (g s).pump = g s.pump := by
  unfold State.pump State.chooseNext
  rw [h.ring, h.rep, h.sendForward, h.sendOrder, h.sendReport]
  cases s.ring.sending with
  | some x => rfl
  | none =>
    dsimp only
    split
    · rfl
    · split <;> rfl

theorem joinReports (h : Aside g) (s : State) (r : Report) : (g s).joinReports r = g (s.joinReports r) := by
  rw [State.joinReports, State.joinReports, ← h.pump]
  exact congrArg State.pump (h.set (h.ring s) (by rw [h.rep, h.plant]))

theorem offerNotice (h : Aside g) (s : State) (n : Notice) : (g s).offerNotice n = g (s.offerNotice n) := by
  have room : (g s).noticeRoom = s.noticeRoom := by rw [State.noticeRoom, State.replyRoom, h.rep]; rfl
  have dest : (g s).noticeDest = s.noticeDest := by rw [State.noticeDest, h.plant]; rfl
  unfold State.offerNotice
  rw [room, dest, h.rep, h.setRep, h.setRep, h.joinReports]
  split <;> rfl

/-- A notice is raised beside the change. -/
theorem notify (h : Aside g) (s : State) (n : NoticeName) (x : SourceRecord) (l : List Item) : (g s).notify n x l = g (s.notify n x l) := by
  have passive : (g s).passive = s.passive := by rw [State.passive, h.node]; rfl
  have admits : (g s).admitsNotice n.cls x = s.admitsNotice n.cls x := by
    unfold State.admitsNotice
    rw [h.plant, h.flags]
  have sec : (g s).plantSec = s.plantSec := by rw [State.plantSec, h.clock]; rfl
  have milli : (g s).plantMilli = s.plantMilli := by rw [State.plantMilli, h.clock]; rfl
  unfold State.notify State.notifyAs
  rw [passive, admits, sec, milli, h.offerNotice]
  split <;> rfl

/-- An order is placed beside the change. -/
theorem place (h : Aside g) (s : State) (n : Nat) (o : Order) (v : Int) : (g s).place n o v = g (s.place n o v) := by
  rw [State.place, h.ring, h.setRing, h.pump]
  rfl

end Aside

theorem Aside.withCommit (c : Commitment) : Aside fun s => { s with commit := c } :=
  ⟨⟨fun _ _ _ => rfl, fun _ => rfl, fun _ => rfl⟩, fun _ => rfl, fun _ => rfl, fun _ => rfl, fun _ => rfl, fun _ x => by cases x <;> rfl⟩

/-! ## The reversal step -/

/-- The record of a train whose order was placed, and its place among the own orders. -/
theorem State.reversalStep_still {s : State} {f : Demand} (h : s.manifold.state.flow = none ∨ s.manifold.state.flow = f.desired) :
    s.reversalStep f = s := by
  unfold State.reversalStep
  rcases h with h | h
  · rw [h]
  · rw [h]
    split
    · rfl
    case h_2 d e => rw [if_pos e]

theorem State.reversalStep_flows {s : State} {f : Demand} {d : Direction} (h : s.manifold.state = d.state) (hd : f.desired ≠ some d) :
    s.reversalStep f = (s.loadingOrder d.kind).foldl State.unloadLoaded s := by
  simp only [State.reversalStep, h, Direction.state_flow, if_neg hd]

/-- A sweep of steady orders over a list of slots: their orders, records and own frames. -/
theorem State.sweep_steady {s : State} (sound : s.portSound) {l : List (Fin 8)} (hl : l.Nodup) {P : Fin 8 → Bool} {o : Order} {new : TrainState}
    {f : State → Fin 8 → State} (steady : ∀ u os, Stirs os s u → ∀ i, u.slot i = s.slot i → P i = true → Steady u i o new)
    (hf : ∀ u os, Stirs os s u → ∀ i, u.slot i = s.slot i → f u i = if P i then u.originate i o else u) :
    let t := l.foldl f s
    let k := placed P (16 - s.ring.orders.length) l
    t.ownOrders = s.ownOrders ++ k.map (fun i => ⟨BitVec.ofNat 8 (s.train i).p.node, o, 0⟩) ∧
    (∀ i, t.train i = if i ∈ k then (s.train i).put new s.now else s.train i) ∧ OwnFramesOnly (s.stirred t) t := by
  intro t k
  obtain ⟨stirs, -, records, others⟩ := sweep (slot := id) (P := P) (n := 0)
    (fun u i ⟨os, hu⟩ fresh => Steady.step ⟨os, hu⟩ fresh (steady u os hu i fresh) (hf u os hu i fresh))
    (by rw [List.map_id]; exact hl) ⟨[], .refl s⟩ (fun _ _ => rfl) (s.spare_start sound ((nodup_slots_length hl).trans (by decide)))
  refine ⟨stirs.ownOrders sound, fun i => ?_, stirs.frames sound⟩
  by_cases mem : i ∈ l
  · have record := congrArg Prod.fst (records i mem)
    refine Eq.trans record ?_
    by_cases hk : i ∈ k
    · rw [if_pos hk, decide_eq_true hk]
      rfl
    · rw [if_neg hk, decide_eq_false hk]
      rfl
  · rw [if_neg fun hk => mem (placed_subset hk)]
    exact congrArg Prod.fst (others i fun j hj e => mem (e ▸ hj))

/-! ## The load step -/

theorem Manifold.loadCheck_iff {m : Manifold} {d : Direction} :
    m.loadCheck d.kind = none ↔ m.state = .idle ∨ m.state = d.state ∨ (m.state = .changeover ∧ m.remembered = some d) := by
  unfold Manifold.loadCheck
  rw [Direction.kind_dir]
  cases h : m.state <;> cases d <;> simp [Direction.state, eq_comm]

theorem State.exceeds_iff (s : State) (x y : Int) : s.exceeds x y = true ↔ (y * s.disp.active.startPm).tdiv 1000 < x := decide_eq_true_iff

theorem State.loadStep_none {s : State} {f : Demand} (h : f.desired = none) : s.loadStep f = (s, f.cFlow) := by simp only [State.loadStep, h]

theorem State.loadStep_some {s : State} {f : Demand} {d : Direction} (h : f.desired = some d) : s.loadStep f =
    if s.manifold.loadCheck d.kind = none then (s.loadingOrder d.kind).foldl (State.loadOne f.demand) (s, f.cFlow) else (s, f.cFlow) := by
  simp only [State.loadStep, h]

theorem State.loadOne_still {demand : Int} {x : State × Int} {i : Fin 8}
    (h : (x.1.train i).isIn .idleRun = false ∨ x.1.exceeds demand x.2 = false) : State.loadOne demand x i = x := by
  unfold State.loadOne
  rw [if_neg]
  rw [Bool.and_eq_true]
  rintro ⟨h1, h2⟩
  rcases h with h | h
  · exact Bool.false_ne_true (h.symm.trans h1)
  · exact Bool.false_ne_true (h.symm.trans h2)

theorem State.loadAll_still {demand : Int} {x : State × Int} {l : List (Fin 8)}
    (h : x.1.exceeds demand x.2 = false ∨ ∀ i ∈ l, (x.1.train i).isIn .idleRun = false) : l.foldl (State.loadOne demand) x = x := by
  induction l with
  | nil => rfl
  | cons i l ih =>
    rw [List.foldl_cons, State.loadOne_still (h.symm.imp_left fun h => h i List.mem_cons_self)]
    exact ih (h.imp_right fun h j hj => h j (List.mem_cons_of_mem i hj))

/-- A LOAD of a train in IDLE_RUN that finds the order queue full. -/
theorem State.loadOne_full {demand : Int} {x : State × Int} {i : Fin 8} (hi : (x.1.train i).isIn .idleRun = true)
    (he : x.1.exceeds demand x.2 = true) (known : x.1.someUnknown = false) (room : x.1.orderRoom = false) :
    State.loadOne demand x i = (x.1.trainQueueFull i .load, x.2) := by
  have state := ((Train.isIn_iff _ _).mp hi).2
  have full : x.1.originate i .load = x.1.trainQueueFull i .load := by
    unfold State.originate
    rw [state]
    dsimp only [admission]
    rw [if_neg fun e => Bool.false_ne_true (known.symm.trans e.2), if_pos room]
  have train : (x.1.trainQueueFull i .load).train i = x.1.train i := (State.notify_own _ _ _ _).agree.train (by decide) i
  have waits : ((x.1.trainQueueFull i .load).train i).isIn .loading = false := by
    rw [train, Train.isIn, state]
    exact Bool.and_false _
  unfold State.loadOne
  rw [if_pos (by rw [hi, he]; rfl)]
  dsimp only
  rw [full, waits]
  rfl

theorem State.someUnknown_congr {s t : State} (h : ∀ i, t.train i = s.train i) : t.someUnknown = s.someUnknown := by
  unfold State.someUnknown
  simp only [h]

/-- A sweep of LOADs at a full order queue. -/
theorem State.loadAll_full {demand c : Int} {s : State} (he : s.exceeds demand c = true) (known : s.someUnknown = false)
    (busy : s.ring.sending ≠ none) (room : 16 ≤ s.ring.orders.length) (l : List (Fin 8)) :
    l.foldl (State.loadOne demand) (s, c) =
      ((l.filter fun i => (s.train i).isIn .idleRun).foldl (fun u i => u.trainQueueFull i .load) s, c) := by
  induction l generalizing s with
  | nil => rfl
  | cons i l ih =>
    cases hi : (s.train i).isIn .idleRun with
    | false =>
      rw [List.foldl_cons, State.loadOne_still (x := (s, c)) (.inl hi), 
        List.filter_cons_of_neg (p := fun j => (s.train j).isIn .idleRun) (by rw [hi]; exact Bool.false_ne_true)]
      exact ih he known busy room
    | true =>
      have closed : s.orderRoom = false := by rw [State.orderRoom_eq_false_iff]; exact room
      have own : Own s (s.trainQueueFull i .load) := State.notify_own _ _ _ _
      have train (j : Fin 8) : (s.trainQueueFull i .load).train j = s.train j := own.agree.train (by decide) j
      have disp : (s.trainQueueFull i .load).disp = s.disp := own.agree .disp (by decide)
      obtain ⟨port, length⟩ := (s.notify_stirs .queueFull (.train i) [.fig i.val, .code Order.load.num]).busy busy
      have still : l.filter (fun j => ((s.trainQueueFull i .load).train j).isIn .idleRun) = l.filter fun j => (s.train j).isIn .idleRun :=
        List.filter_congr fun j _ => by rw [train]
      rw [List.foldl_cons, State.loadOne_full (x := (s, c)) hi he known closed,
        List.filter_cons_of_pos (p := fun j => (s.train j).isIn .idleRun) hi, List.foldl_cons,
        ih (by rw [State.exceeds, disp]; exact he) ((State.someUnknown_congr train).trans known) (port.trans_ne busy)
          (length.symm ▸ room), still]

/-- A LOAD that finds room: the record moves and the manifold enters the direction. -/
theorem State.originate_load {s : State} {i : Fin 8} {d : Direction} (hi : (s.train i).state = .idleRun) (hk : (s.train i).p.kind = d.kind)
    (known : s.someUnknown = false) (admits : s.manifold.loadCheck d.kind = none) (room : s.orderRoom = true) :
    s.originate i .load =
      let u := (s.place (s.train i).p.node .load 0).shifted i ((s.train i).put .loading s.now) s.conv .order
      if s.manifold.state = d.state then u else u.manifoldTo ⟨d.state, none, none⟩ := by
  have own := s.place_own room (s.train i).p.node .load 0
  have train := own.agree.train (by decide) i
  have conv : (s.place (s.train i).p.node .load 0).conv = s.conv := own.agree .conv (by decide)
  have now : (s.place (s.train i).p.node .load 0).now = s.now := own.agree .now (by decide)
  have sent : s.originate i .load = (s.place (s.train i).p.node .load 0).takeOrder i .load := by
    unfold State.originate State.furtherRefusal
    rw [hi]
    dsimp only [admission]
    rw [if_neg fun e => Bool.false_ne_true (known.symm.trans e.2), if_neg (by rw [room]; nofun), known, hk, admits]
    rfl
  rw [sent, State.takeOrder_moves (o := .load) (new := .loading) rfl nofun nofun, State.changeTrain_moves (by rw [train, hi]; nofun),
    State.moveTrain_shifted (by rw [train, hi]; nofun), train, hi, hk, State.manifoldAnswer_began ⟨rfl, rfl⟩,
    Train.changed_put _ (new := .loading) ⟨nofun, nofun⟩, State.convAfter_other (by rw [train, hi]; exact ⟨nofun, nofun⟩), conv, now]
  generalize hu : (s.place (s.train i).p.node .load 0).shifted i ((s.train i).put .loading s.now) s.conv .order = u
  have manifold : u.manifold = s.manifold := by
    rw [← hu, State.shifted_manifold]
    exact own.agree .manifold (by decide)
  dsimp only
  split
  case isTrue e => exact State.flowBegan_flowing _ (by rw [manifold, e, Direction.state_flow]; nofun)
  case isFalse e =>
    refine State.flowBegan_enters ?_
    rw [manifold]
    rcases Manifold.loadCheck_iff.mp admits with h | h | ⟨h, -⟩
    · rw [h]; rfl
    · exact absurd h e
    · rw [h]; rfl

end Sys2Proof.Machine

end
section
/-!
PROOFS. The load step one train at a time, the stop step, the idle step (section 8.2).
-/

namespace Sys2Proof.Machine

/-! ## The first LOAD -/

/-- What a LOAD that finds room leaves of the trains and the manifold. -/
theorem State.originate_load_leaves {s : State} {i : Fin 8} {d : Direction} (hi : (s.train i).state = .idleRun)
    (hk : (s.train i).p.kind = d.kind) (known : s.someUnknown = false) (admits : s.manifold.loadCheck d.kind = none) (room : s.orderRoom = true) :
    (∀ j, (s.originate i .load).train j = if j = i then (s.train i).put .loading s.now else s.train j) ∧
    (s.originate i .load).manifold.state = d.state := by
  have placed (k : Fin 8) : (s.place (s.train i).p.node .load 0).train k = s.train k := (s.place_own room _ _ _).agree.train (by decide) k
  rw [State.originate_load hi hk known admits room]
  dsimp only
  split
  case isTrue e =>
    refine ⟨fun j => by rw [State.shifted_train, placed], ?_⟩
    rw [State.shifted_manifold]
    exact (congrArg Manifold.state ((s.place_own room _ _ _).agree .manifold (by decide))).trans e
  case isFalse =>
    refine ⟨fun j => ?_, by rw [State.manifoldTo_manifold]⟩
    rw [(State.manifoldTo_leaves _ _).agree.train (by decide), State.shifted_train, placed]

/-- A sweep of LOADs is that of the state after its first one. -/
theorem State.loadAll_first {demand c : Int} {s v : State} {i : Fin 8} {y : Train} (hv : s.originate i .load = v)
    (train : ∀ j, v.train j = if j = i then y else s.train j) (hy : y.isIn .loading = true ∧ y.p = (s.train i).p)
    (idle : (s.train i).isIn .idleRun = true) (more : s.exceeds demand c = true) {before : List (Fin 8)}
    (none : ∀ j ∈ before, (s.train j).isIn .idleRun = false) (after : List (Fin 8)) :
    (before ++ i :: after).foldl (State.loadOne demand) (s, c) =
      (before ++ i :: after).foldl (State.loadOne demand) (v, c + (s.train i).p.pMax) := by
  obtain ⟨carrying, p⟩ := hy
  have here : v.train i = y := (train i).trans (if_pos rfl)
  have one : State.loadOne demand (s, c) i = (v, c + (s.train i).p.pMax) := by
    unfold State.loadOne
    rw [if_pos (by rw [idle, more]; rfl)]
    dsimp only
    rw [hv, here, if_pos carrying, p]
  have still (j : Fin 8) (hj : j ∈ before) : (v.train j).isIn .idleRun = false := by
    have waits := none j hj
    have ne : j ≠ i := fun e => Bool.false_ne_true (waits.symm.trans (e ▸ idle))
    rw [train, if_neg ne]
    exact waits
  have past : (v.train i).isIn .idleRun = false := by
    rw [here, Train.isIn, ((Train.isIn_iff _ _).mp carrying).2]
    exact Bool.and_false _
  rw [List.foldl_append, State.loadAll_still (x := (s, c)) (.inr none), List.foldl_cons, one, List.foldl_append,
    State.loadAll_still (x := (v, _)) (.inr still), List.foldl_cons, State.loadOne_still (x := (v, _)) (.inl past)]

theorem State.loadStep_first {s : State} {f : Demand} {d : Direction} (hd : f.desired = some d) (known : s.someUnknown = false)
    (admits : s.manifold.loadCheck d.kind = none) (more : s.exceeds f.demand f.cFlow = true) (room : s.orderRoom = true) {i : Fin 8}
    {rest : List (Fin 8)} (first : (s.loadingOrder d.kind).filter (fun i => (s.train i).isIn .idleRun) = i :: rest) :
    s.loadStep f = (s.originate i .load).loadStep { f with cFlow := f.cFlow + (s.train i).p.pMax } := by
  obtain ⟨before, after, order, none, idle, -⟩ := List.filter_eq_cons_iff.mp first
  obtain ⟨present, state⟩ := (Train.isIn_iff _ _).mp idle
  have kind : (s.train i).p.kind = d.kind := (State.mem_loadingOrder (order ▸ List.mem_append_cons_self : i ∈ s.loadingOrder d.kind)).2
  obtain ⟨train, flows⟩ := State.originate_load_leaves state kind known admits room
  generalize hv : s.originate i .load = v at train flows
  have order' : v.loadingOrder d.kind = before ++ i :: after := by
    rw [State.loadingOrder_congr (s := s) (fun j => ?_), order]
    rw [train]
    split
    case isTrue e => rw [e]; rfl
    case isFalse => rfl
  rw [State.loadStep_some hd, if_pos admits, order, State.loadStep_some (f := { f with cFlow := f.cFlow + (s.train i).p.pMax }) hd,
    if_pos (Manifold.loadCheck_iff.mpr (.inr (.inl flows))), order']
  exact State.loadAll_first hv train ⟨(Train.isIn_iff _ _).mpr ⟨present, rfl⟩, rfl⟩ idle more
    (fun j hj => by have := none j hj; rwa [Bool.not_eq_true] at this) after

/-! ## The stop step -/

theorem State.stopStep_seen {s : State} {f : Demand} (h : s.grid.seen = true) : s.stopStep f = s.clearStop := by
  rw [State.stopStep, if_pos h]

theorem State.stopStep_none {s : State} {f : Demand} (h : s.stopCandidate f = none) : s.stopStep f = s.clearStop := by
  unfold State.stopStep
  rw [h]
  split <;> rfl

/-- No candidate where the manifold does not flow in the desired direction. -/
theorem State.stopCandidate_adrift {s : State} {f : Demand} (h : f.desired = none ∨ f.desired ≠ s.manifold.state.flow) : s.stopCandidate f = none := by
  unfold State.stopCandidate
  split
  · rfl
  case h_2 d hd =>
    rw [if_neg]
    rintro flow
    rcases h with h | h
    · exact nomatch hd.symm.trans h
    · exact h (hd.trans flow.symm)

theorem State.stopCandidate_idle {s : State} {f : Demand} {d : Direction} (hd : f.desired = some d)
    (h : ∀ i ∈ s.loadingOrder d.kind, (s.train i).isIn .loaded = false) : s.stopCandidate f = none := by
  have empty : ((s.loadingOrder d.kind).filter fun i => (s.train i).isIn .loaded) = [] :=
    List.filter_eq_nil_iff.mpr fun i hi => by rw [h i hi]; exact Bool.false_ne_true
  simp only [State.stopCandidate, hd, empty, List.getLast?_nil, ite_self]

/-- The candidate is the last loaded train in loading order, where its condition holds. -/
theorem State.stopCandidate_last {s : State} {f : Demand} {d : Direction} (hd : f.desired = some d) (hm : s.manifold.state = d.state)
    {before : List (Fin 8)} {i : Fin 8} {after : List (Fin 8)} (order : s.loadingOrder d.kind = before ++ i :: after)
    (loaded : (s.train i).isIn .loaded = true) (last : ∀ j ∈ after, (s.train j).isIn .loaded = false) :
    s.stopCandidate f = if f.demand < ((f.c - (s.train i).p.pMax) * s.disp.active.stopPm).tdiv 1000 then some i else none := by
  have empty : (after.filter fun j => (s.train j).isIn .loaded) = [] :=
    List.filter_eq_nil_iff.mpr fun j hj => by rw [last j hj]; exact Bool.false_ne_true
  have candidate : ((s.loadingOrder d.kind).filter fun j => (s.train j).isIn .loaded).getLast? = some i := by
    rw [order, List.filter_append, List.filter_cons_of_pos (p := fun j => (s.train j).isIn .loaded) loaded, empty]
    exact List.getLast?_concat
  simp only [State.stopCandidate, hd, hm, Direction.state_flow, if_true, candidate]

/-- The stop step with a candidate. -/
theorem State.stopStep_some {s : State} {f : Demand} {i : Fin 8} (seen : s.grid.seen = false) (h : s.stopCandidate f = some i) :
    let held : State := { s with commit := { s.commit with stop := some (i, s.stopSince i) } }
    s.stopStep f = if s.stopSince i + s.disp.active.stopDelay * 1000 ≤ s.now then
      (if ((held.originate i .unload).train i).isIn .loaded then held.originate i .unload else (held.originate i .unload).clearStop) else held := by
  intro held
  unfold State.stopStep
  rw [seen, h]
  rfl

/-! ## The placed order, written out -/

theorem State.shifted_placed {s : State} {i : Fin 8} {o : Order} (room : s.orderRoom = true) {y : Train} (hy : y.setpoint = 0) :
    (s.place (s.train i).p.node o 0).shifted i y s.conv .order =
      State.trainNotice (((s.place (s.train i).p.node o 0).setTrain i y).setTrack i 0) i (.code (s.train i).state.num) (.code y.state.num) .order := by
  have own := s.place_own room (s.train i).p.node o 0
  have conv : (s.place (s.train i).p.node o 0).conv = s.conv := own.agree .conv (by decide)
  rw [State.shifted, own.agree.train (by decide), hy, ← conv]
  rfl

theorem Train.put_eq (t : Train) (new : TrainState) (now : Nat) : t.put new now = { t with
    state := new, entry := now, timer := (t.p.timeout new).map (now + ·), setpoint := 0, starved := t.starved && t.state != .loaded } := by
  rw [Train.put, Train.starved_put]

theorem State.someUnknown_eq_false {s : State} (h : ∀ i, (s.train i).isIn .unknown = false) : s.someUnknown = false :=
  List.any_eq_false.mpr fun i _ => by rw [h i]; exact Bool.false_ne_true

theorem State.shifted_withCommit (s : State) (c : Commitment) (i : Fin 8) (y : Train) (v : Converter) (cause : Cause) :
    State.shifted { s with commit := c } i y v cause = { s.shifted i y v cause with commit := c } :=
  (Aside.withCommit c).notify { (s.setTrain i y).setTrack i y.setpoint with conv := v } _ _ _

/-- An order placed from a state with another commitment. -/
theorem State.originate_withCommit {s : State} {i : Fin 8} (h : (s.train i).state = .loaded) (room : s.orderRoom = true) (c : Commitment) :
    State.originate { s with commit := c } i .unload =
      { (s.place (s.train i).p.node .unload 0).shifted i ((s.train i).put .unloading s.now) s.conv .order with commit := c } := by
  rw [Steady.sent (s := { s with commit := c }) (.unload h) room]
  change State.shifted (State.place { s with commit := c } (s.train i).p.node .unload 0) i ((s.train i).put .unloading s.now) s.conv .order = _
  rw [(Aside.withCommit c).place, State.shifted_withCommit]

/-- A train idled for the idle limit without need. -/
def State.idled (s : State) (f : Demand) (cFlow : Int) (i : Fin 8) : Bool :=
  (s.train i).isIn .idleRun && !s.hasNeed f cFlow i && decide ((s.train i).entry + s.disp.active.idleLimit * 1000 ≤ s.now)

theorem State.hasNeed_iff (s : State) (f : Demand) (cFlow : Int) (i : Fin 8) : s.hasNeed f cFlow i = true ↔
    (∃ d, f.desired = some d ∧ (s.train i).p.kind = d.kind) ∧ (cFlow * s.disp.active.startPm).tdiv 1000 < f.demand := by
  unfold State.hasNeed
  split
  case h_1 h => simp only [h, reduceCtorEq, false_and, exists_false, Bool.false_eq_true]
  case h_2 d h => simp only [h, Bool.and_eq_true, beq_iff_eq, State.exceeds_iff, Option.some.injEq, exists_eq_left']

theorem State.idled_iff (s : State) (f : Demand) (cFlow : Int) (i : Fin 8) : s.idled f cFlow i = true ↔
    (s.train i).isIn .idleRun = true ∧ ¬ s.hasNeed f cFlow i = true ∧ (s.train i).entry + s.disp.active.idleLimit * 1000 ≤ s.now := by
  simp only [State.idled, Bool.and_eq_true, Bool.not_eq_true', Bool.not_eq_true, decide_eq_true_eq, and_assoc]

theorem State.idled_congr {s u : State} {os : List OwnOrder} (h : Stirs os s u) {i : Fin 8} (hi : u.slot i = s.slot i) (f : Demand) (cFlow : Int) :
    u.idled f cFlow i = s.idled f cFlow i := by
  have train : u.train i = s.train i := congrArg Prod.fst hi
  have active : u.disp.active = s.disp.active := by rw [h.disp]
  have now : u.now = s.now := h.agree .now (by decide)
  unfold State.idled State.hasNeed State.exceeds
  rw [train, active, now]

end Sys2Proof.Machine

open Sys2Proof Sys2Proof.Machine

/-- Settles O39: the reversal and idle steps as sweeps, the load step one train at a time. -/
theorem commitmentMoves : Obligations.CommitmentMoves := by
  intro s f order room clear moved placed' full
  have put {i : Fin 8} {new : TrainState} {seconds : Nat} (h : (s.train i).p.timeout new = some (seconds * 1000)) :
      (s.train i).put new s.now = moved i new seconds := by
    rw [Train.put_eq, h]
    rfl
  have sent {i : Fin 8} {o : Order} (hr : s.orderRoom = true) (y : Train) (hy : y.setpoint = 0) :
      (s.place (s.train i).p.node o 0).shifted i y s.conv .order = placed' i o y := State.shifted_placed hr hy
  refine ⟨State.reversalStep_still, fun d hm hd sound => ?_, State.loadStep_none, fun d hd known => ?_, fun h => ?_, fun d seen hd hm => ?_,
    fun cFlow => ?_⟩
  · intro t l
    have run : t = _ := State.reversalStep_flows hm hd
    obtain ⟨orders, records, frames⟩ := s.sweep_steady sound (s.loadingOrder_nodup d.kind) (P := fun i => (s.train i).isIn .loaded)
      (f := State.unloadLoaded) (o := .unload) (new := .unloading)
      (fun u _ _ i fresh loaded => .unload (by rw [show u.train i = s.train i from congrArg Prod.fst fresh]; exact ((Train.isIn_iff _ _).mp loaded).2))
      (fun u _ _ i fresh => by rw [State.unloadLoaded, show u.train i = s.train i from congrArg Prod.fst fresh])
    rw [← run] at orders records frames
    refine ⟨orders, fun i => ?_, frames⟩
    rw [records i, put (seconds := (s.train i).p.tUnload) rfl]
    rfl
  · intro admits more idle
    have admits_iff : s.manifold.loadCheck d.kind = none ↔ admits := Manifold.loadCheck_iff
    have more_iff : s.exceeds f.demand f.cFlow = true ↔ more := s.exceeds_iff _ _
    have unsettled := State.someUnknown_eq_false known
    refine ⟨fun no => ?_, fun yes many sound few => ?_, fun yes many few i rest first => ?_⟩
    · rw [State.loadStep_some hd]
      split
      case isTrue yes =>
        refine State.loadAll_still (x := (s, f.cFlow)) ?_
        rcases no with no | no | no
        · exact absurd (admits_iff.mp yes) no
        · rw [← more_iff, Bool.not_eq_true] at no
          exact .inl no
        · refine .inr fun i hi => ?_
          have := List.filter_eq_nil_iff.mp no i hi
          rwa [Bool.not_eq_true] at this
      case isFalse => rfl
    · have busy : s.ring.sending ≠ none := fun e => by
        have empty := (sound e).2.1
        rw [empty] at few
        exact absurd few (by decide)
      rw [State.loadStep_some hd, if_pos (admits_iff.mpr yes), State.loadAll_full (more_iff.mpr many) unsettled busy few]
      rfl
    · have hr := (s.orderRoom_iff).mpr few
      have mem : i ∈ idle := first ▸ List.mem_cons_self
      have state := ((Train.isIn_iff _ _).mp (List.mem_filter.mp mem).2).2
      have kind := (State.mem_loadingOrder (List.mem_filter.mp mem).1).2
      have loaded := State.originate_load state kind unsettled (admits_iff.mpr yes) hr
      dsimp only at loaded
      rw [put (seconds := (s.train i).p.tLoad) rfl, sent hr _ rfl] at loaded
      intro u v
      rw [State.loadStep_first hd unsettled (admits_iff.mpr yes) (more_iff.mpr many) hr first, loaded]
  · rcases h with h | h | h
    · exact State.stopStep_seen h
    · exact State.stopStep_none (State.stopCandidate_adrift (.inl h))
    · exact State.stopStep_none (State.stopCandidate_adrift (.inr h))
  · refine ⟨fun none => State.stopStep_none (State.stopCandidate_idle hd none), fun before i after hl loaded last => ?_⟩
    intro less since held lapsed
    have candidate := State.stopCandidate_last (f := f) hd hm hl loaded last
    have state := ((Train.isIn_iff _ _).mp loaded).2
    have run (yes : less) : s.stopStep f = if lapsed then
        (if ((held.originate i .unload).train i).isIn .loaded then held.originate i .unload else (held.originate i .unload).clearStop) else held :=
      State.stopStep_some seen (candidate.trans (if_pos yes))
    refine ⟨fun no => State.stopStep_none (candidate.trans (if_neg no)), fun yes no => ?_, fun yes due few => ?_, fun yes due few => ?_⟩
    · rw [run yes, if_neg no]
    · have hr := s.orderRoom_iff.mpr few
      have unloaded := State.originate_withCommit state hr held.commit
      rw [put (seconds := (s.train i).p.tUnload) rfl, sent hr _ rfl] at unloaded
      have gone : ((held.originate i .unload).train i).isIn .loaded = false := by
        rw [unloaded, ← sent hr _ rfl]
        change ((State.shifted _ i _ _ _).train i).isIn .loaded = false
        rw [State.shifted_train, if_pos rfl]
        exact Bool.and_false _
      rw [run yes, if_pos due, gone, unloaded]
      rfl
    · have hr : held.orderRoom = false := (State.orderRoom_eq_false_iff held).mpr few
      have queueFull : held.originate i .unload = full held i .unload :=
        State.originate_full (s := held) (by rw [show (held.train i).state = .loaded from state]; rfl) nofun hr
      have stays : ((full held i .unload).train i).isIn .loaded = true := by
        rw [(State.notify_own _ _ _ _).agree.train (by decide) i]
        exact loaded
      rw [run yes, if_pos due, queueFull, if_pos stays]
  · intro t need
    refine ⟨fun seen => if_pos seen, fun seen sound => ?_⟩
    have need_iff (i : Fin 8) : s.hasNeed f cFlow i = true ↔ need i := s.hasNeed_iff f cFlow i
    have run : t = slotNumbers.foldl (State.idleOne f cFlow) s := by
      change (if s.grid.seen = true then s else _) = _
      rw [seen] <;> rfl
    obtain ⟨orders, records, frames⟩ := s.sweep_steady sound (l := slotNumbers) (by decide) (P := s.idled f cFlow)
      (f := State.idleOne f cFlow) (o := .stop) (new := .stopping)
      (fun u _ _ i fresh idle => .stop (by
        rw [show u.train i = s.train i from congrArg Prod.fst fresh]
        exact ((Train.isIn_iff _ _).mp ((s.idled_iff f cFlow i).mp idle).1).2))
      (fun u _ hu i fresh => by rw [← State.idled_congr hu fresh]; rfl)
    rw [← run] at orders records frames
    refine ⟨placed (s.idled f cFlow) room slotNumbers, (List.take_sublist _ _).trans List.filter_sublist, List.length_take_le _ _, fun i hi => ?_,
      fun short i idle no lapsed => ?_, orders, fun i => ?_, frames⟩
    · obtain ⟨idle, no, lapsed⟩ := (s.idled_iff f cFlow i).mp (List.mem_filter.mp (List.mem_of_mem_take hi)).2
      exact ⟨idle, mt (need_iff i).mpr no, lapsed⟩
    · have all : placed (s.idled f cFlow) room slotNumbers = slotNumbers.filter (s.idled f cFlow) := by
        refine List.take_of_length_le ?_
        rw [placed, List.length_take] at short
        omega
      rw [all]
      exact List.mem_filter.mpr ⟨mem_slotNumbers i, (s.idled_iff f cFlow i).mpr ⟨idle, mt (need_iff i).mp no, lapsed⟩⟩
    · rw [records i, put (seconds := (s.train i).p.tStop) rfl]

end
section
/-!
PROOFS. One run of commitment, and its start step (section 8.2).
-/

namespace Sys2Proof.Machine

/-! ## The moves of a run -/

/-- The moves commitment makes. -/
def commitmentPairs : List (TrainState × TrainState) :=
  [(.loaded, .unloading), (.standby, .starting), (.standby, .startWait), (.idleRun, .loading), (.idleRun, .stopping)]

/-- Every train stays in its state or makes one of commitment's moves. -/
def Advances (s t : State) : Prop := ∀ i, (t.train i).state = (s.train i).state ∨ ((s.train i).state, (t.train i).state) ∈ commitmentPairs

theorem Advances.refl (s : State) : Advances s s := fun _ => .inl rfl

/-- No move starts where another ends. -/
theorem commitmentPairs_ends {a b c : TrainState} (h : (a, b) ∈ commitmentPairs) : (b, c) ∉ commitmentPairs := by
  simp only [commitmentPairs, List.mem_cons, Prod.mk.injEq, List.not_mem_nil, or_false] at h ⊢
  rcases h with ⟨-, rfl⟩ | ⟨-, rfl⟩ | ⟨-, rfl⟩ | ⟨-, rfl⟩ | ⟨-, rfl⟩ <;> simp

theorem Advances.trans {a b c : State} (h : Advances a b) (k : Advances b c) : Advances a c := fun i => by
  rcases k i with e | move
  · rw [e]
    exact h i
  · rcases h i with e | first
    · exact .inr (e ▸ move)
    · exact absurd move (commitmentPairs_ends first)

theorem Advances.of_trains {s t : State} (h : t.trains = s.trains) : Advances s t := fun i => .inl (by rw [State.train, h]; rfl)

theorem Advances.foldl {α : Type} {f : State → α → State} (h : ∀ s a, Advances s (f s a)) (l : List α) (s : State) : Advances s (l.foldl f s) := by
  induction l generalizing s with
  | nil => exact .refl s
  | cons a l ih => exact (h s a).trans (ih _)

/-- A change of one train's state. -/
theorem Advances.moveTrain {s u : State} {i : Fin 8} {new : TrainState} {v : Int} {c : Cause} (hu : u.trains = s.trains)
    (h : ((s.train i).state, new) ∈ commitmentPairs) : Advances s (u.moveTrain i new v c) := fun j => by
  have train (k : Fin 8) : u.train k = s.train k := by rw [State.train, hu]; rfl
  rw [State.moveTrain_train, train, train]
  split
  case isTrue e =>
    rw [Train.changed_state, e.1]
    exact .inr h
  case isFalse => exact .inl rfl

/-- The orders of commitment other than START, by the state that admits them. -/
theorem commitmentPairs_of_admission {st new : TrainState} {o : Order} (ha : admission st o = none) (hg : o.gives = some new)
    (ho : o = .load ∨ o = .unload ∨ o = .stop) : (st, new) ∈ commitmentPairs := by
  rcases ho with rfl | rfl | rfl
  · rw [admission_load ha]
    cases hg
    decide
  all_goals cases hg; cases st <;> simp_all [admission, commitmentPairs]

theorem State.originate_advances {s : State} {i : Fin 8} {o : Order} (ho : o = .load ∨ o = .unload ∨ o = .stop) : Advances s (s.originate i o) := by
  unfold State.originate
  split
  case h_1 => exact .refl s
  case h_2 ha =>
    split
    · exact .refl s
    · split
      · exact .of_trains ((State.notify_own _ _ _ _).agree .trains (by decide))
      case isFalse room =>
        split
        · exact .refl s
        · have trains : (s.place (s.train i).p.node o 0).trains = s.trains :=
            (s.place_own (Bool.eq_true_of_not_eq_false room) _ _ _).agree .trains (by decide)
          have train : (s.place (s.train i).p.node o 0).train i = s.train i := by rw [State.train, trains]; rfl
          obtain ⟨new, hg⟩ : ∃ new, o.gives = some new := by rcases ho with rfl | rfl | rfl <;> exact ⟨_, rfl⟩
          have pair := commitmentPairs_of_admission ha hg ho
          have admitted : (s.train i).state ≠ .starting := fun e => by
            rw [e] at pair
            exact absurd pair (by cases new <;> decide)
          rw [State.takeOrder_moves hg (by rcases ho with rfl | rfl | rfl <;> nofun) (by rcases ho with rfl | rfl | rfl <;> nofun),
            State.changeTrain_moves (by rw [train]; exact admitted)]
          exact .moveTrain trains pair

theorem State.originateStart_advances (s : State) (i : Fin 8) : Advances s (s.originateStart i) := by
  unfold State.originateStart
  split
  case h_1 => exact .refl s
  case h_2 ha =>
    have standby : (s.train i).state = .standby := by
      revert ha
      cases (s.train i).state <;> first | exact fun _ => rfl | exact fun h => nomatch h
    split
    · exact .of_trains ((State.notify_own _ _ _ _).agree .trains (by decide))
    · split
      · split
        case isTrue room =>
          exact .moveTrain ((s.place_own room _ _ _).agree .trains (by decide)) (by rw [standby]; decide)
        case isFalse => exact .of_trains ((State.notify_own _ _ _ _).agree .trains (by decide))
      · have moved : Advances s (State.moveTrain { s with conv := { s.conv with queue := s.conv.queue ++ [i] } } i .startWait 0 .order) :=
          .moveTrain rfl (by rw [standby]; decide)
        exact moved.trans (.of_trains ((State.notify_own _ _ _ _).agree .trains (by decide)))

theorem State.reversalStep_advances (s : State) (f : Demand) : Advances s (s.reversalStep f) := by
  unfold State.reversalStep
  split
  · exact .refl s
  · split
    · exact .refl s
    · refine .foldl (fun u i => ?_) _ s
      unfold State.unloadLoaded
      split
      · exact State.originate_advances (.inr (.inl rfl))
      · exact .refl u

theorem State.startStep_advances (s : State) (f : Demand) : Advances s (s.startStep f) := by
  unfold State.startStep
  split
  · exact .refl s
  · split
    · split
      · exact .refl s
      · exact s.originateStart_advances _
    · exact .refl s

theorem State.loadStep_advances (s : State) (f : Demand) : Advances s (s.loadStep f).1 := by
  have one (demand : Int) (x : State × Int) (i : Fin 8) : Advances x.1 (State.loadOne demand x i).1 := by
    unfold State.loadOne
    split
    · exact State.originate_advances (.inl rfl)
    · exact .refl _
  have all (demand : Int) (l : List (Fin 8)) (x : State × Int) : Advances x.1 (l.foldl (State.loadOne demand) x).1 := by
    induction l generalizing x with
    | nil => exact .refl _
    | cons i l ih => exact (one demand x i).trans (ih _)
  unfold State.loadStep
  split
  · exact .refl s
  · split
    · exact all _ _ (s, _)
    · exact .refl s

/-- The stop step: its commitment record apart, an UNLOAD or nothing. -/
theorem State.stopStep_advances (s : State) (f : Demand) : Advances s (s.stopStep f) := by
  unfold State.stopStep
  split
  · exact .of_trains rfl
  · split
    · exact .of_trains rfl
    · have unloaded (c : Commitment) (i : Fin 8) : Advances s (State.originate { s with commit := c } i .unload) :=
        State.originate_advances (s := { s with commit := c }) (.inr (.inl rfl))
      dsimp only
      split
      · split
        · exact unloaded _ _
        · exact unloaded _ _
      · exact .of_trains rfl

theorem State.idleStep_advances (s : State) (f : Demand) (c : Int) : Advances s (s.idleStep f c) := by
  unfold State.idleStep
  split
  · exact .refl s
  · refine .foldl (fun u i => ?_) _ s
    unfold State.idleOne
    split
    · exact State.originate_advances (.inr (.inr rfl))
    · exact .refl u

/-- The stop step keeps the demand figures. -/
theorem State.stopStep_figures (s : State) (f : Demand) : (s.stopStep f).commit.figures = s.commit.figures := by
  have unloaded (c : Commitment) (i : Fin 8) : (State.originate { s with commit := c } i .unload).commit = c :=
    (State.originate_keeps { s with commit := c } i .unload).agree .commit (by decide)
  unfold State.stopStep
  split
  · rfl
  · split
    · rfl
    · dsimp only
      split
      · split
        · rw [unloaded]
        · change (State.originate _ _ _).commit.figures = _
          rw [unloaded]
      · rfl

/-! ## The run -/

/-- The state after the figures are formed. -/
def State.figured (s : State) (req : Int) : State := { s with commit := { s.commit with figures := some (s.demandStep req) } }

/-- The state after the load step, with what flows. -/
def State.loadedUp (s : State) (f : Demand) : State × Int := ((s.reversalStep f).startStep f).loadStep f

theorem State.commitmentRun_known {s : State} (h : s.someUnknown = false) (req : Int) : s.commitmentRun req =
    (((s.figured req).loadedUp (s.demandStep req)).1.stopStep (s.demandStep req)).idleStep (s.demandStep req)
      ((s.figured req).loadedUp (s.demandStep req)).2 := by
  rw [State.commitmentRun, h]
  rfl

theorem State.commitmentRun_unknown {s : State} (h : s.someUnknown = true) (req : Int) : s.commitmentRun req = s.clearStop := by
  rw [State.commitmentRun, if_pos h]

theorem State.loadedUp_keeps (s : State) (f : Demand) : Keeps moved s (s.loadedUp f).1 :=
  ((s.reversalStep_keeps f).trans (State.startStep_keeps _ f)).trans (State.loadStep_keeps _ f)

theorem State.loadedUp_advances (s : State) (f : Demand) : Advances s (s.loadedUp f).1 :=
  ((s.reversalStep_advances f).trans (State.startStep_advances _ f)).trans (State.loadStep_advances _ f)

theorem State.commitmentRun_advances (s : State) (req : Int) : Advances s (s.commitmentRun req) := by
  cases h : s.someUnknown with
  | true =>
    rw [State.commitmentRun_unknown h]
    exact .of_trains rfl
  | false =>
    rw [State.commitmentRun_known h]
    have figured : Advances s (s.figured req) := .of_trains rfl
    exact ((figured.trans (State.loadedUp_advances _ _)).trans (State.stopStep_advances _ _)).trans (State.idleStep_advances _ _ _)

theorem State.commitmentRun_figures {s : State} (h : s.someUnknown = false) (req : Int) :
    (s.commitmentRun req).commit.figures = some (s.demandStep req) := by
  have idle (u : State) (f : Demand) (c : Int) : (u.idleStep f c).commit = u.commit := (u.idleStep_keeps f c).agree .commit (by decide)
  have loaded (u : State) (f : Demand) : (u.loadedUp f).1.commit = u.commit := (u.loadedUp_keeps f).agree .commit (by decide)
  rw [State.commitmentRun_known h, idle, State.stopStep_figures, loaded]
  rfl

/-! ## The demand step -/

/-- The capacity of the desired kind in the states of a list. -/
def State.capacityIn (s : State) (desired : Option Direction) (l : List TrainState) : Int :=
  match desired with
  | none => 0
  | some d => sumOf ((slotNumbers.filter fun i =>
      (s.train i).present && (s.train i).p.kind == d.kind && l.contains (s.train i).state).map fun i => (s.train i).p.pMax)

theorem State.capacityIn_eq (s : State) {g : TrainState → Bool} {l : List TrainState} (h : ∀ st, g st = l.contains st) (desired : Option Direction) :
    (match desired with | none => 0 | some d => s.capacity d.kind g) = s.capacityIn desired l := by
  cases desired with
  | none => rfl
  | some d => simp only [State.capacityIn, State.capacity, h]

/-- The commitment power (R144). -/
def State.commitmentPower (s : State) (req : Int) : Int :=
  if magnitude (s.schedAt s.lookAhead) ≤ magnitude req then req else s.schedAt s.lookAhead

theorem State.demandStep_eq (s : State) (req : Int) :
    let power := s.commitmentPower req
    let desired := desiredOf s.disp.active.dirThreshold power
    s.demandStep req = ⟨s.schedAt s.lookAhead, power, magnitude power + (if s.disp.resShort then s.sched.active.reserve else 0), desired,
      s.capacityIn desired [.startWait, .starting, .idleRun, .loading, .loaded], s.capacityIn desired [.loading, .loaded]⟩ := by
  intro power desired
  have chosen : (if magnitude req < magnitude (s.schedAt s.lookAhead) then s.schedAt s.lookAhead else req) = power := by
    by_cases h : magnitude req < magnitude (s.schedAt s.lookAhead)
    · exact (if_pos h).trans (if_neg (Int.not_le.mpr h)).symm
    · exact (if_neg h).trans (if_pos (Int.not_lt.mp h)).symm
  unfold State.demandStep
  dsimp only
  rw [chosen, ← s.capacityIn_eq (g := TrainState.committed) (fun st => by cases st <;> rfl),
    ← s.capacityIn_eq (g := TrainState.carrying) (fun st => by cases st <;> rfl)] <;> rfl

/-! ## The start step -/

theorem State.kindStarting_iff (s : State) (d : Direction) : s.kindStarting d.kind = true ↔
    ∃ j, (s.train j).p.kind = d.kind ∧ ((s.train j).state = .startWait ∨ (s.train j).state = .starting) := by
  simp only [State.kindStarting, List.any_eq_true, mem_slotNumbers, true_and, Bool.and_eq_true, Bool.or_eq_true, beq_iff_eq, Train.isIn_iff]
  refine exists_congr fun j => and_congr_right fun hk => ?_
  have present : (s.train j).present = true := by rw [Train.present, hk]; cases d <;> rfl
  simp only [present, true_and]

theorem State.startStep_none {s : State} {f : Demand} (h : f.desired = none) : s.startStep f = s := by simp only [State.startStep, h]

theorem State.startStep_some {s : State} {f : Demand} {d : Direction} (h : f.desired = some d) : s.startStep f =
    if s.exceeds f.demand f.c && !s.kindStarting d.kind then (s.startCandidate d.kind).elim s s.originateStart else s := by
  simp only [State.startStep, h]
  cases s.startCandidate d.kind <;> rfl

/-- The first train in loading order that is in STANDBY and AVAILABLE. -/
theorem State.startCandidate_first {s : State} {k : TrainKind} {before after : List (Fin 8)} {i : Fin 8}
    (order : s.loadingOrder k = before ++ i :: after) (ready : (s.train i).state = .standby ∧ (s.train i).available = true)
    (none : ∀ j ∈ before, ¬ ((s.train j).state = .standby ∧ (s.train j).available = true)) : s.startCandidate k = some i := by
  have present : (s.train i).present = true := (State.mem_loadingOrder (order ▸ List.mem_append_cons_self : i ∈ s.loadingOrder k)).1
  rw [State.startCandidate, order]
  refine List.find?_eq_some_iff_append.mpr ⟨?_, before, after, rfl, fun j hj => ?_⟩
  · rw [Bool.and_eq_true, Train.isIn_iff]
    exact ⟨⟨present, ready.1⟩, ready.2⟩
  · rw [Bool.not_eq_true', ← Bool.not_eq_true, Bool.and_eq_true, Train.isIn_iff]
    exact fun h => none j hj ⟨h.1.2, h.2⟩

theorem State.startCandidate_none {s : State} {k : TrainKind}
    (none : ∀ j ∈ s.loadingOrder k, ¬ ((s.train j).state = .standby ∧ (s.train j).available = true)) : s.startCandidate k = Option.none := by
  refine List.find?_eq_none.mpr fun j hj => ?_
  rw [Bool.and_eq_true, Train.isIn_iff]
  exact fun h => none j hj ⟨h.1.2, h.2⟩

theorem State.heatLow_iff (s : State) (i : Fin 8) :
    s.heatLow i = true ↔ (s.train i).p.kind = .expander ∧ s.storeFactor (s.train i) .discharge = 0 := by
  simp only [State.heatLow, Bool.and_eq_true, beq_iff_eq]

theorem State.originateStart_standby {s : State} {i : Fin 8} (h : (s.train i).state = .standby) : s.originateStart i =
    if s.heatLow i then s.notify .heatLow (.train i) [.fig i.val, .fig (s.train i).p.store]
    else if s.converterReady then
      if s.orderRoom then (s.place (s.train i).p.node .start 0).startNow i else s.trainQueueFull i .start
    else s.startQueued i 0 := by
  unfold State.originateStart
  rw [h]
  rfl

end Sys2Proof.Machine

open Sys2Proof Sys2Proof.Machine

/-- Settles O36: the trigger, the steps of a run with their moves, and the start step by its candidate. -/
theorem commitmentRun : Obligations.CommitmentRun := by
  refine ⟨fun s k f => ⟨fun off => ?_, fun on runs manual => ?_, fun auto runs => ?_⟩, fun s req => ?_, fun s f => ⟨fun none => ?_, fun d hd => ?_⟩⟩
  · refine State.trigger_ignored ?_ k f
    rw [← Bool.not_eq_true, State.performs_iff]
    exact fun ⟨on, runs⟩ => off.elim on runs
  · rw [State.trigger_performed (s.performs_iff.mpr ⟨on, runs⟩), if_neg manual]
  · exact ⟨s.recordOf k f, s.compute_last k f,
      by rw [State.trigger_performed (s.performs_iff.mpr ⟨by rw [auto]; nofun, runs⟩), if_pos auto]⟩
  · intro unknown t
    have unknown_iff : s.someUnknown = true ↔ unknown := by
      simp only [State.someUnknown, List.any_eq_true, unknown, mem_slotNumbers, true_and]
    have kept := (s.commitmentRun_keeps req).agree
    refine ⟨fun yes => State.commitmentRun_unknown (unknown_iff.mpr yes) req, fun no => ?_, s.commitmentRun_advances req, kept .chans (by decide),
      kept .stores (by decide), kept .grid (by decide), kept .clock (by decide), kept .sched (by decide), kept .plant (by decide),
      kept .mode (by decide), kept .mgr (by decide), kept .now (by decide), kept .last (by decide), congrArg Prod.fst (kept .sets (by decide))⟩
    intro ahead power desired capacity f x
    have known : s.someUnknown = false := by rw [← Bool.not_eq_true, unknown_iff]; exact no
    have formed : s.demandStep req = f := s.demandStep_eq req
    have run := State.commitmentRun_known known req
    have figures := State.commitmentRun_figures known req
    rw [State.figured, formed] at run
    rw [formed] at figures
    exact ⟨run, figures⟩
  · exact State.startStep_none none
  · intro more waiting ready
    have more_iff : s.exceeds f.demand f.c = true ↔ more := s.exceeds_iff _ _
    have waiting_iff : s.kindStarting d.kind = true ↔ waiting := s.kindStarting_iff d
    have gate : (s.exceeds f.demand f.c && !s.kindStarting d.kind) = true ↔ more ∧ ¬ waiting := by
      rw [Bool.and_eq_true, Bool.not_eq_true', ← Bool.not_eq_true, more_iff, waiting_iff]
    refine ⟨fun no => ?_, fun many free before i after order standby none => ?_⟩
    · rw [State.startStep_some hd]
      split
      case isTrue yes =>
        obtain ⟨many, free⟩ := gate.mp yes
        rcases no with no | no | no
        · exact absurd many no
        · exact absurd no free
        · rw [State.startCandidate_none no, Option.elim_none]
      case isFalse => rfl
    · intro x cold taken free
      have step : s.startStep f = s.originateStart i := by
        rw [State.startStep_some hd, if_pos (gate.mpr ⟨many, ‹_›⟩), State.startCandidate_first order standby none, Option.elim_some]
      rw [step, State.originateStart_standby standby.1]
      have cold_iff : s.heatLow i = true ↔ cold := s.heatLow_iff i
      have free_iff : s.converterReady = true ↔ free := s.converterReady_iff
      refine ⟨fun yes => if_pos (cold_iff.mpr yes), fun no yes room => ?_, fun no yes full => ?_, fun no busy => ?_⟩
      · have hr := s.orderRoom_iff.mpr room
        have own := s.place_own hr x.p.node .start 0
        have train : (s.place x.p.node .start 0).train i = x := own.agree.train (by decide) i
        have conv : (s.place x.p.node .start 0).conv = s.conv := own.agree .conv (by decide)
        have now : (s.place x.p.node .start 0).now = s.now := own.agree .now (by decide)
        rw [if_neg (mt cold_iff.mp no), if_pos (free_iff.mpr yes), if_pos hr, State.startNow_eq (by rw [train]; exact standby.1), train, conv, now,
          State.shifted, train, show x.state = .standby from standby.1]
        rfl
      · rw [if_neg (mt cold_iff.mp no), if_pos (free_iff.mpr yes), if_neg (by rw [(s.orderRoom_eq_false_iff).mpr full]; nofun)]
        rfl
      · rw [if_neg (mt cold_iff.mp no), if_neg (mt free_iff.mp busy), State.startQueued_eq standby.1, State.shifted, standby.1]
        rfl

end
section
/-!
PROOFS. The STATUS frame of a node, and the reports of a train that change its record (sections 4.4 to 4.7).
-/

namespace Sys2Proof.Machine

/-! ## The STATUS frame -/

/-- The body of a STATUS frame. -/
def statusBytes (k c p3 p2 p1 p0 t1 t0 : Byte) (rest : List Byte) : List Byte := k :: c :: p3 :: p2 :: p1 :: p0 :: t1 :: t0 :: rest

/-- What a STATUS body carries. -/
def carried (k c p3 p2 p1 p0 t1 t0 : Byte) : StatusBody := ⟨k, c, (word32 p3 p2 p1 p0).toNat, (word16 t1 t0).toNat⟩

/-- The records answer in turn, then the frame passes on. -/
theorem exec_status {s : State} {h : Passing} {rest : List Byte} (hp : s.passes h) (hl : rest.length ≤ 236)
    (k c p3 p2 p1 p0 t1 t0 : Byte) :
    exec (.status h (statusBytes k c p3 p2 p1 p0 t1 t0 rest)) s =
      .next ((((s.countReceived.statusToTrain h.src.toNat (carried k c p3 p2 p1 p0 t1 t0)).statusToCavern h.src.toNat
        (carried k c p3 p2 p1 p0 t1 t0)).statusToConverter h.src.toNat (carried k c p3 p2 p1 p0 t1 t0)).forwardOrDrop
          (passingFrame h kStatus (statusBytes k c p3 p2 p1 p0 t1 t0 rest))) := by
  have fits : (statusBytes k c p3 p2 p1 p0 t1 t0 rest).length ≤ 244 := by simp only [statusBytes, List.length_cons]; omega
  have node : (s.countReceived.tap (passingFrame h kStatus (statusBytes k c p3 p2 p1 p0 t1 t0 rest))).node = s.node :=
    (s.countReceived.tapStatus_keeps (passingFrame h kStatus (statusBytes k c p3 p2 p1 p0 t1 t0 rest))).agree .node (by decide)
  exact congrArg Host.Outcome.next (State.receive_tapped hp.1 hp.2.1 (.inr rfl) hp.2.2 fits node)

theorem State.cavernAt_congr {s t : State} (h : ∀ c, (t.cavern c).p = (s.cavern c).p) (n : Nat) : t.cavernAt n = s.cavernAt n := by
  simp only [State.cavernAt, h]

theorem State.statusToConverter_other {s : State} {n : Nat} (h : s.plant.convNode ≠ n) (b : StatusBody) : s.statusToConverter n b = s :=
  if_neg fun e => h e.2

theorem State.statusToCavern_none {s : State} {n : Nat} (h : s.cavernAt n = none) (b : StatusBody) : s.statusToCavern n b = s := by
  simp only [State.statusToCavern, h]

theorem State.statusToTrain_none {s : State} {n : Nat} (h : s.trainAt n = none) (b : StatusBody) : s.statusToTrain n b = s := by
  simp only [State.statusToTrain, h]

/-- The report of a train's node alone. -/
theorem exec_trainStatus {s : State} {h : Passing} {rest : List Byte} {i : Fin 8} {k c p3 p2 p1 p0 t1 t0 : Byte} {r : TrainReport}
    (hp : s.passes h) (hl : rest.length ≤ 236) (hn : s.trainNode h.src.toNat i) (hc : s.plant.convNode ≠ h.src.toNat)
    (hr : trainReportOf k c = some r) :
    exec (.status h (statusBytes k c p3 p2 p1 p0 t1 t0 rest)) s =
      .next ((s.countReceived.trainReport i (carried k c p3 p2 p1 p0 t1 t0) r).forwardOrDrop
        (passingFrame h kStatus (statusBytes k c p3 p2 p1 p0 t1 t0 rest))) := by
  have kept := (s.countReceived.statusToTrain_keeps h.src.toNat (carried k c p3 p2 p1 p0 t1 t0)).agree
  have train : s.countReceived.statusToTrain h.src.toNat (carried k c p3 p2 p1 p0 t1 t0) =
      s.countReceived.trainReport i (carried k c p3 p2 p1 p0 t1 t0) r := by
    simp only [State.statusToTrain, show s.countReceived.trainAt h.src.toNat = some i from hn.1, carried, hr]
  have plant : (s.countReceived.statusToTrain h.src.toNat (carried k c p3 p2 p1 p0 t1 t0)).plant = s.plant := kept .plant (by decide)
  rw [exec_status hp hl, State.statusToCavern_none ((State.cavernAt_congr (kept.cavern_p (by decide)) _).trans hn.2),
    State.statusToConverter_other (by rw [plant]; exact hc), train]

/-! ## The report -/

/-- The record of a train with its last report. -/
def Train.reported (t : Train) (b : StatusBody) : Train := { t with lastReport := some ⟨b.kind, b.code, b.power⟩ }

theorem State.trainReport_state {s : State} {i : Fin 8} {r : TrainReport} (h : r ≠ .event .tripped ∧ r ≠ .event .tripClear) (b : StatusBody) :
    s.trainReport i b r = (s.setTrain i ((s.train i).reported b)).stateReport i r.implied b.code b.power
      ((s.train i).lastReport.map (·.code)) := by
  unfold State.trainReport
  split
  case h_1 => exact absurd rfl h.1
  case h_2 => exact absurd rfl h.2
  case h_3 => rfl

theorem trainStateOf_known {c : Byte} {st : TrainState} (h : trainStateOf c = some st) : st ≠ .unknown ∧ st ≠ .startWait := by
  unfold trainStateOf at h
  split at h <;> cases h <;> decide

theorem trainReportOf_state {c : Byte} {st : TrainState} (h : trainStateOf c = some st) : trainReportOf 1 c = some (.state st) := by
  simp only [trainReportOf, if_true, h, Option.map_some]

/-- A report that implies the completion state of the record. -/
theorem State.stateReport_completes {s : State} {i : Fin 8} {st : TrainState} (h : (s.train i).state.completion = some st) (c : Byte) (v : Int)
    (b : Option Byte) : s.stateReport i st c v b = s.changeTrain i st (s.train i).p.pMin .report := by
  have known : (s.train i).state ≠ .tripped ∧ (s.train i).state ≠ .unknown := by
    constructor <;> intro e <;> rw [e] at h <;> cases h
  simp only [State.stateReport, if_neg known.1, if_neg known.2, if_pos h]

/-- A report that implies the state of the record. -/
theorem State.stateReport_agrees {s : State} {i : Fin 8} {st : TrainState} (hs : st ≠ .unknown) (h : (s.train i).state = st) (c : Byte) (v : Int)
    (b : Option Byte) : s.stateReport i st c v b = s := by
  have open_ : st.completion ≠ some st := by cases st <;> decide
  simp only [State.stateReport, h]
  split
  case isTrue e => rw [if_pos (.inl e)]
  case isFalse => exact if_pos (.inl (by cases st <;> rfl))

theorem State.stateReport_unknown {s : State} {i : Fin 8} (h : (s.train i).state = .unknown) (st : TrainState) (c : Byte) (v : Int)
    (b : Option Byte) : s.stateReport i st c v b = s.adopt i st c v := by
  simp only [State.stateReport, h, if_true, if_neg (show TrainState.unknown ≠ .tripped by decide)]

/-- A report of another state than the record has, of an idle record. -/
theorem State.stateReport_adopts {s : State} {i : Fin 8} {st : TrainState}
    (h : (s.train i).state = .unknown ∨ (s.train i).state = .offline ∨ (s.train i).state = .standby ∨ (s.train i).state = .idleRun)
    (hn : (s.train i).state ≠ st) (c : Byte) (v : Int) (b : Option Byte) : s.stateReport i st c v b = s.adopt i st c v := by
  by_cases unknown : (s.train i).state = .unknown
  · exact State.stateReport_unknown unknown st c v b
  · have differs : agrees (s.train i).state st = false := by
      rw [agrees, Bool.or_eq_false_iff, beq_eq_false_iff_ne]
      exact ⟨hn, by rcases h with h | h | h | h <;> rw [h] <;> rfl⟩
    have idle : (s.train i).state ≠ .tripped ∧ (s.train i).state.completion ≠ some st ∧ st ∉ (s.train i).state.lags := by
      rcases h with h | h | h | h <;> rw [h] <;> exact ⟨by decide, nofun, List.not_mem_nil⟩
    obtain ⟨untripped, incomplete, current⟩ := idle
    rw [State.stateReport]
    simp only [if_neg untripped, if_neg unknown, if_neg incomplete, differs]
    exact if_neg fun e => e.elim nofun current

/-! ## The record that has been replaced -/

theorem State.convAfter_setTrain (s : State) (i : Fin 8) {x : Train} (h : x.state = (s.train i).state) :
    (s.setTrain i x).convAfter i = s.convAfter i := by
  rw [State.convAfter, State.convAfter, State.train_setTrain_same, h]
  exact State.convLeft_congr (s := s) (t := s.setTrain i x) rfl rfl rfl i _

/-- A train that is not LOADED enters a state with its timer and its setpoint. -/
theorem Train.changed_unloaded {t : Train} {new : TrainState} (h : t.state ≠ .loaded) (hn : new ≠ .tripped) (v : Int) (now : Nat) :
    t.changed new v now = { t with
      state := new, entry := now, timer := (t.p.timeout new).map (now + ·), setpoint := if new = .loaded then v else 0 } := by
  simp only [Train.changed, if_neg hn, if_neg h]

theorem Train.changed_tripped_eq (t : Train) (v : Int) (now : Nat) : t.changed .tripped v now = { t with
    state := .tripped, entry := now, timer := none, setpoint := 0, starved := t.starved && t.state != .loaded
    preState := some t.state, preSetpoint := t.setpoint, tripClear := false } := by
  rw [← Train.starved_put]
  rfl

end Sys2Proof.Machine

end
section
/-!
PROOFS. What a report leaves of the record, the converter and the manifold (sections 4.5 to 4.7, 5.3, 2.6).
-/

namespace Sys2Proof.Machine

/-! ## A record that becomes another -/

/-- The record of a slot, its track and the converter are replaced, and TRAIN_STATE tells of it. -/
def State.became (s : State) (i : Fin 8) (x y : Train) (v : Converter) (cause : Cause) : State :=
  State.trainNotice { (s.setTrain i y).setTrack i y.setpoint with conv := v } i (.code x.state.num) (.code y.state.num) cause

theorem State.became_own (s : State) (i : Fin 8) (x y : Train) (v : Converter) (cause : Cause) :
    Own { (s.setTrain i y).setTrack i y.setpoint with conv := v } (s.became i x y v cause) := State.notify_own _ _ _ _

theorem State.became_train (s : State) (i j : Fin 8) (x y : Train) (v : Converter) (cause : Cause) :
    (s.became i x y v cause).train j = if j = i then y else s.train j :=
  ((s.became_own i x y v cause).agree.train (by decide) j).trans (State.train_setTrain s i j y)

theorem State.became_conv (s : State) (i : Fin 8) (x y : Train) (v : Converter) (cause : Cause) : (s.became i x y v cause).conv = v :=
  (s.became_own i x y v cause).agree .conv (by decide)

theorem State.became_manifold (s : State) (i : Fin 8) (x y : Train) (v : Converter) (cause : Cause) :
    (s.became i x y v cause).manifold = s.manifold := (s.became_own i x y v cause).agree .manifold (by decide)

/-- The change of a record that was replaced just before. -/
theorem State.shifted_setTrain (s : State) (i : Fin 8) (x y : Train) (c : Converter) (cause : Cause) :
    (s.setTrain i x).shifted i y c cause = s.became i x y c cause := by
  rw [State.shifted, State.train_setTrain_same, State.setTrain_setTrain, State.became]

/-- The record moves where its release serves nobody and the flow is as before. -/
theorem State.changeTrain_became {s : State} {i : Fin 8} {x : Train} {new : TrainState} (h : x.state ≠ new) (hf : x.state.flows = new.flows)
    (hs : x.state ≠ .startWait ∧ x.state ≠ .starting) (v : Int) (c : Cause) :
    (s.setTrain i x).changeTrain i new v c = s.became i x (x.changed new v s.now) s.conv c := by
  have same := State.train_setTrain_same s i x
  rw [State.changeTrain_steady (by rwa [same]) (by rwa [same]) (by rw [same]; exact fun e => absurd e hs.2), State.shifted_setTrain,
    State.convAfter_other (by rwa [same]), same]
  rfl

/-- The record leaves START_WAIT: its slot leaves the start queue. -/
theorem State.changeTrain_waited {s : State} {i : Fin 8} {x : Train} {new : TrainState} (h : x.state = .startWait) (hn : new ≠ .startWait)
    (hf : new.flows = false) (v : Int) (c : Cause) :
    (s.setTrain i x).changeTrain i new v c = s.became i x (x.changed new v s.now) { s.conv with
      queue := s.conv.queue.erase i, retry := if s.conv.queue.erase i = [] then none else s.conv.retry } c := by
  have same := State.train_setTrain_same s i x
  rw [State.changeTrain_steady (by rw [same, h]; exact hn.symm) (by rw [same, h, hf]; rfl) (by rw [same, h]; nofun), State.shifted_setTrain,
    State.convAfter_waiting (by rw [same]; exact h), same]
  rfl

/-- The record leaves STARTING: the converter is released, and serves the head of its queue where it is FREE. -/
theorem State.changeTrain_started {s : State} {i : Fin 8} {x : Train} {new : TrainState} (h : x.state = .starting) (hb : s.conv.state = .busy i)
    (hn : new ≠ .starting) (hf : new.flows = false) (v : Int) (c : Cause) :
    (s.setTrain i x).changeTrain i new v c = State.serve (s.became i x (x.changed new v s.now)
      (if s.plant.cooldown = 0 then { s.conv with state := .free }
        else { s.conv with state := .cooldown, cooldown := some (s.now + s.plant.cooldown * 1000) }) c) := by
  have same := State.train_setTrain_same s i x
  rw [State.changeTrain, if_pos ⟨by rw [same]; exact h, hn⟩, State.moveTrain_steady (by rw [same, h]; exact hn.symm) (by rw [same, h, hf]; rfl),
    State.shifted_setTrain, State.convAfter_starting (s := s.setTrain i x) (by rw [same]; exact h) hb, same]
  rfl

theorem State.changeTrain_started_cooling {s : State} {i : Fin 8} {x : Train} {new : TrainState} (h : x.state = .starting)
    (hb : s.conv.state = .busy i) (hn : new ≠ .starting) (hf : new.flows = false) (hc : s.plant.cooldown ≠ 0) (v : Int) (c : Cause) :
    (s.setTrain i x).changeTrain i new v c = s.became i x (x.changed new v s.now)
      { s.conv with state := .cooldown, cooldown := some (s.now + s.plant.cooldown * 1000) } c := by
  rw [State.changeTrain_started h hb hn hf, if_neg hc, State.serve_idle (.inl (by rw [State.became_conv]; nofun))]

theorem State.changeTrain_started_free {s : State} {i : Fin 8} {x : Train} {new : TrainState} (h : x.state = .starting)
    (hb : s.conv.state = .busy i) (hn : new ≠ .starting) (hf : new.flows = false) (hc : s.plant.cooldown = 0) (v : Int) (c : Cause) :
    (s.setTrain i x).changeTrain i new v c = State.serve (s.became i x (x.changed new v s.now) { s.conv with state := .free } c) := by
  rw [State.changeTrain_started h hb hn hf, if_pos hc]

/-! ## A train that leaves the flow -/

/-- The manifold's answer to the slot that has left the flow (R39). -/
def State.departed (s : State) (i : Fin 8) (u : State) : State := match s.manifold.state.flow with
  | some d => if ∃ j, j ≠ i ∧ (s.train j).flowing = true ∧ (s.train j).p.kind = d.kind then u else u.enterChangeover d
  | none =>
    if s.manifold.state = .changeover ∧ s.manifold.timer = none ∧ ∀ j, j ≠ i → (s.train j).flowing = false then
      if s.plant.deadband = 0 then u.manifoldTo ⟨.idle, none, none⟩
      else { u with manifold := { s.manifold with timer := some (s.now + s.plant.deadband * 1000) } }
    else u

variable {s : State} {i : Fin 8} {x y : Train} {v : Converter} {cause : Cause}

theorem State.became_kindFlows (hy : y.state.flows = false) (k : TrainKind) :
    (s.became i x y v cause).kindFlows k = true ↔ ∃ j, j ≠ i ∧ (s.train j).flowing = true ∧ (s.train j).p.kind = k := by
  have still : y.flowing = false := by rw [Train.flowing, hy, Bool.and_false]
  rw [State.kindFlows_iff]
  constructor
  · rintro ⟨j, hj, hk⟩
    rw [State.became_train] at hj hk
    split at hj
    case isTrue => rw [still] at hj; cases hj
    case isFalse e => rw [if_neg e] at hk; exact ⟨j, e, hj, hk⟩
  · rintro ⟨j, e, hj, hk⟩
    exact ⟨j, by rw [State.became_train, if_neg e]; exact hj, by rw [State.became_train, if_neg e]; exact hk⟩

theorem State.became_someFlows (hy : y.state.flows = false) :
    (s.became i x y v cause).someFlows = true ↔ ∃ j, j ≠ i ∧ (s.train j).flowing = true := by
  have still : y.flowing = false := by rw [Train.flowing, hy, Bool.and_false]
  simp only [State.someFlows, List.any_eq_true, State.became_train]
  constructor
  · rintro ⟨j, -, hj⟩
    split at hj
    case isTrue => rw [still] at hj; cases hj
    case isFalse e => exact ⟨j, e, hj⟩
  · rintro ⟨j, e, hj⟩
    exact ⟨j, mem_slotNumbers j, by rw [if_neg e]; exact hj⟩

theorem State.startDeadband_became : (s.became i x y v cause).startDeadband =
    if s.plant.deadband = 0 then (s.became i x y v cause).manifoldTo ⟨.idle, none, none⟩
    else { s.became i x y v cause with manifold := { s.manifold with timer := some (s.now + s.plant.deadband * 1000) } } := by
  have own := (s.became_own i x y v cause).agree
  have plant : (s.became i x y v cause).plant = s.plant := own .plant (by decide)
  have now : (s.became i x y v cause).now = s.now := own .now (by decide)
  simp only [State.startDeadband, State.after, State.became_manifold, plant, now, State.manifoldIdle]

/-- In a direction the manifold changes over where the slot was the last of its kind to flow. -/
theorem State.flowEnded_flowing (hy : y.state.flows = false) {d : Direction} (hm : s.manifold.state = d.state) :
    (s.became i x y v cause).flowEnded =
      if ∃ j, j ≠ i ∧ (s.train j).flowing = true ∧ (s.train j).p.kind = d.kind then s.became i x y v cause
      else (s.became i x y v cause).enterChangeover d := by
  rw [State.flowEnded_direction (by rw [State.became_manifold]; exact hm)]
  exact if_congr (State.became_kindFlows hy d.kind) rfl rfl

/-- In CHANGEOVER the deadband timer starts where the slot was the last to flow. -/
theorem State.flowEnded_changing (hy : y.state.flows = false) (hm : s.manifold.state = .changeover) :
    (s.became i x y v cause).flowEnded =
      if s.manifold.timer = none ∧ ∀ j, j ≠ i → (s.train j).flowing = false then (s.became i x y v cause).startDeadband
      else s.became i x y v cause := by
  have none_flows : (∀ j, j ≠ i → (s.train j).flowing = false) ↔ ¬ ∃ j, j ≠ i ∧ (s.train j).flowing = true := by
    simp only [not_exists, not_and, Bool.not_eq_true]
  simp only [State.flowEnded, State.became_manifold, hm, none_flows, State.became_someFlows hy]
  by_cases timer : s.manifold.timer = none <;> by_cases flows : ∃ j, j ≠ i ∧ (s.train j).flowing = true <;>
    simp [timer, flows]

theorem State.flowEnded_departed (hy : y.state.flows = false) :
    (s.became i x y v cause).flowEnded = s.departed i (s.became i x y v cause) := by
  unfold State.departed
  cases hm : s.manifold.state with
  | idle => simp only [State.flowEnded, State.became_manifold, hm]; rfl
  | charge => exact State.flowEnded_flowing hy (d := .charge) hm
  | discharge => exact State.flowEnded_flowing hy (d := .discharge) hm
  | changeover =>
    rw [State.flowEnded_changing hy hm, State.startDeadband_became]
    simp only [ManifoldState.flow, true_and]

/-- A flowing train leaves the flow. -/
theorem State.changeTrain_leaves {new : TrainState} (h : x.state.flows = true) (hn : new.flows = false) (w : Int) (c : Cause) :
    (s.setTrain i x).changeTrain i new w c = (s.became i x (x.changed new w s.now) s.conv c).flowEnded := by
  have same := State.train_setTrain_same s i x
  have busy : x.state ≠ .startWait ∧ x.state ≠ .starting := by constructor <;> intro e <;> rw [e] at h <;> cases h
  rw [State.changeTrain_moves (by rw [same]; exact busy.2), State.moveTrain_shifted (by rw [same]; intro e; rw [e, hn] at h; cases h),
    State.manifoldAnswer_ended (by rw [same]; exact ⟨h, hn⟩), State.shifted_setTrain, State.convAfter_other (by rwa [same]), same]
  rfl

end Sys2Proof.Machine
end
section
/-!
PROOFS. The reports of a train: what agrees, completes, clears a trip or trips (R70 to R74).
-/

namespace Sys2Proof.Machine

/-! ## The frame and its report -/

/-- A STATUS frame of a train's controller, whose node is no valve's and not the converter's. -/
def State.hears (s : State) (h : Passing) (rest : List Byte) (i : Fin 8) : Prop :=
  (s.passes h ∧ rest.length ≤ 236) ∧ s.trainNode h.src.toNat i ∧ s.plant.convNode ≠ h.src.toNat

/-- The report is a state or an event, other than of a trip, that implies the state. -/
def implies (k c : Byte) (st : TrainState) : Prop :=
  ∃ r, trainReportOf k c = some r ∧ r.implied = st ∧ r ≠ .event .tripped ∧ r ≠ .event .tripClear

theorem implies_state {c : Byte} {st : TrainState} (h : trainStateOf c = some st) : implies 1 c st :=
  ⟨.state st, trainReportOf_state h, rfl, nofun, nofun⟩

theorem implies_standby {k c : Byte} (h : k = 1 ∧ c = 2 ∨ k = 2 ∧ c = 19) : implies k c .standby := by
  rcases h with ⟨rfl, rfl⟩ | ⟨rfl, rfl⟩
  · exact implies_state rfl
  · exact ⟨.event .stopped, rfl, rfl, nofun, nofun⟩

theorem implies_loaded {k c : Byte} (h : k = 1 ∧ c = 6 ∨ k = 2 ∧ c = 17) : implies k c .loaded := by
  rcases h with ⟨rfl, rfl⟩ | ⟨rfl, rfl⟩
  · exact implies_state rfl
  · exact ⟨.event .loadedAck, rfl, rfl, nofun, nofun⟩

theorem implies_atSpeed {k c : Byte} (h : k = 1 ∧ c = 4 ∨ k = 2 ∧ c = 16) : implies k c .idleRun := by
  rcases h with ⟨rfl, rfl⟩ | ⟨rfl, rfl⟩
  · exact implies_state rfl
  · exact ⟨.event .atSpeed, rfl, rfl, nofun, nofun⟩

theorem implies_unloaded {k c : Byte} (h : k = 1 ∧ c = 4 ∨ k = 2 ∧ c = 18) : implies k c .idleRun := by
  rcases h with ⟨rfl, rfl⟩ | ⟨rfl, rfl⟩
  · exact implies_state rfl
  · exact ⟨.event .unloaded, rfl, rfl, nofun, nofun⟩

section
variable {s : State} {h : Passing} {rest : List Byte} {i : Fin 8} {k c p3 p2 p1 p0 t1 t0 : Byte} {st : TrainState}

/-- A report that implies a state. -/
theorem exec_stateReport (H : s.hears h rest i) (hi : implies k c st) :
    exec (.status h (statusBytes k c p3 p2 p1 p0 t1 t0 rest)) s =
      .next (((s.countReceived.setTrain i ((s.train i).reported (carried k c p3 p2 p1 p0 t1 t0))).stateReport i st c
        (word32 p3 p2 p1 p0).toNat ((s.train i).lastReport.map (·.code))).forwardOrDrop
          (passingFrame h kStatus (statusBytes k c p3 p2 p1 p0 t1 t0 rest))) := by
  obtain ⟨⟨hp, hl⟩, hn, hc⟩ := H
  obtain ⟨r, report, rfl, other⟩ := hi
  rw [exec_trainStatus hp hl hn hc report, State.trainReport_state other]
  rfl

/-- A report of the completion of the operation. -/
theorem exec_completion (H : s.hears h rest i) (hi : implies k c st) (hs : (s.train i).state.completion = some st) :
    exec (.status h (statusBytes k c p3 p2 p1 p0 t1 t0 rest)) s =
      .next (((s.countReceived.setTrain i ((s.train i).reported (carried k c p3 p2 p1 p0 t1 t0))).changeTrain i st
        (s.train i).p.pMin .report).forwardOrDrop (passingFrame h kStatus (statusBytes k c p3 p2 p1 p0 t1 t0 rest))) := by
  have same := State.train_setTrain_same s.countReceived i ((s.train i).reported (carried k c p3 p2 p1 p0 t1 t0))
  rw [exec_stateReport H hi, State.stateReport_completes (by rw [same]; exact hs), same]
  rfl

/-- The completion of an operation whose train flows on or does not flow. -/
theorem exec_completion_steady (H : s.hears h rest i) (hi : implies k c st) (hs : (s.train i).state.completion = some st)
    (hf : (s.train i).state.flows = st.flows) (hn : (s.train i).state ≠ .starting ∧ (s.train i).state ≠ .loaded) :
    exec (.status h (statusBytes k c p3 p2 p1 p0 t1 t0 rest)) s =
      .next ((s.countReceived.became i ((s.train i).reported (carried k c p3 p2 p1 p0 t1 t0))
        { (s.train i).reported (carried k c p3 p2 p1 p0 t1 t0) with
          state := st, entry := s.now, timer := ((s.train i).p.timeout st).map (s.now + ·)
          setpoint := if st = .loaded then (s.train i).p.pMin else 0 } s.conv .report).forwardOrDrop
            (passingFrame h kStatus (statusBytes k c p3 p2 p1 p0 t1 t0 rest))) := by
  have moves : (s.train i).state ≠ st ∧ (s.train i).state ≠ .startWait ∧ st ≠ .tripped := by
    refine ⟨?_, ?_, ?_⟩ <;> intro e
    · rw [e] at hs; revert hs; cases st <;> decide
    · rw [e] at hs; cases hs
    · rw [e] at hs; revert hs; cases (s.train i).state <;> decide
  obtain ⟨differs, waits, running⟩ := moves
  rw [exec_completion H hi hs, State.changeTrain_became (x := (s.train i).reported _) differs hf ⟨waits, hn.1⟩,
    Train.changed_unloaded (t := (s.train i).reported _) hn.2 running]
  rfl

/-- A report of the state of the record. -/
theorem exec_agrees (H : s.hears h rest i) (hi : implies k c st) (hk : st ≠ .unknown) (hs : (s.train i).state = st) :
    exec (.status h (statusBytes k c p3 p2 p1 p0 t1 t0 rest)) s =
      .next ((s.countReceived.setTrain i ((s.train i).reported (carried k c p3 p2 p1 p0 t1 t0))).forwardOrDrop
        (passingFrame h kStatus (statusBytes k c p3 p2 p1 p0 t1 t0 rest))) := by
  rw [exec_stateReport H hi, State.stateReport_agrees hk (by rw [State.train_setTrain_same]; exact hs)]

/-- The event TRIP_CLEAR. -/
theorem exec_tripClear (H : s.hears h rest i) : exec (.status h (statusBytes 2 21 p3 p2 p1 p0 t1 t0 rest)) s =
    .next (((s.countReceived.setTrain i ((s.train i).reported (carried 2 21 p3 p2 p1 p0 t1 t0))).tripClearEvent i 21).forwardOrDrop
      (passingFrame h kStatus (statusBytes 2 21 p3 p2 p1 p0 t1 t0 rest))) := by
  obtain ⟨⟨hp, hl⟩, hn, hc⟩ := H
  rw [exec_trainStatus hp hl hn hc (r := .event .tripClear) rfl]
  rfl

/-- The event TRIPPED. -/
theorem exec_trippedEvent (H : s.hears h rest i) : exec (.status h (statusBytes 2 20 p3 p2 p1 p0 t1 t0 rest)) s =
    .next (((s.countReceived.setTrain i ((s.train i).reported (carried 2 20 p3 p2 p1 p0 t1 t0))).trippedEvent i
      (word16 t1 t0).toNat).forwardOrDrop (passingFrame h kStatus (statusBytes 2 20 p3 p2 p1 p0 t1 t0 rest))) := by
  obtain ⟨⟨hp, hl⟩, hn, hc⟩ := H
  rw [exec_trainStatus hp hl hn hc (r := .event .tripped) rfl]
  rfl

end

/-! ## The event TRIP_CLEAR -/

/-- A trip clear seen is set in the record beside the notices. -/
theorem Aside.withTripClear (i : Fin 8) : Aside fun s => s.setTrain i { s.train i with tripClear := true } where
  commutes _ _ _ := rfl
  ring _ := rfl
  rep _ := rfl
  now _ := rfl
  node _ := rfl
  clock _ := rfl
  plant _ := rfl
  flags s x := by
    cases x with
    | train j =>
      simp only [State.notifyFlag, State.train_setTrain]
      split
      case isTrue e => rw [e]
      case isFalse => rfl
    | _ => rfl

theorem State.became_clear (s : State) (i : Fin 8) (x y : Train) (v : Converter) (cause : Cause) :
    (s.became i x y v cause).setTrain i { (s.became i x y v cause).train i with tripClear := true } =
      s.became i x { y with tripClear := true } v cause := by
  refine ((Aside.withTripClear i).notify _ _ _ _).symm.trans (congrArg (fun u => State.trainNotice u i _ _ cause) ?_)
  show State.setTrain { (s.setTrain i y).setTrack i y.setpoint with conv := v } i { (s.setTrain i y).train i with tripClear := true } = _
  rw [State.train_setTrain_same]
  exact congrArg (fun u : State => { u.setTrack i y.setpoint with conv := v }) (s.setTrain_setTrain i y { y with tripClear := true })

theorem State.tripClearEvent_tripped {s : State} {i : Fin 8} (h : (s.train i).state = .tripped) (c : Byte) :
    s.tripClearEvent i c = s.setTrain i { s.train i with tripClear := true } := by
  simp only [State.tripClearEvent, h, if_true, true_or]

theorem State.tripClearEvent_unknown {s : State} {i : Fin 8} (h : (s.train i).state = .unknown) (c : Byte) :
    s.tripClearEvent i c = (s.changeTrain i .tripped 0 .adoption).setTrain i
      { (s.changeTrain i .tripped 0 .adoption).train i with tripClear := true } := by
  simp only [State.tripClearEvent, h, or_true, if_true, if_neg (show TrainState.unknown ≠ .tripped by decide)]

/-- The notice of a trip that the report cleared. -/
def State.clearedTrip (u : State) (i : Fin 8) (held : TrainState) : State :=
  State.notify (u.setTrain i { u.train i with tripClear := true }) .stateMismatch (.train i) [.fig i.val, .code held.num, .code 21, .code 10]

theorem State.tripClearEvent_known {s : State} {i : Fin 8} (h : (s.train i).state ≠ .tripped ∧ (s.train i).state ≠ .unknown)
    (ht : ((s.changeTrain i .tripped 0 .adoption).train i).state = .tripped) :
    s.tripClearEvent i 21 = (s.changeTrain i .tripped 0 .adoption).clearedTrip i (s.train i).state := by
  simp only [State.tripClearEvent, if_neg h.1, if_neg (not_or.mpr h), State.stateMismatch, State.train_setTrain_same, ht, State.clearedTrip]
  rfl

/-! ## The event TRIPPED -/

/-- The trip capture record joins the stack, with TRAIN_TRIPPED. -/
def State.captured (s : State) (i : Fin 8) (x : Train) (cause : Nat) (st : TrainState) (sp : Int) (u : State) : State :=
  let r : Capture := ⟨if s.clock.state = .invalid then 0 else s.clock.plantMs, s.clock.state, st, sp, cause,
    u.manifold.state, match x.p.kind.dir with | none => 0 | some d => u.plantFactor d⟩
  let l := (if x.stack.length < 2 then x.stack else x.stack.tail) ++ [r]
  let overran := x.overrun || decide (2 ≤ x.stack.length)
  (u.setTrain i { u.train i with stack := l, overrun := overran, tripClear := false }).notify .trainTripped (.train i)
    [.fig i.val, .fig cause, .code st.num, .fig l.length, flagItem overran]

theorem Train.capture_eq (t : Train) (r : Capture) : t.capture r = { t with
    stack := (if t.stack.length < 2 then t.stack else t.stack.tail) ++ [r], overrun := t.overrun || decide (2 ≤ t.stack.length) } := by
  unfold Train.capture
  split
  case isTrue e => rw [if_neg (Nat.not_lt.mpr e), decide_eq_true e, Bool.or_true]
  case isFalse e => rw [if_pos (Nat.not_le.mp e), decide_eq_false e, Bool.or_false]

/-- What a serve leaves of a record: the captures it has. -/
theorem State.moveTrain_history (s : State) (i j : Fin 8) (new : TrainState) (v : Int) (c : Cause) :
    ((s.moveTrain i new v c).train j).stack = (s.train j).stack ∧ ((s.moveTrain i new v c).train j).overrun = (s.train j).overrun := by
  rw [State.moveTrain_train]
  split
  case isTrue e =>
    rw [e.1]
    exact ⟨Train.changed_stack _ _ _ _, by simp only [Train.changed]; split <;> rfl⟩
  case isFalse => exact ⟨rfl, rfl⟩

theorem State.serve_history (s : State) (j : Fin 8) :
    (s.serve.train j).stack = (s.train j).stack ∧ (s.serve.train j).overrun = (s.train j).overrun := by
  unfold State.serve
  split
  case h_1 i _ _ _ =>
    split
    case isTrue room =>
      have placed := (State.place_own room (s.train i).p.node .start 0).agree.train (by decide) j
      have moved := ((s.place (s.train i).p.node .start 0).takeConverter i).moveTrain_history i j .starting 0 .order
      rw [State.takeConverter_train, placed] at moved
      exact moved
    case isFalse =>
      have told := (s.trainQueueFull_own i .start).agree.train (by decide) j
      exact ⟨congrArg Train.stack told, congrArg Train.overrun told⟩
  case h_2 => exact ⟨rfl, rfl⟩

theorem State.changeTrain_history (s : State) (i j : Fin 8) (new : TrainState) (v : Int) (c : Cause) :
    ((s.changeTrain i new v c).train j).stack = (s.train j).stack ∧ ((s.changeTrain i new v c).train j).overrun = (s.train j).overrun := by
  have moved := s.moveTrain_history i j new v c
  have served := (s.moveTrain i new v c).serve_history j
  unfold State.changeTrain
  dsimp only
  split
  · exact ⟨served.1.trans moved.1, served.2.trans moved.2⟩
  · exact moved

/-- A train that was not TRIPPED. -/
theorem State.trippedEvent_trips {s : State} {i : Fin 8} {x : Train} (h : x.state ≠ .tripped) (cause : Nat) :
    (s.setTrain i x).trippedEvent i cause =
      s.captured i x cause x.state x.setpoint ((s.setTrain i x).changeTrain i .tripped 0 .report) := by
  have same := State.train_setTrain_same s i x
  have past := (s.setTrain i x).changeTrain_history i i .tripped 0 .report
  have clock : ((s.setTrain i x).changeTrain i .tripped 0 .report).clock = s.clock :=
    (State.changeTrain_rests (s := s.setTrain i x) (i := i) (new := .tripped) (v := 0) (c := .report) (by decide)).agree .clock (by decide)
  rw [same] at past
  have was : (x.state == .tripped) = false := beq_eq_false_iff_ne.mpr h
  simp only [State.trippedEvent, same, was, Bool.false_eq_true, if_false, Train.capture_eq, past.1, past.2, clock, State.captured] <;> rfl

/-- A train that is TRIPPED already. -/
theorem State.trippedEvent_again {s : State} {i : Fin 8} {x : Train} (h : x.state = .tripped) (cause : Nat) :
    (s.setTrain i x).trippedEvent i cause = s.captured i x cause (x.preState.getD .unknown) x.preSetpoint (s.setTrain i x) := by
  have same := State.train_setTrain_same s i x
  have was : (x.state == .tripped) = true := beq_iff_eq.mpr h
  simp only [State.trippedEvent, same, was, if_true, Train.capture_eq, State.captured] <;> rfl

end Sys2Proof.Machine
end
section
/-!
PROOFS. What a report of a present train does (R70 to R74).
-/

namespace Sys2Proof.Machine

/-- The service of the queue moves a waiting slot alone. -/
theorem State.serve_train {s : State} {j : Fin 8} (h : j ∉ s.conv.queue) : s.serve.train j = s.train j := by
  unfold State.serve
  split
  case h_1 i _ _ queue =>
    have other : j ≠ i := fun e => h (by rw [queue, e]; exact List.mem_cons_self)
    split
    case isTrue room =>
      rw [State.moveTrain_train, if_neg (fun e => other e.1), State.takeConverter_train]
      exact (State.place_own room (s.train i).p.node .start 0).agree.train (by decide) j
    case isFalse => exact (s.trainQueueFull_own i .start).agree.train (by decide) j
  case h_2 => rfl

/-- What a report by the controller makes of the record. -/
def Train.felled (t : Train) (now : Nat) : Train := { t with
  state := .tripped, entry := now, timer := none, setpoint := 0, starved := t.starved && t.state != .loaded
  preState := some t.state, preSetpoint := t.setpoint, tripClear := false }

theorem Train.felled_unloaded {t : Train} (h : t.state ≠ .loaded) (now : Nat) : t.felled now = { t with
    state := .tripped, entry := now, timer := none, setpoint := 0, preState := some t.state, preSetpoint := t.setpoint, tripClear := false } := by
  rw [Train.felled, bne_iff_ne.mpr h, Bool.and_true]

theorem Train.changed_tripped_unloaded {t : Train} (h : t.state ≠ .loaded) (v : Int) (now : Nat) : t.changed .tripped v now = { t with
    state := .tripped, entry := now, timer := none, setpoint := 0, preState := some t.state, preSetpoint := t.setpoint, tripClear := false } :=
  (t.changed_tripped_eq v now).trans (Train.felled_unloaded h now)

section
variable {s : State} {h : Passing} {rest : List Byte} {i : Fin 8} {c p3 p2 p1 p0 t1 t0 : Byte}

/-- The frame of a report that trips the train, with what the trip leaves. -/
def State.tripEnds (s : State) (h : Passing) (rest : List Byte) (i : Fin 8) (c p3 p2 p1 p0 t1 t0 : Byte) (u : Cause → State) : Prop :=
  (c = 20 → exec (.status h (statusBytes 2 c p3 p2 p1 p0 t1 t0 rest)) s =
    .next ((s.countReceived.captured i ((s.train i).reported (carried 2 c p3 p2 p1 p0 t1 t0)) (word16 t1 t0).toNat (s.train i).state
      (s.train i).setpoint (u .report)).forwardOrDrop (passingFrame h kStatus (statusBytes 2 c p3 p2 p1 p0 t1 t0 rest)))) ∧
  (c = 21 → (s.train i).state ≠ .unknown → exec (.status h (statusBytes 2 c p3 p2 p1 p0 t1 t0 rest)) s =
    .next (((u .adoption).clearedTrip i (s.train i).state).forwardOrDrop (passingFrame h kStatus (statusBytes 2 c p3 p2 p1 p0 t1 t0 rest))))

theorem tripEnds_of (H : s.hears h rest i) (hx : (s.train i).state ≠ .tripped) {u : Cause → State}
    (hu : ∀ cause, (s.countReceived.setTrain i ((s.train i).reported (carried 2 c p3 p2 p1 p0 t1 t0))).changeTrain i .tripped 0 cause = u cause)
    (ht : ∀ cause, ((u cause).train i).state = .tripped) : s.tripEnds h rest i c p3 p2 p1 p0 t1 t0 u := by
  constructor
  · rintro rfl
    rw [exec_trippedEvent H, State.trippedEvent_trips (x := (s.train i).reported _) hx, hu .report]
    rfl
  · rintro rfl known
    have same := State.train_setTrain_same s.countReceived i ((s.train i).reported (carried 2 21 p3 p2 p1 p0 t1 t0))
    rw [exec_tripClear H, State.tripClearEvent_known (by rw [same]; exact ⟨hx, known⟩) (by rw [hu]; exact ht .adoption), hu .adoption, same]
    rfl

theorem tripEnds_congr {u w : Cause → State} (same : ∀ cause, u cause = w cause) (ends : s.tripEnds h rest i c p3 p2 p1 p0 t1 t0 u) :
    s.tripEnds h rest i c p3 p2 p1 p0 t1 t0 w := funext same ▸ ends

/-- A train that stands still, or idles, or stops. -/
theorem tripEnds_idle (H : s.hears h rest i) (hx : (s.train i).state ≠ .tripped) (hf : (s.train i).state.flows = false)
    (hs : (s.train i).state ≠ .startWait ∧ (s.train i).state ≠ .starting) :
    s.tripEnds h rest i c p3 p2 p1 p0 t1 t0 fun cause => s.countReceived.became i ((s.train i).reported (carried 2 c p3 p2 p1 p0 t1 t0))
      (((s.train i).reported (carried 2 c p3 p2 p1 p0 t1 t0)).felled s.now) s.conv cause := by
  refine tripEnds_of H hx (fun cause => ?_) fun cause => by rw [State.became_train, if_pos rfl]; rfl
  rw [State.changeTrain_became (x := (s.train i).reported _) hx hf hs, Train.changed_tripped_eq]
  rfl

/-- A train that waits for the converter leaves the start queue. -/
theorem tripEnds_waiting (H : s.hears h rest i) (hx : (s.train i).state = .startWait) :
    s.tripEnds h rest i c p3 p2 p1 p0 t1 t0 fun cause => s.countReceived.became i ((s.train i).reported (carried 2 c p3 p2 p1 p0 t1 t0))
      (((s.train i).reported (carried 2 c p3 p2 p1 p0 t1 t0)).felled s.now)
      { s.conv with queue := s.conv.queue.erase i, retry := if s.conv.queue.erase i = [] then none else s.conv.retry } cause := by
  refine tripEnds_of H (by rw [hx]; decide) (fun cause => ?_) fun cause => by rw [State.became_train, if_pos rfl]; rfl
  rw [State.changeTrain_waited (x := (s.train i).reported _) (new := .tripped) hx (by decide) rfl, Train.changed_tripped_eq]
  rfl

/-- A train that starts releases the converter into COOLDOWN. -/
theorem tripEnds_cooling (H : s.hears h rest i) (hx : (s.train i).state = .starting) (hb : s.conv.state = .busy i) (hc : s.plant.cooldown ≠ 0) :
    s.tripEnds h rest i c p3 p2 p1 p0 t1 t0 fun cause => s.countReceived.became i ((s.train i).reported (carried 2 c p3 p2 p1 p0 t1 t0))
      (((s.train i).reported (carried 2 c p3 p2 p1 p0 t1 t0)).felled s.now)
      { s.conv with state := .cooldown, cooldown := some (s.now + s.plant.cooldown * 1000) } cause := by
  refine tripEnds_of H (by rw [hx]; decide) (fun cause => ?_) fun cause => by rw [State.became_train, if_pos rfl]; rfl
  rw [State.changeTrain_started_cooling (s := s.countReceived) (x := (s.train i).reported _) (new := .tripped) hx hb (by decide) rfl hc, Train.changed_tripped_eq]
  rfl

/-- Without a cooldown the head of the start queue is served at once. -/
theorem tripEnds_serving (H : s.hears h rest i) (hx : (s.train i).state = .starting) (hb : s.conv.state = .busy i) (hc : s.plant.cooldown = 0)
    (hq : i ∉ s.conv.queue) :
    s.tripEnds h rest i c p3 p2 p1 p0 t1 t0 fun cause => State.serve (s.countReceived.became i
      ((s.train i).reported (carried 2 c p3 p2 p1 p0 t1 t0)) (((s.train i).reported (carried 2 c p3 p2 p1 p0 t1 t0)).felled s.now)
      { s.conv with state := .free } cause) := by
  refine tripEnds_of H (by rw [hx]; decide) (fun cause => ?_) fun cause => ?_
  · rw [State.changeTrain_started_free (s := s.countReceived) (x := (s.train i).reported _) (new := .tripped) hx hb (by decide) rfl hc, Train.changed_tripped_eq]
    rfl
  · rw [State.serve_train (by rw [State.became_conv]; exact hq), State.became_train, if_pos rfl]
    rfl

/-- With an empty start queue the release serves nobody. -/
theorem tripEnds_freed (H : s.hears h rest i) (hx : (s.train i).state = .starting) (hb : s.conv.state = .busy i) (hc : s.plant.cooldown = 0)
    (hq : s.conv.queue = []) :
    s.tripEnds h rest i c p3 p2 p1 p0 t1 t0 fun cause => s.countReceived.became i
      ((s.train i).reported (carried 2 c p3 p2 p1 p0 t1 t0)) (((s.train i).reported (carried 2 c p3 p2 p1 p0 t1 t0)).felled s.now)
      { s.conv with state := .free } cause := by
  have served := tripEnds_serving (c := c) (p3 := p3) (p2 := p2) (p1 := p1) (p0 := p0) (t1 := t1) (t0 := t0) H hx hb hc
    (by rw [hq]; exact List.not_mem_nil)
  exact tripEnds_congr (fun cause => State.serve_idle (.inr (by rw [State.became_conv]; exact hq))) served

/-- A train of the flow leaves it to the manifold. -/
theorem tripEnds_flowing (H : s.hears h rest i) (hf : (s.train i).state.flows = true) :
    s.tripEnds h rest i c p3 p2 p1 p0 t1 t0 fun cause => s.departed i (s.countReceived.became i
      ((s.train i).reported (carried 2 c p3 p2 p1 p0 t1 t0)) (((s.train i).reported (carried 2 c p3 p2 p1 p0 t1 t0)).felled s.now)
      s.conv cause) := by
  have left (cause : Cause) := State.flowEnded_departed (s := s.countReceived) (i := i) (x := (s.train i).reported (carried 2 c p3 p2 p1 p0 t1 t0))
    (y := ((s.train i).reported (carried 2 c p3 p2 p1 p0 t1 t0)).felled s.now) (v := s.conv) (cause := cause) rfl
  refine tripEnds_of H (by intro e; rw [e] at hf; cases hf) (fun cause => ?_) fun cause => ?_
  · rw [State.changeTrain_leaves (x := (s.train i).reported _) hf rfl, Train.changed_tripped_eq]
    exact left cause
  · show ((State.departed s.countReceived i _).train i).state = .tripped
    rw [← left cause, (State.flowEnded_keeps _).agree.train (by decide), State.became_train, if_pos rfl]
    rfl

/-- The report that completes an UNLOADING, before the manifold answers. -/
theorem exec_unloaded (H : s.hears h rest i) {k : Byte} (hi : implies k c .idleRun) (hx : (s.train i).state = .unloading) :
    exec (.status h (statusBytes k c p3 p2 p1 p0 t1 t0 rest)) s =
      .next ((s.countReceived.became i ((s.train i).reported (carried k c p3 p2 p1 p0 t1 t0))
        { (s.train i).reported (carried k c p3 p2 p1 p0 t1 t0) with state := .idleRun, entry := s.now, timer := none, setpoint := 0 }
        s.conv .report).flowEnded.forwardOrDrop (passingFrame h kStatus (statusBytes k c p3 p2 p1 p0 t1 t0 rest))) := by
  rw [exec_completion H hi (by rw [hx]; rfl), State.changeTrain_leaves (x := (s.train i).reported _) (show TrainState.flows _ = _ by rw [Train.reported, hx]; rfl) rfl,
    Train.changed_unloaded (t := (s.train i).reported _) (new := .idleRun) (by rw [Train.reported, hx]; nofun) (by decide)]
  rfl

/-- The report that completes a STARTING, before the converter serves. -/
theorem exec_atSpeed (H : s.hears h rest i) {k : Byte} (hi : implies k c .idleRun) (hx : (s.train i).state = .starting)
    (hb : s.conv.state = .busy i) :
    exec (.status h (statusBytes k c p3 p2 p1 p0 t1 t0 rest)) s =
      .next ((State.serve (s.countReceived.became i ((s.train i).reported (carried k c p3 p2 p1 p0 t1 t0))
        { (s.train i).reported (carried k c p3 p2 p1 p0 t1 t0) with state := .idleRun, entry := s.now, timer := none, setpoint := 0 }
        (if s.plant.cooldown = 0 then { s.conv with state := .free }
          else { s.conv with state := .cooldown, cooldown := some (s.now + s.plant.cooldown * 1000) }) .report)).forwardOrDrop
            (passingFrame h kStatus (statusBytes k c p3 p2 p1 p0 t1 t0 rest))) := by
  rw [exec_completion H hi (by rw [hx]; rfl), State.changeTrain_started (s := s.countReceived) (x := (s.train i).reported _) (new := .idleRun) hx hb (by decide) rfl,
    Train.changed_unloaded (t := (s.train i).reported _) (new := .idleRun) (by rw [Train.reported, hx]; nofun) (by decide)]
  rfl

/-- A first report of a state in which nothing happens. -/
theorem exec_firstReport (H : s.hears h rest i) {k : Byte} {st : TrainState} (hs : st = .offline ∨ st = .standby ∨ st = .idleRun)
    (hi : implies k c st) (hx : (s.train i).state = .unknown) :
    exec (.status h (statusBytes k c p3 p2 p1 p0 t1 t0 rest)) s =
      .next ((s.countReceived.became i ((s.train i).reported (carried k c p3 p2 p1 p0 t1 t0))
        { (s.train i).reported (carried k c p3 p2 p1 p0 t1 t0) with state := st, entry := s.now, timer := none, setpoint := 0 }
        s.conv .adoption).forwardOrDrop (passingFrame h kStatus (statusBytes k c p3 p2 p1 p0 t1 t0 rest))) := by
  have same := State.train_setTrain_same s.countReceived i ((s.train i).reported (carried k c p3 p2 p1 p0 t1 t0))
  have held : ((s.train i).reported (carried k c p3 p2 p1 p0 t1 t0)).state = .unknown := hx
  rw [exec_stateReport H hi, State.stateReport_unknown (by rw [same]; exact hx)]
  rcases hs with rfl | rfl | rfl <;>
  · simp only [State.adopt, same, held, if_true]
    rw [State.changeTrain_became (by rw [held]; nofun) (by rw [held]; rfl) (by rw [held]; exact ⟨nofun, nofun⟩),
      Train.changed_unloaded (by rw [held]; nofun) (by decide)]
    rfl

end

end Sys2Proof.Machine

open Sys2Proof Sys2Proof.Machine

/-- Settles O48: the report replaces the last one; a completion and a trip are changes of the record, whose converter and manifold
answer as the record leaves its state. -/
theorem trainReportsTaken : Obligations.TrainReportsTaken := by
  unfold Obligations.TrainReportsTaken
  intro s h k c p3 p2 p1 p0 t1 t0 rest i hp hl hn hc room body f x now moved
  have H : s.hears h rest i := ⟨⟨hp, hl⟩, hn, hc⟩
  refine ⟨?agrees, ?stopped, ?loaded, ⟨?atSpeed, ?unloaded⟩, ?cleared, ?adopted, ?tripped⟩
  case agrees =>
    rintro st rfl hst hs
    exact (exec_agrees H (implies_state hst) (trainStateOf_known hst).1 hs).trans
      (congrArg Host.Outcome.next (State.forwardOrDrop_room (s := s.countReceived.setTrain i _) room f))
  case stopped =>
    intro hk hs
    have hs' : (s.train i).state = .stopping := hs
    exact exec_completion_steady H (implies_standby hk) (by rw [hs']; rfl) (by rw [hs']; rfl) (by rw [hs']; exact ⟨nofun, nofun⟩)
  case loaded =>
    intro hk hs
    have hs' : (s.train i).state = .loading := hs
    exact exec_completion_steady H (implies_loaded hk) (by rw [hs']; rfl) (by rw [hs']; rfl) (by rw [hs']; exact ⟨nofun, nofun⟩)
  case atSpeed =>
    intro hk hs hb
    have hs' : (s.train i).state = .starting := hs
    have started := exec_atSpeed (p3 := p3) (p2 := p2) (p1 := p1) (p0 := p0) (t1 := t1) (t0 := t0) H (implies_atSpeed hk) hs' hb
    rw [State.became, show ((s.train i).reported _).state = .starting from hs'] at started
    refine ⟨fun cool => ?_, fun free => ?_⟩
    · rw [if_neg cool, State.serve_idle (.inl ?_)] at started
      · exact started
      · exact (congrArg Converter.state (State.became_conv s.countReceived i { s.train i with state := .starting } _ _ _)).trans_ne nofun
    · rw [if_pos free] at started
      refine ⟨started, fun empty => ?_⟩
      rw [State.serve_idle (.inr ?_)] at started
      · exact started
      · exact (congrArg Converter.queue (State.became_conv s.countReceived i { s.train i with state := .starting } _ _ _)).trans empty
  case unloaded =>
    intro hk hs d hd
    have hs' : (s.train i).state = .unloading := hs
    have hd' : (s.train i).p.kind = d.kind := hd
    have left := exec_unloaded (p3 := p3) (p2 := p2) (p1 := p1) (p0 := p0) (t1 := t1) (t0 := t0) H (implies_unloaded hk) hs'
    have others : (∃ j, j ≠ i ∧ (s.train j).flowing = true ∧ (s.train j).p.kind = d.kind) ↔
        ¬ ∀ j, j ≠ i → (s.train j).flowing = true → (s.train j).p.kind ≠ (s.train i).p.kind := by
      rw [hd']
      push Not
      rfl
    intro alone
    let passed (u : State) : Host.Outcome State Fault Refusal := .next (u.forwardOrDrop f)
    refine ⟨fun hm ha => ?_, fun hm ha => ?_, fun hm ht ha => ?_, fun hm ht ha => ?_⟩
    · exact left.trans (congrArg passed ((State.flowEnded_flowing (s := s.countReceived) rfl hm).trans (if_pos (others.mpr ha))))
    · exact left.trans (congrArg passed ((State.flowEnded_flowing (s := s.countReceived) rfl hm).trans (if_neg fun e => others.mp e ha)))
    · refine left.trans (congrArg passed ((State.flowEnded_changing (s := s.countReceived) rfl hm).trans (if_neg ?_)))
      rintro ⟨-, still⟩
      obtain ⟨j, hj, flows⟩ := ha
      exact Bool.false_ne_true ((still j hj).symm.trans flows)
    · exact left.trans (congrArg passed ((State.flowEnded_changing (s := s.countReceived) rfl hm).trans
        ((if_pos ⟨ht, ha⟩).trans State.startDeadband_became)))
  case cleared =>
    rintro rfl rfl
    have same := State.train_setTrain_same s.countReceived i ((s.train i).reported (carried 2 21 p3 p2 p1 p0 t1 t0))
    refine ⟨fun hs => ?_, fun hs => ?_, fun hs => ?_⟩
    · refine (exec_tripClear H).trans ?_
      rw [State.tripClearEvent_tripped (by rw [same]; exact hs), same, State.setTrain_setTrain]
      rfl
    · have hs' : (s.train i).state = .unknown := hs
      refine (exec_tripClear H).trans ?_
      rw [State.tripClearEvent_unknown (by rw [same]; exact hs),
        State.changeTrain_became (x := (s.train i).reported _) (by rw [Train.reported, hs']; nofun) (by rw [Train.reported, hs']; rfl)
          (by rw [Train.reported, hs']; exact ⟨nofun, nofun⟩), State.became_clear,
        Train.changed_tripped_unloaded (by rw [Train.reported, hs']; nofun)]
      rfl
    · have hs' : (s.train i).state = .offline ∨ (s.train i).state = .standby ∨ (s.train i).state = .idleRun ∨ (s.train i).state = .stopping := hs
      have idle : ((s.train i).state ≠ .tripped ∧ (s.train i).state ≠ .unknown ∧ (s.train i).state ≠ .loaded) ∧
          (s.train i).state.flows = false ∧ (s.train i).state ≠ .startWait ∧ (s.train i).state ≠ .starting := by
        rcases hs' with e | e | e | e <;> rw [e] <;> decide
      obtain ⟨⟨untripped, known, unloaded⟩, still, settled⟩ := idle
      have ends := (tripEnds_idle (p3 := p3) (p2 := p2) (p1 := p1) (p0 := p0) (t1 := t1) (t0 := t0) H untripped still settled).2 rfl known
      rw [State.clearedTrip, State.became_clear, Train.felled_unloaded (t := (s.train i).reported _) unloaded] at ends
      exact ends
  case adopted =>
    rintro st hst rfl hc hs
    exact exec_firstReport H hst (implies_state hc) hs
  case tripped =>
    intro leaves gone captured cleared left rests frees ends
    rintro rfl
    refine ⟨fun hs => ?_, fun hs => ?_, fun hs hb hc => ?_, fun hs hb hc hq => ⟨?_, fun empty => ?_⟩, fun hs => ?_, fun hs hc => ?_⟩
    · have hs' : (s.train i).state = .unknown ∨ (s.train i).state = .offline ∨ (s.train i).state = .standby ∨
          (s.train i).state = .idleRun ∨ (s.train i).state = .stopping := hs
      have idle : (s.train i).state ≠ .tripped ∧ (s.train i).state.flows = false ∧ (s.train i).state ≠ .startWait ∧
          (s.train i).state ≠ .starting := by
        rcases hs' with e | e | e | e | e <;> rw [e] <;> decide
      exact tripEnds_idle H idle.1 idle.2.1 idle.2.2
    · exact tripEnds_waiting H hs
    · exact tripEnds_cooling H hs hb hc
    · exact tripEnds_serving H hs hb hc hq
    · exact tripEnds_freed H hs hb hc empty
    · have flows : (s.train i).state.flows = true := by
        have hs' : (s.train i).state = .loading ∨ (s.train i).state = .loaded ∨ (s.train i).state = .unloading := hs
        rcases hs' with e | e | e <;> rw [e] <;> rfl
      exact tripEnds_flowing H flows
    · obtain rfl := hc
      exact (exec_trippedEvent H).trans (congrArg (fun u : State => Host.Outcome.next (u.forwardOrDrop f))
        (State.trippedEvent_again (x := (s.train i).reported _) hs _))
end
section
/-!
PROOFS. What a train adopts from a report of a state (R72, R78 to R80).
-/

namespace Sys2Proof.Machine

/-! ## STATE_MISMATCH -/

/-- STATE_MISMATCH with the state held, the code reported and the state recorded. -/
def State.mismatched (u : State) (i : Fin 8) (held : TrainState) (c : Byte) (new : TrainState) : State :=
  u.notify .stateMismatch (.train i) [.fig i.val, .code held.num, .code c.toNat, .code new.num]

/-- It tells of an adoption but for a train that was UNKNOWN. -/
def State.told (u : State) (i : Fin 8) (held : TrainState) (c : Byte) (new : TrainState) : State :=
  if held = .unknown then u else u.mismatched i held c new

theorem State.stateMismatch_eq {u : State} {i : Fin 8} {new : TrainState} (h : (u.train i).state = new) (held : TrainState) (c : Byte) :
    u.stateMismatch i held c = u.mismatched i held c new := by rw [State.stateMismatch, h, State.mismatched]

theorem State.told_eq {u : State} {i : Fin 8} {new : TrainState} (h : (u.train i).state = new) (held : TrainState) (c : Byte) :
    (if held = .unknown then u else u.stateMismatch i held c) = u.told i held c new := by rw [State.stateMismatch_eq h, State.told]

/-! ## The record that is adopted -/

/-- A report of a state that the record may take is adopted as it is. -/
def TrainState.plain (st : TrainState) : Prop := st ≠ .starting ∧ st ≠ .loading ∧ st ≠ .loaded

theorem State.adopt_plain {s : State} {i : Fin 8} {st : TrainState} (h : st.plain) (c : Byte) (v : Int)
    (hs : ((s.changeTrain i st 0 .adoption).train i).state = st) :
    s.adopt i st c v = (s.changeTrain i st 0 .adoption).told i (s.train i).state c st := by
  obtain ⟨h1, h2, h3⟩ := h
  rw [← State.told_eq hs]
  unfold State.adopt
  split
  case h_1 => exact absurd rfl h1
  case h_2 => exact absurd rfl h2
  case h_3 => exact absurd rfl h3
  case h_4 => rfl

theorem State.adopt_flow {s : State} {i : Fin 8} {st new : TrainState} (h : st = .loading ∨ st = .loaded) (c : Byte) (v : Int)
    (hs : ((s.adoptFlow i st v).train i).state = new) :
    s.adopt i st c v = (s.adoptFlow i st v).told i (s.train i).state c new := by
  rw [← State.told_eq hs]
  rcases h with rfl | rfl <;> rfl

/-- The state of a train of no operation. -/
def TrainState.idle (st : TrainState) : Prop := st = .unknown ∨ st = .offline ∨ st = .standby ∨ st = .idleRun

theorem TrainState.idle.settled {st : TrainState} (h : st.idle) :
    st.flows = false ∧ (st ≠ .startWait ∧ st ≠ .starting) ∧ st ≠ .loaded ∧ st ≠ .tripped := by
  rcases h with h | h | h | h <;> rw [h] <;> decide

/-- An idle train begins to flow: the manifold answers. -/
theorem State.changeTrain_began {s : State} {i : Fin 8} {new : TrainState} (h : (s.train i).state.idle) (hn : new.flows = true) (v : Int)
    (c : Cause) : s.changeTrain i new v c =
      (s.became i (s.train i) ((s.train i).changed new v s.now) s.conv c).flowBegan (s.train i).p.kind := by
  obtain ⟨still, settled, -, -⟩ := h.settled
  rw [State.changeTrain_moves settled.2, State.moveTrain_shifted (by intro e; rw [e, hn] at still; cases still),
    State.manifoldAnswer_began ⟨still, hn⟩, State.convAfter_other settled]
  rfl

/-- An idle train takes another state without the flow. -/
theorem State.changeTrain_rested {s : State} {i : Fin 8} {new : TrainState} (h : (s.train i).state.idle) (hd : (s.train i).state ≠ new)
    (hn : new.flows = false) (v : Int) (c : Cause) :
    s.changeTrain i new v c = s.became i (s.train i) ((s.train i).changed new v s.now) s.conv c := by
  obtain ⟨still, settled, -, -⟩ := h.settled
  rw [State.changeTrain_steady hd (still.trans hn.symm) (fun e => absurd e settled.2), State.convAfter_other settled]
  rfl

/-- The manifold of a train that has begun to flow: it enters the direction unless it flows. -/
def State.entered (s u : State) (d : Direction) : State :=
  if s.manifold.state = .idle ∨ s.manifold.state = .changeover then u.manifoldTo ⟨d.state, none, none⟩ else u

theorem State.flowBegan_entered {s u : State} {d : Direction} (h : u.manifold = s.manifold) : u.flowBegan d.kind = s.entered u d := by
  have flow : s.manifold.state.flow = none ↔ s.manifold.state = .idle ∨ s.manifold.state = .changeover := by
    cases s.manifold.state <;> decide
  rw [State.entered]
  split
  case isTrue e => exact State.flowBegan_enters (by rw [h]; exact flow.mpr e)
  case isFalse e => exact State.flowBegan_flowing _ (by rw [h]; exact fun k => e (flow.mp k))

theorem State.flowBegan_train (s : State) (k : TrainKind) (j : Fin 8) : (s.flowBegan k).train j = s.train j :=
  (s.flowBegan_leaves k).agree.train (by decide) j

/-- The manifold flows against a train's direction. -/
theorem State.flowsAgainst_iff {s : State} (d : Direction) : s.flowsAgainst d.kind = true ↔ ∃ e, e ≠ d ∧ s.manifold.state = e.state := by
  unfold State.flowsAgainst
  rw [Direction.kind_dir]
  cases s.manifold.state with
  | idle => exact ⟨nofun, fun ⟨e, _, h⟩ => by cases e <;> cases h⟩
  | changeover => exact ⟨nofun, fun ⟨e, _, h⟩ => by cases e <;> cases h⟩
  | charge =>
    cases d
    · exact ⟨nofun, fun ⟨e, hd, h⟩ => by cases e with | charge => exact absurd rfl hd | discharge => cases h⟩
    · exact ⟨fun _ => ⟨.charge, nofun, rfl⟩, fun _ => rfl⟩
  | discharge =>
    cases d
    · exact ⟨fun _ => ⟨.discharge, nofun, rfl⟩, fun _ => rfl⟩
    · exact ⟨nofun, fun ⟨e, hd, h⟩ => by cases e with | discharge => exact absurd rfl hd | charge => cases h⟩

theorem State.flowsAgainst_none {s : State} {d : Direction}
    (h : s.manifold.state = .idle ∨ s.manifold.state = .changeover ∨ s.manifold.state = d.state) : s.flowsAgainst d.kind = false := by
  refine Bool.eq_false_iff.mpr fun against => ?_
  obtain ⟨e, differs, flows⟩ := (State.flowsAgainst_iff d).mp against
  rw [flows] at h
  cases e <;> cases d <;> simp_all [Direction.state]

/-- An idle record in the state a report implies. -/
theorem Train.changed_idle {t : Train} {new : TrainState} (h : t.state.idle) (hn : new ≠ .tripped) (v : Int) (now : Nat) :
    t.changed new v now = { t with
      state := new, entry := now, timer := (t.p.timeout new).map (now + ·), setpoint := if new = .loaded then v else 0 } :=
  Train.changed_unloaded h.settled.2.2.1 hn v now

end Sys2Proof.Machine
end
section
/-!
PROOFS. The adoption of a report against the manifold and the converter (R79, R80).
-/

namespace Sys2Proof.Machine

section
variable {s : State} {i : Fin 8} {x : Train} {st : TrainState}

theorem State.became_setTrain (s : State) (i : Fin 8) (z x y : Train) (v : Converter) (cause : Cause) :
    (s.setTrain i z).became i x y v cause = s.became i x y v cause := by
  rw [State.became, State.setTrain_setTrain, State.became]

/-- The record of an idle train is replaced by the state reported. -/
theorem State.adopt_rested (h : x.state.idle) (hd : x.state ≠ st) (hp : st.plain) (hf : st.flows = false) (c : Byte) (v : Int) :
    (s.setTrain i x).adopt i st c v = (s.became i x (x.changed st 0 s.now) s.conv .adoption).told i x.state c st := by
  have same := State.train_setTrain_same s i x
  have moved : (s.setTrain i x).changeTrain i st 0 .adoption = s.became i x (x.changed st 0 s.now) s.conv .adoption := by
    rw [State.changeTrain_rested (by rwa [same]) (by rwa [same]) hf, same, State.became_setTrain]
    rfl
  rw [State.adopt_plain hp c v (by rw [moved, State.became_train, if_pos rfl, Train.changed_state]), moved, same]

/-- A report of UNLOADING is adopted as it is: the manifold enters the direction unless it flows. -/
theorem State.adopt_unloading (h : x.state.idle) {d : Direction} (hk : x.p.kind = d.kind) (c : Byte) (v : Int) :
    (s.setTrain i x).adopt i .unloading c v =
      (s.entered (s.became i x (x.changed .unloading 0 s.now) s.conv .adoption) d).told i x.state c .unloading := by
  have same := State.train_setTrain_same s i x
  have moved : (s.setTrain i x).changeTrain i .unloading 0 .adoption =
      (s.became i x (x.changed .unloading 0 s.now) s.conv .adoption).flowBegan d.kind := by
    rw [State.changeTrain_began (by rwa [same]) rfl, same, State.became_setTrain, hk]
    rfl
  rw [State.adopt_plain (st := .unloading) ⟨by decide, by decide, by decide⟩ c v
    (by rw [moved, State.flowBegan_train, State.became_train, if_pos rfl, Train.changed_state]), moved, same,
    State.flowBegan_entered (State.became_manifold s i x _ _ _)]

/-- A report of the flow is adopted where the manifold does not flow against the train. -/
theorem State.adopt_flowing (h : x.state.idle) {d : Direction} (hk : x.p.kind = d.kind) (hst : st = .loading ∨ st = .loaded)
    (hm : s.flowsAgainst d.kind = false) (c : Byte) (v : Int) :
    (s.setTrain i x).adopt i st c v =
      (s.entered (s.became i x (x.changed st (clampTo x.p.pMin x.p.pMax v) s.now) s.conv .adoption) d).told i x.state c st := by
  have same := State.train_setTrain_same s i x
  have flows : st.flows = true := by rcases hst with rfl | rfl <;> rfl
  have against : (s.setTrain i x).flowsAgainst ((s.setTrain i x).train i).p.kind = false := by rw [same, hk]; exact hm
  have moved : (s.setTrain i x).adoptFlow i st v =
      (s.became i x (x.changed st (clampTo x.p.pMin x.p.pMax v) s.now) s.conv .adoption).flowBegan d.kind := by
    unfold State.adoptFlow
    dsimp only
    rw [against, if_neg nofun, State.changeTrain_began (by rwa [same]) flows, same, State.became_setTrain, hk]
    rfl
  rw [State.adopt_flow hst c v (by rw [moved, State.flowBegan_train, State.became_train, if_pos rfl, Train.changed_state]), moved, same,
    State.flowBegan_entered (State.became_manifold s i x _ _ _)]

/-- The order that answers a report which is not taken. -/
def State.replied (s : State) (i : Fin 8) (x : Train) (o : Order) : State :=
  if s.ring.orders.length < 16 then (s.setTrain i x).place x.p.node o 0
  else (s.setTrain i x).notify .queueFull (.train i) [.fig i.val, .code o.num]

theorem State.placeOrFull_replied (s : State) (i : Fin 8) (x : Train) (o : Order) : (s.setTrain i x).placeOrFull i o = s.replied i x o := by
  have same := State.train_setTrain_same s i x
  rw [State.placeOrFull, same]
  exact if_congr (s.setTrain i x).orderRoom_iff rfl rfl

theorem State.replied_own (s : State) (i : Fin 8) (x : Train) (o : Order) : Own (s.setTrain i x) (s.replied i x o) :=
  s.placeOrFull_replied i x o ▸ (s.setTrain i x).placeOrFull_own i o

theorem State.replied_train (s : State) (i : Fin 8) (x : Train) (o : Order) : (s.replied i x o).train i = x :=
  ((s.replied_own i x o).agree.train (by decide) i).trans (State.train_setTrain_same s i x)

theorem State.replied_now (s : State) (i : Fin 8) (x : Train) (o : Order) : (s.replied i x o).now = s.now :=
  (s.replied_own i x o).agree .now (by decide)

theorem State.replied_conv (s : State) (i : Fin 8) (x : Train) (o : Order) : (s.replied i x o).conv = s.conv :=
  (s.replied_own i x o).agree .conv (by decide)

/-- A report of the flow against the manifold: the train is ordered UNLOAD. -/
theorem State.adopt_against (h : x.state.idle) {d : Direction} (hk : x.p.kind = d.kind) (hst : st = .loading ∨ st = .loaded)
    (hm : s.flowsAgainst d.kind = true) (c : Byte) (v : Int) :
    (s.setTrain i x).adopt i st c v = ((s.replied i x .unload).became i x (x.changed .unloading 0 s.now) s.conv .adoption).told i
      x.state c .unloading := by
  have same := State.train_setTrain_same s i x
  have against : (s.setTrain i x).flowsAgainst ((s.setTrain i x).train i).p.kind = true := by rw [same, hk]; exact hm
  have flows : s.manifold.state.flow ≠ none := by
    obtain ⟨e, -, he⟩ := (State.flowsAgainst_iff d).mp hm
    rw [he, Direction.state_flow]
    nofun
  have manifold : (s.replied i x .unload).manifold = s.manifold := (s.replied_own i x .unload).agree .manifold (by decide)
  have moved : (s.setTrain i x).adoptFlow i st v =
      (s.replied i x .unload).became i x (x.changed .unloading 0 s.now) s.conv .adoption := by
    unfold State.adoptFlow
    dsimp only
    rw [against, if_pos rfl, State.placeOrFull_replied, State.changeTrain_began (by rwa [State.replied_train]) rfl,
      State.flowBegan_flowing _ (by rw [State.became_manifold, manifold]; exact flows), State.replied_train, State.replied_now,
      State.replied_conv]
  rw [State.adopt_flow hst c v (by rw [moved, State.became_train, if_pos rfl, Train.changed_state]), moved, same]

/-- A report of STARTING takes the FREE converter. -/
theorem State.adopt_starting_free (h : x.state.idle) (hv : s.conv.state = .free) (c : Byte) (v : Int) :
    (s.setTrain i x).adopt i .starting c v =
      (if x.state = .unknown ∨ x.state = .standby then s.became i x (x.changed .starting 0 s.now)
          { s.conv with state := .busy i, starts := s.conv.starts + 1, retry := none } .adoption
        else (s.became i x (x.changed .starting 0 s.now)
          { s.conv with state := .busy i, starts := s.conv.starts + 1, retry := none } .adoption).mismatched i x.state c .starting) := by
  obtain ⟨still, settled, -, -⟩ := h.settled
  have same : ((s.setTrain i x).takeConverter i).train i = x := State.train_setTrain_same s i x
  have moved : ((s.setTrain i x).takeConverter i).moveTrain i .starting 0 .adoption = s.became i x (x.changed .starting 0 s.now)
      { s.conv with state := .busy i, starts := s.conv.starts + 1, retry := none } .adoption := by
    rw [State.moveTrain_steady (by rw [same]; exact settled.2) (by rw [same]; exact still), State.convAfter_other (by rwa [same]), same]
    refine Eq.trans ?_ (s.became_setTrain i x x _ _ _)
    rw [State.shifted, same]
    rfl
  have told := State.stateMismatch_eq (u := s.became i x (x.changed .starting 0 s.now)
    { s.conv with state := .busy i, starts := s.conv.starts + 1, retry := none } .adoption)
    (by rw [State.became_train, if_pos rfl, Train.changed_state]) x.state c
  have unqueued : (x.state = .unknown ∨ x.state = .standby ∨ x.state = .startWait) ↔ (x.state = .unknown ∨ x.state = .standby) := by
    rw [or_iff_left settled.1]
  show (s.setTrain i x).adoptStarting i c = _
  unfold State.adoptStarting
  dsimp only
  rw [show (s.setTrain i x).conv.state = .free from hv, if_pos rfl, moved, State.train_setTrain_same, told]
  exact if_congr unqueued rfl rfl

/-- A report of STARTING with the converter taken: the train is ordered ABORT. -/
theorem State.adopt_starting_taken (h : x.state.idle) (hv : s.conv.state ≠ .free) (c : Byte) (v : Int) :
    (s.setTrain i x).adopt i .starting c v =
      (if x.state = .standby then s.replied i x .abort
        else (s.replied i x .abort).became i x (x.changed .standby 0 s.now) s.conv .adoption).mismatched i x.state c .standby := by
  obtain ⟨still, settled, -, -⟩ := h.settled
  have same := State.train_setTrain_same s i x
  have moved : (s.replied i x .abort).changeTrain i .standby 0 .adoption =
      if x.state = .standby then s.replied i x .abort
      else (s.replied i x .abort).became i x (x.changed .standby 0 s.now) s.conv .adoption := by
    split
    case isTrue e => rw [State.changeTrain_moves (by rw [State.replied_train]; exact settled.2), State.moveTrain_same (by rwa [State.replied_train])]
    case isFalse e =>
      rw [State.changeTrain_rested (by rwa [State.replied_train]) (by rwa [State.replied_train]) rfl, State.replied_train,
        State.replied_now, State.replied_conv]
  have now : (((s.replied i x .abort).changeTrain i .standby 0 .adoption).train i).state = .standby := by
    rw [moved]
    split
    case isTrue e => rw [State.replied_train]; exact e
    case isFalse => rw [State.became_train, if_pos rfl, Train.changed_state]
  show (s.setTrain i x).adoptStarting i c = _
  unfold State.adoptStarting
  dsimp only
  rw [if_neg (show ¬ (s.setTrain i x).conv.state = .free from hv), same, if_neg settled.1, State.placeOrFull_replied,
    State.stateMismatch_eq now, moved]

end

end Sys2Proof.Machine
end
section
/-!
PROOFS. What a train adopts from a report of a state (R72, R78 to R80).
-/

namespace Sys2Proof.Machine

section
variable {s : State} {h : Passing} {rest : List Byte} {i : Fin 8} {c p3 p2 p1 p0 t1 t0 : Byte} {st : TrainState}

/-- The report of a state which the idle record has not. -/
theorem exec_adopts (H : s.hears h rest i) (hst : trainStateOf c = some st) (hx : (s.train i).state.idle) (hd : (s.train i).state ≠ st) :
    exec (.status h (statusBytes 1 c p3 p2 p1 p0 t1 t0 rest)) s =
      .next (((s.countReceived.setTrain i ((s.train i).reported (carried 1 c p3 p2 p1 p0 t1 t0))).adopt i st c
        (word32 p3 p2 p1 p0).toNat).forwardOrDrop (passingFrame h kStatus (statusBytes 1 c p3 p2 p1 p0 t1 t0 rest))) := by
  have same := State.train_setTrain_same s.countReceived i ((s.train i).reported (carried 1 c p3 p2 p1 p0 t1 t0))
  rw [exec_stateReport H (implies_state hst), State.stateReport_adopts (by rw [same]; exact hx) (by rw [same]; exact hd)]

/-- A report to a TRIPPED train of another state. -/
theorem exec_tripped_hears (H : s.hears h rest i) (hst : trainStateOf c = some st) (hx : (s.train i).state = .tripped) (hd : st ≠ .tripped) :
    exec (.status h (statusBytes 1 c p3 p2 p1 p0 t1 t0 rest)) s = .next (State.forwardOrDrop
      (if (s.train i).lastReport.map (·.code) = some c
        then s.countReceived.setTrain i ((s.train i).reported (carried 1 c p3 p2 p1 p0 t1 t0))
        else (s.countReceived.setTrain i ((s.train i).reported (carried 1 c p3 p2 p1 p0 t1 t0))).mismatched i (s.train i).state c .tripped)
      (passingFrame h kStatus (statusBytes 1 c p3 p2 p1 p0 t1 t0 rest))) := by
  have same := State.train_setTrain_same s.countReceived i ((s.train i).reported (carried 1 c p3 p2 p1 p0 t1 t0))
  have held : ((s.train i).reported (carried 1 c p3 p2 p1 p0 t1 t0)).state = .tripped := hx
  rw [exec_stateReport H (implies_state hst), State.stateReport, same, held]
  rw [if_pos rfl, State.stateMismatch_eq (by rw [same, held]), hx]
  exact congrArg (fun u : State => Host.Outcome.next (u.forwardOrDrop _)) (if_congr (or_iff_right hd) rfl rfl)

end

end Sys2Proof.Machine

open Sys2Proof Sys2Proof.Machine

/-- Settles O24: the record takes the implied state by one change; the manifold or the converter decides what that is. -/
theorem reportsAdopted : Obligations.ReportsAdopted := by
  unfold Obligations.ReportsAdopted
  intro s h c p3 p2 p1 p0 t1 t0 rest i st hp hl hn hc hst body f power x now result became at' mismatch told ordered
  have H : s.hears h rest i := ⟨⟨hp, hl⟩, hn, hc⟩
  refine ⟨fun hx hd => ?_, fun hx hd => exec_tripped_hears H hst hx hd⟩
  · have idle : TrainState.idle ((s.train i).reported (carried 1 c p3 p2 p1 p0 t1 t0)).state := hx
    -- an adoption passes the frame on with what it leaves
    have adopts {u : State} (hu : (s.countReceived.setTrain i ((s.train i).reported (carried 1 c p3 p2 p1 p0 t1 t0))).adopt i st c
        (word32 p3 p2 p1 p0).toNat = u) : result u :=
      (exec_adopts H hst hx hd).trans (congrArg (fun u : State => Host.Outcome.next (u.forwardOrDrop f)) hu)
    have rested (hp : st.plain) (hf : st.flows = false) := State.adopt_rested (s := s.countReceived) (i := i) idle hd hp hf c (word32 p3 p2 p1 p0).toNat
    refine ⟨fun hs => adopts ?_, fun hs => adopts ?_, fun hs => adopts ?_, fun d hk => ⟨fun hs => adopts ?_, fun hm => ⟨fun hs => adopts ?_, fun hs => adopts ?_⟩,
      fun e he hm hs => adopts ?_⟩, fun hs hv => adopts ?_, fun hs hv => adopts ?_⟩
    · have plain : st.plain ∧ st.flows = false ∧ st ≠ .tripped := by
        rcases hs with rfl | rfl | rfl <;> refine ⟨⟨?_, ?_, ?_⟩, rfl, ?_⟩ <;> decide
      obtain ⟨plain, still, running⟩ := plain
      rw [rested plain still, Train.changed_idle idle running]
      rcases hs with rfl | rfl | rfl <;> rfl
    · subst hs
      rw [rested ⟨by decide, by decide, by decide⟩ rfl, Train.changed_idle idle (by decide)]
      rfl
    · subst hs
      rw [rested ⟨by decide, by decide, by decide⟩ rfl, Train.changed_tripped_unloaded idle.settled.2.2.1]
      rfl
    · subst hs
      rw [State.adopt_unloading (s := s.countReceived) idle hk, Train.changed_idle idle (by decide)]
      rfl
    · subst hs
      rw [State.adopt_flowing (s := s.countReceived) idle hk (.inl rfl) (State.flowsAgainst_none hm), Train.changed_idle idle (by decide)]
      rfl
    · subst hs
      rw [State.adopt_flowing (s := s.countReceived) idle hk (.inr rfl) (State.flowsAgainst_none hm), Train.changed_idle idle (by decide)]
      rfl
    · rw [State.adopt_against (s := s.countReceived) idle hk hs ((State.flowsAgainst_iff d).mpr ⟨e, he, hm⟩), Train.changed_idle idle (by decide)]
      rfl
    · subst hs
      rw [State.adopt_starting_free (s := s.countReceived) idle hv, Train.changed_idle idle (by decide)]
      rfl
    · subst hs
      rw [State.adopt_starting_taken (s := s.countReceived) idle hv, Train.changed_idle idle (by decide)]
      rfl
end
section
/-!
PROOFS. The report of a valve (R27).
-/

namespace Sys2Proof.Machine

/-- The report of a valve's node alone. -/
theorem exec_valveStatus {s : State} {h : Passing} {rest : List Byte} {v : Fin 4} {c p3 p2 p1 p0 t1 t0 : Byte} {pos : ValvePos}
    (hp : s.passes h) (hl : rest.length ≤ 236) (hn : s.valveNode h.src.toNat v) (hc : s.plant.convNode ≠ h.src.toNat)
    (hr : valvePosOf 1 c = some pos) :
    exec (.status h (statusBytes 1 c p3 p2 p1 p0 t1 t0 rest)) s =
      .next ((s.countReceived.valveReport v pos).forwardOrDrop (passingFrame h kStatus (statusBytes 1 c p3 p2 p1 p0 t1 t0 rest))) := by
  have valve : s.countReceived.statusToCavern h.src.toNat (carried 1 c p3 p2 p1 p0 t1 t0) = s.countReceived.valveReport v pos := by
    simp only [State.statusToCavern, show s.countReceived.cavernAt h.src.toNat = some v from hn.2, carried, hr]
  have plant : (s.countReceived.valveReport v pos).plant = s.plant := (s.countReceived.valveReport_keeps v pos).agree .plant (by decide)
  rw [exec_status hp hl, State.statusToTrain_none (s := s.countReceived) hn.1, valve, State.statusToConverter_other (by rw [plant]; exact hc)]

/-! ## The table of R27 -/

variable {s : State} {v : Fin 4}

theorem State.valveReport_closed (hv : (s.cavern v).valve = .unknown ∨ (s.cavern v).valve = .closing) :
    s.valveReport v .closed = (s.setValve v .closed).reopen v := by
  rcases hv with hv | hv <;> simp only [State.valveReport, hv]

theorem State.valveReport_shut (hv : (s.cavern v).valve = .opened) :
    s.valveReport v .closed = ((s.setValve v .closed).valveMismatch v (s.cavern v).valve .closed).reopen v := by
  simp only [State.valveReport, hv]

theorem State.valveReport_closed_recovers (hv : (s.cavern v).valve = .fault) :
    s.valveReport v .closed = ((s.setValve v .closed).notify .valveRecovered (.cavern v) []).reopen v := by
  simp only [State.valveReport, hv]

theorem State.valveReport_opens (hv : (s.cavern v).valve = .unknown ∨ (s.cavern v).valve = .opening) :
    s.valveReport v .opened = (s.setValve v .opened).openedByReport v := by
  rcases hv with hv | hv <;> simp only [State.valveReport, hv]

theorem State.valveReport_opened (hv : (s.cavern v).valve = .closed) :
    s.valveReport v .opened = ((s.setValve v .opened).valveMismatch v (s.cavern v).valve .opened).openedByReport v := by
  simp only [State.valveReport, hv]

theorem State.valveReport_opened_recovers (hv : (s.cavern v).valve = .fault) :
    s.valveReport v .opened = ((s.setValve v .opened).notify .valveRecovered (.cavern v) []).openedByReport v := by
  simp only [State.valveReport, hv]

theorem State.valveReport_travels_open (hv : (s.cavern v).valve = .closed) :
    s.valveReport v .travelling = ((s.setValve v .opening).valveMismatch v (s.cavern v).valve .travelling).openedByReport v := by
  simp only [State.valveReport, hv]

theorem State.valveReport_travels_closed (hv : (s.cavern v).valve = .opened) :
    s.valveReport v .travelling = (s.setValve v .closing).valveMismatch v (s.cavern v).valve .travelling := by
  simp only [State.valveReport, hv]

theorem State.valveReport_fault (hv : (s.cavern v).valve ≠ .fault) :
    s.valveReport v .fault = (s.setValve v .fault).notify .valveFault (.cavern v) [.fig v.val, .code (s.cavern v).valve.num] := by
  unfold State.valveReport
  cases hs : (s.cavern v).valve <;> first | exact absurd hs hv | rfl

/-- The positions a valve may report without effect. -/
def ValveState.expects : ValveState → ValvePos → Prop
  | .closed, .closed | .opening, .closed | .opened, .opened | .closing, .opened | .fault, .fault => True
  | .unknown, .travelling | .opening, .travelling | .closing, .travelling | .fault, .travelling => True
  | _, _ => False

theorem State.valveReport_expected {pos : ValvePos} (h : (s.cavern v).valve.expects pos) : s.valveReport v pos = s := by
  unfold State.valveReport
  cases hs : (s.cavern v).valve <;> rw [hs] at h <;> cases pos <;> first | rfl | exact h.elim

/-! ## A valve that opens -/

/-- Frames that add no order leave the room of the order queue. -/
theorem Adds.orderRoom {s t : State} (h : Adds [] s t) (sound : s.portSound) : t.orderRoom = true ↔ s.ring.orders.length < 16 :=
  (State.spare_room (h.spare (s.spare_start sound (n := 1) (by omega)))).trans (by simp only [List.length_nil]; omega)

theorem State.openedByReport_unmarked {u : State} (h : (u.cavern v).mark = .none) : u.openedByReport v = u.isolate v := if_pos h

theorem State.openedByReport_room {u : State} (h : (u.cavern v).mark ≠ .none) (room : u.orderRoom = true) :
    u.openedByReport v = (u.place (u.cavern v).p.node .valveClose 0).setCavern v
      { u.cavern v with valve := .closing, timer := some (u.now + (u.cavern v).p.travel * 1000) } := by
  have own := (State.place_own room (u.cavern v).p.node .valveClose 0).agree
  have cavern : (u.place (u.cavern v).p.node .valveClose 0).cavern v = u.cavern v := own.cavern (by decide) v
  have now : (u.place (u.cavern v).p.node .valveClose 0).now = u.now := own .now (by decide)
  rw [State.openedByReport, if_neg h, if_pos room, State.setValve, State.after, cavern, now]
  rfl

theorem State.openedByReport_full {u : State} (h : (u.cavern v).mark ≠ .none) (full : u.orderRoom = false) :
    u.openedByReport v = (u.setCavern v { u.cavern v with mark := .none }).notify .queueFull (.cavern v) [.fig v.val, .code 12] := by
  rw [State.openedByReport, if_neg h, full, if_neg nofun]
  rfl

end Sys2Proof.Machine
end
section
/-!
PROOFS. The report of the converter and the service of its start queue (R87, R92, R94, R95).
-/

namespace Sys2Proof.Machine

/-- The report of the converter's node alone. -/
theorem exec_converterStatus {s : State} {h : Passing} {rest : List Byte} {c p3 p2 p1 p0 t1 t0 : Byte} {fault : Bool}
    (hp : s.passes h) (hl : rest.length ≤ 236) (hn : s.unknownNode h.src.toNat) (hc : s.plant.convNode = h.src.toNat)
    (hr : convReportOf 1 c = some fault) :
    exec (.status h (statusBytes 1 c p3 p2 p1 p0 t1 t0 rest)) s =
      .next ((if fault then s.countReceived.converterFault else s.countReceived.converterAvailable).forwardOrDrop
        (passingFrame h kStatus (statusBytes 1 c p3 p2 p1 p0 t1 t0 rest))) := by
  have node : s.countReceived.plant.convNode ≠ 0 ∧ s.countReceived.plant.convNode = h.src.toNat :=
    ⟨by
      show s.plant.convNode ≠ 0
      rw [hc]
      exact fun e => hp.2.1.2.1 (BitVec.eq_of_toNat_eq e), hc⟩
  rw [exec_status hp hl, State.statusToTrain_none (s := s.countReceived) hn.1, State.statusToCavern_none (s := s.countReceived) hn.2,
    State.statusToConverter, if_pos node]
  simp only [carried, hr]
  cases fault <;> rfl

/-- A report of a node that has no record here. -/
theorem exec_strangeStatus {s : State} {h : Passing} {rest : List Byte} {k c p3 p2 p1 p0 t1 t0 : Byte}
    (hp : s.passes h) (hl : rest.length ≤ 236) (hn : s.unknownNode h.src.toNat) (hc : s.plant.convNode ≠ h.src.toNat) :
    exec (.status h (statusBytes k c p3 p2 p1 p0 t1 t0 rest)) s =
      .next (s.countReceived.forwardOrDrop (passingFrame h kStatus (statusBytes k c p3 p2 p1 p0 t1 t0 rest))) := by
  rw [exec_status hp hl, State.statusToTrain_none (s := s.countReceived) hn.1, State.statusToCavern_none (s := s.countReceived) hn.2,
    State.statusToConverter_other (s := s.countReceived) hc]

/-! ## The service of the start queue -/

/-- A train that has waited starts. -/
def Train.starts (t : Train) (now : Nat) : Train :=
  { t with state := .starting, entry := now, timer := some (now + t.p.tStart * 1000), setpoint := 0 }

/-- A FREE converter with room for the order serves the head of its queue. -/
theorem State.serve_starts {s : State} {i : Fin 8} {rest : List (Fin 8)} (free : s.conv.state = .free) (queue : s.conv.queue = i :: rest)
    (waits : (s.train i).state = .startWait) (room : s.orderRoom = true) :
    s.serve = State.trainNotice { ((s.place (s.train i).p.node .start 0).setTrain i ((s.train i).starts s.now)).setTrack i 0 with
      conv := { s.conv with state := .busy i, queue := rest, retry := none, starts := s.conv.starts + 1 } } i (.code 3) (.code 4) .order := by
  have own := (State.place_own room (s.train i).p.node .start 0).agree
  have train : ((s.place (s.train i).p.node .start 0).takeConverter i).train i = s.train i := own.train (by decide) i
  have conv : (s.place (s.train i).p.node .start 0).conv = s.conv := own .conv (by decide)
  have now : ((s.place (s.train i).p.node .start 0).takeConverter i).now = s.now := own .now (by decide)
  have queue' : ((s.place (s.train i).p.node .start 0).takeConverter i).conv.queue.erase i = rest := by
    rw [State.takeConverter, conv, queue, List.erase_cons_head]
  unfold State.serve
  rw [free, queue]
  dsimp only
  rw [if_pos room, State.moveTrain_steady (by rw [train, waits]; decide) (by rw [train, waits]; rfl),
    State.convAfter_waiting (by rw [train]; exact waits), queue', train, now,
    Train.changed_unloaded (by rw [waits]; decide) (by decide), State.shifted, train, waits]
  simp only [State.takeConverter, conv]
  simp only [ite_self]
  rfl

/-- Without room the service is tried again. -/
theorem State.serve_full {s : State} {i : Fin 8} {rest : List (Fin 8)} (free : s.conv.state = .free) (queue : s.conv.queue = i :: rest)
    (full : s.orderRoom = false) : s.serve = { s.notify .queueFull (.train i) [.fig i.val, .code 1] with
      conv := { s.conv with retry := some (s.now + 1000) } } := by
  have own := (s.trainQueueFull_own i .start).agree
  have conv : (s.trainQueueFull i .start).conv = s.conv := own .conv (by decide)
  have now : (s.trainQueueFull i .start).now = s.now := own .now (by decide)
  have later : (s.trainQueueFull i .start).after 1000 = some (s.now + 1000) := congrArg (fun n => some (n + 1000)) now
  unfold State.serve
  rw [free, queue]
  dsimp only
  rw [full, if_neg nofun, later, conv]
  rfl

/-! ## A FAULT -/

/-- The converter in FAULT. -/
def State.faulted (s : State) : State :=
  { s with conv := { s.conv with state := .fault, cooldown := none, retry := none, faults := s.conv.faults + 1 } }

theorem State.converterFault_again {s : State} (h : s.conv.state = .fault) : s.converterFault = s := if_pos h

theorem State.converterFault_unused {s : State} (h : s.conv.state = .free ∨ s.conv.state = .cooldown) :
    s.converterFault = s.faulted.notify .converterFault .none [.code s.conv.state.num, .none] := by
  unfold State.converterFault
  rcases h with h | h <;> rw [h] <;> rfl

/-- A start that the FAULT of the converter has ended. -/
def State.aborted (u : State) (i : Fin 8) (t : Train) (now : Nat) : State :=
  State.notify (State.trainNotice ((u.setTrain i { t with state := .standby, entry := now, timer := none, setpoint := 0 }).setTrack i 0) i
    (.code 4) (.code 2) .order) .startFailed (.train i) [.fig i.val, .code 4]

theorem State.converterFault_aborts {s : State} {i : Fin 8} (hb : s.conv.state = .busy i) (hx : (s.train i).state = .starting) :
    s.converterFault = ((s.faulted.notify .converterFault .none [.code s.conv.state.num, .fig i.val]).placeOrFull i .abort).aborted i
      (s.train i) s.now := by
  have own := ((s.faulted.notify_own .converterFault .none [.code s.conv.state.num, .fig i.val]).trans (State.placeOrFull_own _ i .abort)).agree
  generalize hu : (s.faulted.notify .converterFault .none [.code s.conv.state.num, .fig i.val]).placeOrFull i .abort = u at own
  have train : u.train i = s.train i := own.train (by decide) i
  have conv : u.conv = s.faulted.conv := own .conv (by decide)
  have now : u.now = s.now := own .now (by decide)
  have after : u.convAfter i = u.conv := by
    have out : u.conv.state ≠ .busy i := by rw [conv]; exact nofun
    simp only [State.convAfter, State.convLeft, train, hx, if_neg out]
  have moved : u.changeTrain i .standby 0 .order = u.shifted i { s.train i with state := .standby, entry := s.now, timer := none, setpoint := 0 }
      u.conv .order := by
    rw [State.changeTrain_steady (by rw [train, hx]; decide) (by rw [train, hx]; rfl) (fun _ => .inl (by rw [after, conv]; exact nofun)), after, train,
      now, Train.changed_unloaded (by rw [hx]; decide) (by decide)]
    rfl
  have fault : s.converterFault = (u.changeTrain i .standby 0 .order).notify .startFailed (.train i) [.fig i.val, .code TrainState.starting.num] := by
    rw [← hu]
    unfold State.converterFault
    simp only [hb]
    rfl
  rw [fault, moved, State.shifted, train, hx]
  rfl

/-- AVAILABLE ends a FAULT, and the head of the queue is served. -/
theorem State.converterAvailable_fault {s : State} (h : s.conv.state = .fault) : s.converterAvailable =
    State.serve (State.notify { s with conv := { s.conv with state := .free } } .converterAvailable .none []) := if_pos h

theorem State.converterAvailable_still {s : State} (h : s.conv.state ≠ .fault) : s.converterAvailable = s := if_neg h

end Sys2Proof.Machine
end
section
/-!
PROOFS. What a report of a valve or of the converter does (R27, R87, R94, R95).
-/

namespace Sys2Proof.Machine

theorem State.forwardOrDrop_agree (s : State) (f : Frame) {A : List Aspect} (h : Aspect.balance ∈ A := by decide) :
    Agree A s (s.forwardOrDrop f) := by
  obtain ⟨r, p, joined, continuity⟩ := s.forwardOrDrop_ringOnly f
  intro a ha
  cases a with
  | balance => exact absurd h ha
  | continuity => rw [joined]; exact continuity
  | _ => rw [joined] <;> rfl

/-- What a start that is aborted leaves: the records of the converter, the train and its track apart, all but the frames. -/
theorem State.aborted_leaves {s : State} {i : Fin 8} {f : Frame} (u : State)
    (hu : u = ((s.countReceived.faulted.notify .converterFault .none [.code s.conv.state.num, .fig i.val]).placeOrFull i .abort).aborted i
      (s.train i) s.now) :
    let t := u.forwardOrDrop f
    t.conv = s.faulted.conv ∧ (∀ j, j ≠ i → t.train j = s.train j) ∧
      t.train i = { s.train i with state := .standby, entry := s.now, timer := none, setpoint := 0 } ∧
      t.disp = (s.setTrack i 0).disp ∧ t.caverns = s.caverns ∧ t.stores = s.stores ∧ t.chans = s.chans ∧ t.manifold = s.manifold ∧
      t.grid = s.grid ∧ t.clock = s.clock ∧ t.sched = s.sched ∧ t.plant = s.plant ∧ t.mgr = s.mgr ∧ t.mode = s.mode ∧ s.abides t := by
  intro t
  have answered := ((s.countReceived.faulted.notify_own .converterFault .none [.code s.conv.state.num, .fig i.val]).trans
    (State.placeOrFull_own _ i .abort)).agree
  generalize (s.countReceived.faulted.notify .converterFault .none [.code s.conv.state.num, .fig i.val]).placeOrFull i .abort = w at hu answered
  have told : Own ((w.setTrain i { s.train i with state := .standby, entry := s.now, timer := none, setpoint := 0 }).setTrack i 0) u :=
    hu ▸ (State.notify_own _ _ _ _).trans (State.notify_own _ _ _ _)
  have left := (told.agree.mono (B := [.balance]) (by decide)).trans (u.forwardOrDrop_agree f)
  have train (j : Fin 8) : t.train j = if j = i then { s.train i with state := .standby, entry := s.now, timer := none, setpoint := 0 }
      else s.train j := by
    refine (left.train (by decide) j).trans ((State.train_setTrain w i j _).trans ?_)
    rw [answered.train (by decide) j]
    rfl
  have disp : t.disp = (s.setTrack i 0).disp := by
    refine (left .disp (by decide)).trans ?_
    show ({ w.disp with tracks := w.disp.tracks.set i.val 0 i.isLt } : Dispatch) = _
    rw [show w.disp = s.disp from answered .disp (by decide)]
    rfl
  exact ⟨(left .conv (by decide)).trans (answered .conv (by decide)), fun j hj => by rw [train, if_neg hj], by rw [train, if_pos rfl], disp,
    (left .caverns (by decide)).trans (answered .caverns (by decide)), (left .stores (by decide)).trans (answered .stores (by decide)),
    (left .chans (by decide)).trans (answered .chans (by decide)), (left .manifold (by decide)).trans (answered .manifold (by decide)),
    (left .grid (by decide)).trans (answered .grid (by decide)), (left .clock (by decide)).trans (answered .clock (by decide)),
    (left .sched (by decide)).trans (answered .sched (by decide)), (left .plant (by decide)).trans (answered .plant (by decide)),
    (left .mgr (by decide)).trans (answered .mgr (by decide)), (left .mode (by decide)).trans (answered .mode (by decide)),
    (left .pending (by decide)).trans (answered .pending (by decide)), (left .held (by decide)).trans (answered .held (by decide)),
    (left .node (by decide)).trans (answered .node (by decide)), (left .now (by decide)).trans (answered .now (by decide)),
    (left .commit (by decide)).trans (answered .commit (by decide))⟩

end Sys2Proof.Machine

open Sys2Proof Sys2Proof.Machine

/-- Settles O49: the valve's record by the table of R27, the converter's record with its start queue, and nothing for a strange node. -/
theorem valveAndConverterReports : Obligations.ValveAndConverterReports := by
  unfold Obligations.ValveAndConverterReports
  intro s h k c p3 p2 p1 p0 t1 t0 rest hp hl body f node now
  refine ⟨fun hn hc => exec_strangeStatus hp hl hn hc, ?valve, ?converter⟩
  case valve =>
    rintro v hn hc rfl x put moving result mismatch recovered opens
    -- a report in the table, and what it makes of the valve
    have reports {pos : ValvePos} {u : State} (hr : valvePosOf 1 c = some pos) (hu : now.valveReport v pos = u) : result u :=
      (exec_valveStatus hp hl hn hc hr).trans (congrArg (fun u : State => Host.Outcome.next (u.forwardOrDrop f)) hu)
    -- a valve that opens
    have opened {u : State} {vs : ValveState} {t : Option Nat} (hr : result (u.openedByReport v)) (hu : Adds [] now u)
        (hx : u.cavern v = { s.cavern v with valve := vs, timer := t }) (hnow : u.now = s.now) : opens u := by
      have mark : (u.cavern v).mark = (s.cavern v).mark := by rw [hx]
      refine ⟨fun hm => ?_, fun hm sound room => ?_, fun hm sound full => ?_⟩
      · rwa [State.openedByReport_unmarked (by rw [mark]; exact hm)] at hr
      · rw [State.openedByReport_room (by rw [mark]; exact hm) ((hu.orderRoom sound).mpr room), hx, hnow] at hr
        exact hr
      · rw [State.openedByReport_full (by rw [mark]; exact hm)
          (Bool.eq_false_iff.mpr fun e => Nat.not_lt.mpr full ((hu.orderRoom sound).mp e))] at hr
        exact hr
    -- one that opens with a notice, or without
    have silent (vs : ValveState) (t : Option Nat) (hr : result (State.openedByReport (now.setCavern v { s.cavern v with valve := vs, timer := t }) v)) :
        opens (now.setCavern v { s.cavern v with valve := vs, timer := t }) :=
      opened hr (.of_ring rfl rfl) (State.cavern_setCavern_same _ _ _) rfl
    have telling {vs : ValveState} {t : Option Nat} {n : NoticeName} {r : SourceRecord} {l : List Item}
        (hr : result (State.openedByReport ((now.setCavern v { s.cavern v with valve := vs, timer := t }).notify n r l) v)) :
        opens ((now.setCavern v { s.cavern v with valve := vs, timer := t }).notify n r l) :=
      opened hr (Adds.trans (os := []) (.of_ring (t := now.setCavern v { s.cavern v with valve := vs, timer := t }) rfl rfl) (State.notify_adds _ _ _ _))
        (((State.notify_own _ _ _ _).agree.cavern (by decide) v).trans (State.cavern_setCavern_same _ _ _))
        ((State.notify_own _ _ _ _).agree .now (by decide))
    refine ⟨?_, ?_, ?_, ?_, ?_, ?_, ?_, ?_, ?_, ?_, ?_, ?_, ?_, ?_, ?_⟩
    · rintro rfl hv hm
      refine reports (pos := .closed) rfl ?_
      rw [State.valveReport_closed (s := now) (.inr hv), State.reopen_unmet (s := now.setValve v .closed) (fun e => hm e.1)]
      rfl
    · rintro rfl hv hm hf
      refine reports (pos := .opened) rfl ?_
      rw [State.valveReport_opens (s := now) (.inr hv)]
      refine (State.openedByReport_unmarked (u := put .opened) ?_).trans (State.isolate_unmet (s := put .opened) ?_)
      · exact (congrArg Cavern.mark (State.cavern_setCavern_same now v { s.cavern v with valve := .opened, timer := none })).trans hm
      · exact Cavern.meetsIsolation_usable (.inl hf) _
    · rintro rfl hv
      exact reports (pos := .closed) rfl (State.valveReport_closed (s := now) hv)
    · rintro rfl hv
      exact reports (pos := .closed) rfl (State.valveReport_shut (s := now) hv)
    · rintro rfl hv
      exact reports (pos := .closed) rfl (State.valveReport_closed_recovers (s := now) hv)
    · rintro rfl hv
      refine reports (pos := .closed) rfl (State.valveReport_expected (s := now) ?_)
      rcases (show (s.cavern v).valve = _ ∨ (s.cavern v).valve = _ from hv) with e | e <;> exact e ▸ trivial
    · rintro rfl hv
      exact silent _ _ (reports (pos := .opened) rfl (State.valveReport_opens (s := now) hv))
    · rintro rfl hv
      exact telling (reports (pos := .opened) rfl (State.valveReport_opened (s := now) hv))
    · rintro rfl hv
      exact telling (reports (pos := .opened) rfl (State.valveReport_opened_recovers (s := now) hv))
    · rintro rfl hv
      refine reports (pos := .opened) rfl (State.valveReport_expected (s := now) ?_)
      rcases (show (s.cavern v).valve = _ ∨ (s.cavern v).valve = _ from hv) with e | e <;> exact e ▸ trivial
    · rintro rfl hv
      exact telling (reports (pos := .travelling) rfl (State.valveReport_travels_open (s := now) hv))
    · rintro rfl hv
      exact reports (pos := .travelling) rfl (State.valveReport_travels_closed (s := now) hv)
    · rintro rfl hv
      exact reports (pos := .fault) rfl (State.valveReport_expected (s := now) (show ValveState.expects (s.cavern v).valve .fault from (show (s.cavern v).valve = .fault from hv) ▸ trivial))
    · rintro rfl hv
      exact reports (pos := .fault) rfl (State.valveReport_fault (s := now) hv)
    · rintro rfl hv
      refine reports (pos := .travelling) rfl (State.valveReport_expected (s := now) ?_)
      rcases (show (s.cavern v).valve = _ ∨ (s.cavern v).valve = _ ∨ (s.cavern v).valve = _ ∨ (s.cavern v).valve = _ from hv) with e | e | e | e <;>
        exact e ▸ trivial
  case converter =>
    rintro hn hc rfl faulted
    -- a report of FAULT, and one of AVAILABLE, with what it makes of the converter
    have fails {u : State} (hu : now.converterFault = u) : exec (.status h (statusBytes 1 48 p3 p2 p1 p0 t1 t0 rest)) s =
        .next (u.forwardOrDrop (passingFrame h kStatus (statusBytes 1 48 p3 p2 p1 p0 t1 t0 rest))) :=
      hu ▸ exec_converterStatus (fault := true) hp hl hn hc rfl
    have returns {u : State} (hu : now.converterAvailable = u) : exec (.status h (statusBytes 1 49 p3 p2 p1 p0 t1 t0 rest)) s =
        .next (u.forwardOrDrop (passingFrame h kStatus (statusBytes 1 49 p3 p2 p1 p0 t1 t0 rest))) :=
      hu ▸ exec_converterStatus (fault := false) hp hl hn hc rfl
    refine ⟨?_, ?_, ?_, ?_, ?_, ?_, ?_⟩
    · rintro rfl hv
      exact fails (State.converterFault_again (s := now) hv)
    · rintro rfl hv
      exact fails (State.converterFault_unused (s := now) hv)
    · rintro rfl i hb hx
      refine ⟨_, fails (State.converterFault_aborts (s := now) hb hx), ?_⟩
      exact State.aborted_leaves (s := s) _ rfl
    · rintro rfl sound i hb hx w aborted
      have adds : Adds [] now w := Adds.trans (os := []) (.of_ring (t := faulted) rfl rfl) (State.notify_adds _ _ _ _)
      have train : w.train i = s.train i := (State.notify_own _ _ _ _).agree.train (by decide) i
      have answered := State.converterFault_aborts (s := now) hb hx
      refine ⟨fun room => fails (answered.trans ?_), fun full => fails (answered.trans ?_)⟩
      · refine congrArg (fun u : State => u.aborted i (s.train i) s.now) ((if_pos ((adds.orderRoom sound).mpr room)).trans ?_)
        exact congrArg (fun n => w.place n .abort 0) (congrArg (fun t : Train => t.p.node) train)
      · exact congrArg (fun u : State => u.aborted i (s.train i) s.now) (if_neg fun e => Nat.not_lt.mpr full ((adds.orderRoom sound).mp e))
    · rintro rfl hv
      exact returns (State.converterAvailable_still (s := now) hv)
    · rintro rfl hv hq
      refine returns ((State.converterAvailable_fault (s := now) hv).trans (State.serve_idle (.inr ?_)))
      exact (congrArg Converter.queue ((State.notify_own _ _ _ _).agree .conv (by decide))).trans hq
    · rintro rfl hv sound i rest' hq hx w
      have own := (State.notify_own { now with conv := { s.conv with state := .free } } .converterAvailable .none []).agree
      have adds : Adds [] now w := Adds.trans (os := []) (.of_ring (t := { now with conv := { s.conv with state := .free } }) rfl rfl)
        (State.notify_adds _ _ _ _)
      have train : w.train i = s.train i := own.train (by decide) i
      have conv : w.conv = { s.conv with state := .free } := own .conv (by decide)
      have clock : w.now = s.now := own .now (by decide)
      have queue : w.conv.queue = i :: rest' := by rw [conv]; exact hq
      refine ⟨fun room => returns ((State.converterAvailable_fault (s := now) hv).trans ?_),
        fun full => returns ((State.converterAvailable_fault (s := now) hv).trans ?_)⟩
      · refine (State.serve_starts (s := w) (by rw [conv]) queue (by rw [train]; exact hx) ((adds.orderRoom sound).mpr room)).trans ?_
        rw [train, conv, clock]
        rfl
      · refine (State.serve_full (s := w) (by rw [conv]) queue (Bool.eq_false_iff.mpr fun e => Nat.not_lt.mpr full ((adds.orderRoom sound).mp e))).trans ?_
        rw [conv, clock]
end
section
/-!
PROOFS. The expiries of the converter, clock, ring and configuration timers (R91, R92, R101, R163, R172).
-/

namespace Sys2Proof.Machine

/-- A timer's command where its deadline can be next. -/
theorem exec_expiry {s : State} {t : Timer} {d : Nat} (hh : s.held = false) (hn : s.timerNext d = true) (hd : s.deadline t = some d) :
    Host.Outcome.next (σ := State) (s.expiry t) = (.next ((s.passTo d).expire t) : Host.Outcome State Fault Refusal) :=
  congrArg Host.Outcome.next (State.expiry_next hh hn hd)

/-! ## The converter -/

/-- The converter's record is replaced beside the frames. -/
theorem Aside.withConv (c : Converter) : Aside fun s => { s with conv := c } :=
  ⟨⟨fun _ _ _ => rfl, fun _ => rfl, fun _ => rfl⟩, fun _ => rfl, fun _ => rfl, fun _ => rfl, fun _ => rfl, fun _ x => by cases x <;> rfl⟩

/-- A released converter serves the head of its queue. -/
theorem State.serve_released {u : State} {c : Converter} {i : Fin 8} {rest : List (Fin 8)} (free : c.state = .free) (queue : c.queue = i :: rest)
    (waits : (u.train i).state = .startWait) (room : u.ring.orders.length < 16) :
    State.serve { u with conv := c } = State.trainNotice { ((u.place (u.train i).p.node .start 0).setTrain i ((u.train i).starts u.now)).setTrack i 0 with
      conv := { c with state := .busy i, queue := rest, retry := none, starts := c.starts + 1 } } i (.code 3) (.code 4) .order := by
  have placed := (Aside.withConv c).place u (u.train i).p.node .start 0
  rw [State.serve_starts (s := { u with conv := c }) free queue waits ((State.orderRoom_iff _).mpr room)]
  have moved := congrArg (fun w : State => State.trainNotice { (w.setTrain i ((u.train i).starts u.now)).setTrack i 0 with
    conv := { c with state := .busy i, queue := rest, retry := none, starts := c.starts + 1 } } i (.code 3) (.code 4) .order) placed
  exact moved

theorem State.cooldownExpired_releases {u : State} (h : u.conv.state = .cooldown) :
    u.cooldownExpired = State.serve { u with conv := { u.conv with state := .free, cooldown := none } } := if_pos h

/-- A service that finds no room is tried again. -/
theorem State.serve_waits {u : State} {c : Converter} {i : Fin 8} {rest : List (Fin 8)} (free : c.state = .free) (queue : c.queue = i :: rest)
    (full : 16 ≤ u.ring.orders.length) (sound : u.portSound) :
    ReportsOnly { u with conv := { c with retry := some (u.now + 1000) } } (State.serve { u with conv := c }) := by
  rw [State.serve_full (s := { u with conv := c }) free queue ((State.orderRoom_eq_false_iff _).mpr full)]
  exact ((State.notify_reportsOnly (s := { u with conv := c }) sound _ _ _).1).map (Aside.withConv { c with retry := some (u.now + 1000) }).toSilent

/-! ## The clock -/

/-- A hold cause that comes: AUTO becomes HOLD, any other mode stays. -/
theorem State.answerCauses_present {s : State} (h : s.mode.clear = false) : Agree [.mode, .commit] s s.answerCauses ∧
    s.answerCauses.mode = { s.mode with mode := if s.mode.mode = .auto then .hold else s.mode.mode } := by
  unfold State.answerCauses
  by_cases auto : s.mode.mode = .auto
  · rw [if_pos ⟨auto, h⟩]
    refine ⟨?_, by rw [State.setMode_mode, if_pos auto]⟩
    have set : s.setMode .hold 1 = (s.modeNoticed .hold 1).clearStop := by
      rw [State.setMode_eq (by rw [auto]; decide)]
      simp [State.modeAdopts, State.modeTracks, State.modeStops, State.modeReopens, auto, Mode.dispatches]
    rw [set]
    exact ((s.modeNoticed_keeps .hold 1).agree.mono (by decide)).trans ((State.clearStop_keeps _).agree.mono (by decide))
  · rw [if_neg (fun e => auto e.1), if_neg (fun e => by rw [h] at e; exact Bool.false_ne_true e.2), if_neg auto]
    exact ⟨.refl _ s, rfl⟩

theorem State.causeClock_present (s : State) : Agree [.mode, .commit] s (s.causeClock true) ∧
    (s.causeClock true).mode.unsynced = true ∧
    (s.causeClock true).mode.mode = if s.mode.unsynced = false ∧ s.mode.mode = .auto then .hold else s.mode.mode := by
  unfold State.causeClock
  by_cases known : s.mode.unsynced = true
  · rw [if_pos known]
    exact ⟨.refl _ s, known, by rw [if_neg (fun e => by rw [known] at e; exact Bool.false_ne_true e.1.symm)]⟩
  · rw [if_neg known]
    obtain ⟨kept, mode⟩ := State.answerCauses_present (s := { s with mode := { s.mode with unsynced := true } }) (by simp [ModeRecord.clear])
    refine ⟨Agree.trans ?_ kept, by rw [mode], by rw [mode]; simp [Bool.eq_false_iff.mpr known]⟩
    exact (s.withMode_keeps _).agree.mono (by decide)

end Sys2Proof.Machine
end
section
/-!
PROOFS. What the part's own timers do when they expire (R91, R92, R101, R163, R172).
-/

namespace Sys2Proof.Machine

/-! ## The ring and the configuration check -/

/-- The return watch is stopped. -/
def State.unwatched (s : State) : State := { s with ring := { s.ring with watch := none } }

theorem State.returnExpired_idle {s : State} (h : s.ring.continuity = .ringOpen ∨ s.ring.returns = []) : s.returnExpired = s.unwatched := by
  unfold State.returnExpired
  dsimp only
  split
  case h_1 => rfl
  case h_2 => rfl
  case h_3 returns open_ =>
    rcases h with h | h
    · exact absurd h open_
    · rw [returns] at h
      cases h

theorem State.returnExpired_open {s : State} {e : Return} {rest : List Return} (h : s.ring.continuity ≠ .ringOpen)
    (hr : s.ring.returns = e :: rest) : s.returnExpired =
      (State.notify { s.unwatched with ring := { s.unwatched.ring with continuity := .ringOpen } } .ringOpen .none
        [.fig e.seq.toNat, .fig (rest.length + 1)]).causeRing true := by
  unfold State.returnExpired
  dsimp only
  split
  case h_1 open_ => exact absurd open_ h
  case h_2 returns _ =>
    rw [returns] at hr
    cases hr
  case h_3 returns _ =>
    obtain ⟨rfl, rfl⟩ := List.cons.inj (returns.symm.trans hr)
    rfl

theorem State.quietRuns_iff {s : State} : s.quietRuns = true ↔ ∃ e, s.mgr.quiet = some e ∧ s.now < e := by
  unfold State.quietRuns
  cases hq : s.mgr.quiet with
  | none => exact ⟨nofun, fun ⟨e, h, _⟩ => nomatch h⟩
  | some e => exact decide_eq_true_iff.trans ⟨fun h => ⟨e, rfl, h⟩, fun ⟨_, same, h⟩ => Option.some.inj same ▸ h⟩

/-- The image is of the tables, which no period timer touches. -/
theorem State.imageSum_manager (s : State) (d : Nat) (m : Manager) (h : m.checkWord = s.mgr.checkWord) :
    State.imageSum { s.passTo d with mgr := m } = s.imageSum := by
  have same : State.image { s.passTo d with mgr := m } = s.image := by
    unfold State.image
    rw [show ({ s.passTo d with mgr := m } : State).mgr.checkWord = s.mgr.checkWord from h]
    rfl
  rw [State.imageSum, same, State.imageSum]

theorem State.markExpired_valid {s : State} (h : s.clock.state = .valid) : s.markExpired =
    (State.notify { s with clock := { s.clock with state := .unsynced, mark := none } } .clockUnsynced .none
      [.fig s.plantSec, .fig s.plantMilli]).causeClock true := if_pos h

/-- The check's pass at the expiry of the period timer. -/
theorem State.periodExpired_quiet {u : State} (h : ∃ e, u.mgr.quiet = some e ∧ u.now < e) :
    u.periodExpired = { u with mgr := { u.mgr with periodTimer := some (u.now + 2000) } } :=
  if_pos (State.quietRuns_iff.mpr h)

section
variable {s : State} {d : Nat} (h : ¬ ∃ e, s.mgr.quiet = some e ∧ (s.passTo d).now < e)
include h

/-- The manager's record after a pass. -/
def State.judgedAt (s : State) (now : Nat) (check : CheckState) : Manager :=
  { s.mgr with periodTimer := some (now + 2000), lastSum := some s.imageSum, check := check }

theorem State.periodExpired_good (good : s.imageSum = 0xFFFFFFFF#32) :
    (s.passTo d).periodExpired = if s.mgr.check = .isMatch then { s.passTo d with mgr := s.judgedAt (s.passTo d).now .isMatch }
      else (State.notify { s.passTo d with mgr := s.judgedAt (s.passTo d).now .isMatch } .configMatch .none [.fig s.imageSum.toNat]).causeConfig
        false := by
  have sum := s.imageSum_manager d { s.mgr with periodTimer := some ((s.passTo d).now + 2000) } rfl
  have runs : State.quietRuns { s.passTo d with mgr := { s.mgr with periodTimer := some ((s.passTo d).now + 2000) } } = false :=
    Bool.eq_false_iff.mpr fun e => h (State.quietRuns_iff.mp e)
  refine (State.configPass_eq runs).trans ?_
  rw [State.summed, State.checkAfter, sum, if_pos good, if_pos good]
  rfl

theorem State.periodExpired_bad (bad : s.imageSum ≠ 0xFFFFFFFF#32) :
    (s.passTo d).periodExpired = if s.mgr.check = .mismatch then { s.passTo d with mgr := s.judgedAt (s.passTo d).now .mismatch }
      else (State.notify { s.passTo d with mgr := s.judgedAt (s.passTo d).now .mismatch } .configMismatch .none [.fig s.imageSum.toNat]).causeConfig
        true := by
  have sum := s.imageSum_manager d { s.mgr with periodTimer := some ((s.passTo d).now + 2000) } rfl
  have runs : State.quietRuns { s.passTo d with mgr := { s.mgr with periodTimer := some ((s.passTo d).now + 2000) } } = false :=
    Bool.eq_false_iff.mpr fun e => h (State.quietRuns_iff.mp e)
  refine (State.configPass_eq runs).trans ?_
  rw [State.summed, State.checkAfter, sum, if_neg bad, if_neg bad]
  rfl

end

end Sys2Proof.Machine

open Sys2Proof Sys2Proof.Machine

/-- Settles O60: each timer's effect at the instant it is next, the service of the start queue being the same as elsewhere. -/
theorem partTimersExpire : Obligations.PartTimersExpire := by
  unfold Obligations.PartTimersExpire
  intro s d hh hn u started
  refine ⟨fun hd hv => ⟨fun hq => ?_, fun i rest hq hx room => ?_⟩, fun hd hv i rest hq => ⟨fun hx room => ?_, fun full sound => ?_⟩,
    fun hd hv => ?_, fun hd => ?_, fun hd => ?_, fun hd => exec_expiry (t := .quiet) hh hn hd⟩
  · refine (exec_expiry (t := .cooldown) hh hn hd).trans (congrArg Host.Outcome.next ?_)
    exact (State.cooldownExpired_releases (u := u) hv).trans (State.serve_idle (.inr hq))
  · refine (exec_expiry (t := .cooldown) hh hn hd).trans (congrArg Host.Outcome.next ?_)
    exact (State.cooldownExpired_releases (u := u) hv).trans (State.serve_released (u := u) rfl hq hx room)
  · refine (exec_expiry (t := .retry) hh hn hd).trans (congrArg Host.Outcome.next ?_)
    exact State.serve_released (u := u) (c := { s.conv with retry := none }) hv hq hx room
  · refine ⟨_, exec_expiry (t := .retry) hh hn hd, ?_⟩
    exact State.serve_waits (u := u) (c := { s.conv with retry := none }) hv hq full sound
  · have valid : u.clock.state = .valid := (s.passTo_state d).trans hv
    obtain ⟨kept, unsynced, mode⟩ := State.causeClock_present
      (State.notify { u with clock := { u.clock with state := .unsynced, mark := none } } .clockUnsynced .none [.fig u.plantSec, .fig u.plantMilli])
    have told := (State.notify_own { u with clock := { u.clock with state := .unsynced, mark := none } } .clockUnsynced .none
      [.fig u.plantSec, .fig u.plantMilli]).agree
    have same : Agree [.mode, .commit] _ _ := (told.mono (by decide)).trans kept
    rw [show (State.notify { u with clock := { u.clock with state := .unsynced, mark := none } } .clockUnsynced .none
      [.fig u.plantSec, .fig u.plantMilli]).mode = s.mode from told .mode (by decide)] at mode
    refine ⟨_, (exec_expiry (t := .mark) hh hn hd).trans (congrArg Host.Outcome.next (State.markExpired_valid (s := u) valid)), same .clock (by decide),
      unsynced, fun known auto => mode.trans (if_pos ⟨known, auto⟩), fun auto _ => mode.trans (if_neg fun e => auto e.2), same .trains (by decide),
      same .sched (by decide), same .chans (by decide), same .caverns (by decide), same .stores (by decide), same .conv (by decide),
      same .manifold (by decide), same .disp (by decide), same .grid (by decide), same .mgr (by decide), same .plant (by decide),
      same .now (by decide)⟩
  · refine ⟨fun h => ?_, fun h e rest hr => ?_⟩
    · exact (exec_expiry (t := .watch) hh hn hd).trans (congrArg Host.Outcome.next (State.returnExpired_idle (s := u) h))
    · exact (exec_expiry (t := .watch) hh hn hd).trans (congrArg Host.Outcome.next (State.returnExpired_open (s := u) h hr))
  · intro again sum quiet
    refine ⟨fun h => ?_, fun h good => ?_, fun h bad => ?_⟩
    · exact (exec_expiry (t := .period) hh hn hd).trans (congrArg Host.Outcome.next (State.periodExpired_quiet (u := u) h))
    · exact (exec_expiry (t := .period) hh hn hd).trans (congrArg Host.Outcome.next (State.periodExpired_good h good))
    · exact (exec_expiry (t := .period) hh hn hd).trans (congrArg Host.Outcome.next (State.periodExpired_bad h bad))
end
section
/-!
PROOFS. The quality event of a channel at the caverns and stores that name it (R14, R29, R34, R49).
-/

namespace Sys2Proof.Machine

/-! ## The caverns -/

/-- A quality event at a cavern that names the channel. -/
def State.judging (v : View) (n : Nat) (s : State) (c : Fin 4) : State :=
  if (s.cavern c).names n then (State.evalHold (s.setCavern c ((s.cavern c).withView v)) c).isolate c else s

theorem State.judging_work (v : View) (n : Nat) (s : State) (c : Fin 4) : CavernsOnly 1 s (State.judging v n s c) := by
  unfold State.judging
  split
  · exact ((CavernsOnly.setCavern (Cavern.withView_p _ _)).trans (State.evalHold_work _ c).only).trans (State.isolate_work _ c).only
  · exact .refl 1 s

theorem State.judging_other (v : View) (n : Nat) (s : State) {c d : Fin 4} (hd : d ≠ c) : (State.judging v n s c).cavern d = s.cavern d := by
  unfold State.judging
  split
  · rw [State.isolate_one.other _ c d hd, State.evalHold_one.other _ c d hd, State.cavern_setCavern, if_neg hd]
  · rfl

theorem State.judging_one (v : View) (n : Nat) : OneCavern 1 true (State.judging v n)
    (CavernRule.rel fun x q m auto now => if x.names n then ((x.withView v).rated q m auto now).isolated q m auto now else x) where
  work := State.judging_work v n
  other s c d hd := State.judging_other v n s hd
  value s c room := by
    change (State.judging v n s c).cavern c = if _ then _ else _
    unfold State.judging
    split
    case isTrue =>
      have hx := Cavern.withView_p (s.cavern c) v
      obtain ⟨manifold, mode, now, pressure, waiting⟩ :=
        ((CavernsOnly.setCavern hx).trans (State.evalHold_work (s.setCavern c ((s.cavern c).withView v)) c).only).ground
      have few := room rfl
      rw [State.isolate_one.rule (fun _ => by omega), State.pressing_held _ hx, manifold, mode, now, pressure]
    case isFalse => rfl

/-- What isolation leaves of a record apart from its valve. -/
theorem State.judging_free (v : View) (n : Nat) : OneCavern 1 false (State.judging v n)
    (fun x q m auto now y => if x.names n then
      ∃ vs w k, y = { (x.withView v).rated q m auto now with valve := vs, timer := w, mark := k } else y = x) where
  work := State.judging_work v n
  other s c d hd := State.judging_other v n s hd
  value s c _ := by
    dsimp only
    unfold State.judging
    split
    case isTrue =>
      have hx := Cavern.withView_p (s.cavern c) v
      have moved := (State.isolate_work ((s.setCavern c ((s.cavern c).withView v)).evalHold c) c).moved (c := c) (by rw [State.isolate_hold])
      rwa [State.pressing_held _ hx] at moved
    case isFalse => rfl

/-- With the mode as if not AUTO, isolation is all the answer there is. -/
theorem Cavern.isolated_answered (x : Cavern) (q : Quality) (m : ManifoldState) (auto : Bool) (now : Nat) :
    x.isolated q m auto now = x.answered q m false now := by
  rw [← Cavern.answered_eq, Cavern.reopened, if_neg (fun e => Bool.false_ne_true e.1)]
  rfl

/-! ## The delivery -/

/-- The quality event reaches the caverns first. -/
theorem State.deliverQuality_eq (s : State) (n : Nat) : s.deliverQuality n =
    storeNumbers.foldl (fun u m => u.layerEvent n (s.viewOf n .temperature) m)
      (cavernNumbers.foldl (State.judging (s.viewOf n .pressure) n) s) := by
  have caverns : cavernNumbers.foldl (fun u c => if (u.cavern c).names n then u.cavernQuality c (u.viewOf n .pressure) else u) s =
      cavernNumbers.foldl (State.judging (s.viewOf n .pressure) n) s := by
    refine foldl_congr_of (P := fun u => u.chans = s.chans) (fun u d hc => ?_) _ rfl
    have same : (if (u.cavern d).names n then u.cavernQuality d (u.viewOf n .pressure) else u) = State.judging (s.viewOf n .pressure) n u d := by
      rw [State.viewOf_congr hc]
      rfl
    have kept : Keeps [.caverns] u (if (u.cavern d).names n then u.cavernQuality d (u.viewOf n .pressure) else u) :=
      .ite (fun _ => u.cavernQuality_keeps d _) fun _ => .refl _ u
    rw [same] at kept ⊢
    exact ⟨rfl, (kept.agree .chans (by decide)).trans hc⟩
  obtain ⟨os, emits, -⟩ := ((State.judging_one (s.viewOf n .pressure) n).work_foldl cavernNumbers s).orders
  rw [State.deliverQuality, caverns]
  generalize cavernNumbers.foldl (State.judging (s.viewOf n .pressure) n) s = u at emits
  have chans : u.chans = s.chans := emits.own.agree .chans (by decide)
  refine foldl_congr_of (P := fun w => w.chans = s.chans) (fun w m hc => ?_) _ chans
  rw [State.viewOf_congr hc]
  exact ⟨rfl, ((w.layerEvent_keeps n _ m).agree .chans (by decide)).trans hc⟩

/-- What a quality event leaves of the caverns. -/
theorem State.deliverQuality_cavern (s : State) (n : Nat) (d : Fin 4) :
    ((s.deliverQuality n).cavern d = (cavernNumbers.foldl (State.judging (s.viewOf n .pressure) n) s).cavern d) := by
  rw [State.deliverQuality_eq]
  exact (Keeps.foldl (A := [.stores]) (fun u m => u.layerEvent_keeps n (s.viewOf n .temperature) m) storeNumbers _).agree.cavern (by decide) d

/-- What a quality event leaves of the stores. -/
theorem State.deliverQuality_store (s : State) (n : Nat) (m : Fin 3) :
    (¬ (s.store m).names n → (s.deliverQuality n).store m = s.store m) ∧
    ((s.store m).names n → (s.deliverQuality n).store m = (s.store m).told n (s.viewOf n .temperature)) := by
  obtain ⟨os, emits, -⟩ := ((State.judging_one (s.viewOf n .pressure) n).work_foldl cavernNumbers s).orders
  rw [State.deliverQuality_eq]
  generalize cavernNumbers.foldl (State.judging (s.viewOf n .pressure) n) s = u at emits
  have store : u.store m = s.store m := emits.own.agree.store (by decide) m
  obtain ⟨-, others, told⟩ := State.layerEvents n (s.viewOf n .temperature) (l := storeNumbers) (by decide) u
  rw [← store]
  exact ⟨fun un => others m (.inr un), told m (mem_storeNumbers m)⟩

end Sys2Proof.Machine
end
section
/-!
PROOFS. The freshness expiry of a channel (R10, R14).
-/

namespace Sys2Proof.Machine

theorem State.viewOf_other {s : State} {c : Fin 96} {k : ChanKind} (hk : (s.chan c).p.kind ≠ k) : s.viewOf c.val k = unbound := by
  simp only [State.viewOf, State.chanAt_val, beq_eq_false_iff_ne.mpr hk, Bool.and_false, Bool.false_eq_true, if_false]

/-- A channel that has gone STALE. -/
def Channel.expired (x : Channel) : Channel := { x with timer := none, quality := .stale }

section
variable {s : State} {c : Fin 96} (hp : (s.chan c).present = true) (hs : (s.chan c).p.substFlag = false)
include hp hs

/-- The view of a channel that has gone STALE, by the kind it is bound as. -/
theorem State.viewOf_expired (k : ChanKind) : (s.setChan c (s.chan c).expired).viewOf c.val k =
    if (s.chan c).p.kind = k then ⟨.stale, (s.chan c).inst, (s.chan c).avg⟩ else unbound := by
  have here : (s.setChan c (s.chan c).expired).chan c = (s.chan c).expired := State.chan_setChan_same _ _ _
  have present : (s.chan c).expired.present = true := hp
  split
  case isTrue hk =>
    rw [State.viewOf_val (by rw [here]; exact present) (by rw [here]; exact hk), here, Channel.presented_present present,
      show (s.chan c).expired.p.substFlag = false from hs]
    rfl
  case isFalse hk => exact State.viewOf_other (by rw [here]; exact hk)

/-- A cavern under a pressure that has gone STALE. -/
theorem State.deliverExpired_cavern (n : Fin 4) :
    let t := (s.setChan c (s.chan c).expired).deliverQuality c.val
    let z := s.cavern n
    (z.p.present = false ∨ z.p.channel ≠ some c.val → t.cavern n = z) ∧
    (z.p.present = true → z.p.channel = some c.val → (s.chan c).p.kind = .pressure →
      (∃ vs w k, t.cavern n = { z with hold := true, valve := vs, timer := w, mark := k }) ∧
      (s.ring.orders.length ≤ 12 → t.cavern n = Cavern.answered { z with hold := true } .stale s.manifold.state false s.now)) := by
  intro t z
  have free := (State.judging_free ((s.setChan c (s.chan c).expired).viewOf c.val .pressure) c.val).value_foldl cavernNumbers_nodup
    (mem_cavernNumbers n) (s := s.setChan c (s.chan c).expired) nofun
  rw [← State.deliverQuality_cavern] at free
  refine ⟨fun unnamed => ?_, fun present channel kind => ?_⟩
  · rw [if_neg] at free
    · exact free
    · rw [Cavern.names_iff]
      exact fun g => unnamed.elim (fun e => Bool.false_ne_true (e.symm.trans g.1)) fun e => e g.2
  · have named : z.names c.val = true := (Cavern.names_iff _ _).mpr ⟨present, channel⟩
    have view : (s.setChan c (s.chan c).expired).viewOf c.val .pressure = ⟨.stale, (s.chan c).inst, (s.chan c).avg⟩ := by
      rw [State.viewOf_expired hp hs, if_pos kind]
    have pressure : (s.setChan c (s.chan c).expired).pressure n = ⟨.stale, (s.chan c).inst, (s.chan c).avg⟩ := by
      rw [State.pressure_named (s := s.setChan c (s.chan c).expired) channel, view]
    have held (m : ManifoldState) (auto : Bool) (now : Nat) :
        (z.withView ⟨.stale, (s.chan c).inst, (s.chan c).avg⟩).rated .stale m auto now = { z with hold := true } := by
      rw [show z.withView ⟨.stale, (s.chan c).inst, (s.chan c).avg⟩ = z from rfl, Cavern.rated, if_pos present]
      rfl
    refine ⟨?_, fun room => ?_⟩
    · rw [if_pos (show ((s.setChan c (s.chan c).expired).cavern n).names c.val = true from named), pressure, view] at free
      obtain ⟨vs, w, k, left⟩ := free
      refine ⟨vs, w, k, left.trans ?_⟩
      rw [show (s.setChan c (s.chan c).expired).cavern n = z from rfl, held]
    · have value := (State.judging_one ((s.setChan c (s.chan c).expired).viewOf c.val .pressure) c.val).rule_foldl cavernNumbers_nodup
        (mem_cavernNumbers n) (s := s.setChan c (s.chan c).expired) (fun _ => show s.ring.orders.length + 4 ≤ 16 by omega)
      rw [← State.deliverQuality_cavern, if_pos (show ((s.setChan c (s.chan c).expired).cavern n).names c.val = true from named), pressure, view,
        show (s.setChan c (s.chan c).expired).cavern n = z from rfl, held, Cavern.isolated_answered] at value
      exact value

/-- A store one of whose layers has gone STALE. -/
theorem State.deliverExpired_store (m : Fin 3) :
    let t := (s.setChan c (s.chan c).expired).deliverQuality c.val
    let z := s.store m
    let v : LayerView := if (s.chan c).p.kind = .temperature then ⟨.stale, (s.chan c).avg⟩ else ⟨.none, 0⟩
    (¬ z.names c.val → t.store m = z) ∧
    (z.names c.val → t.store m = Store.recomputed { z with views := (z.p.layers.zip z.views).map fun lv =>
      if lv.1.channel = c.val then v else lv.2 }) := by
  intro t z v
  obtain ⟨others, told⟩ := (s.setChan c (s.chan c).expired).deliverQuality_store c.val m
  have view : (⟨((s.setChan c (s.chan c).expired).viewOf c.val .temperature).quality,
      ((s.setChan c (s.chan c).expired).viewOf c.val .temperature).avg⟩ : LayerView) = v := by
    rw [State.viewOf_expired hp hs]
    by_cases kind : (s.chan c).p.kind = .temperature
    · simp only [v, if_pos kind]
    · simp only [v, if_neg kind]
      rfl
  refine ⟨others, fun named => (told named).trans ?_⟩
  rw [Store.told, view]
  rfl

end

end Sys2Proof.Machine
end
section
/-!
PROOFS. What commitment leaves of the dispatch record: all but the tracks; and the fallback expiry (R16, R116, R143).
-/

namespace Sys2Proof.Machine

/-- The dispatch record is as it was but for the tracks. -/
def Steers (s t : State) : Prop := ∃ v, t.disp = { s.disp with tracks := v }

namespace Steers

theorem of_disp {s t : State} (h : t.disp = s.disp) : Steers s t := ⟨s.disp.tracks, h⟩

theorem refl (s : State) : Steers s s := .of_disp rfl

theorem trans {a b c : State} (h : Steers a b) (k : Steers b c) : Steers a c := by
  obtain ⟨v, h⟩ := h
  obtain ⟨w, k⟩ := k
  exact ⟨w, by rw [k, h]⟩

theorem own {s t : State} (h : Own s t) : Steers s t := .of_disp (h.agree .disp (by decide))

theorem foldl {α : Type} {f : State → α → State} (h : ∀ s a, Steers s (f s a)) (l : List α) (s : State) : Steers s (l.foldl f s) := by
  induction l generalizing s with
  | nil => exact .refl s
  | cons a l ih => exact (h s a).trans (ih _)

end Steers

theorem State.moveTrain_steers (s : State) (i : Fin 8) (new : TrainState) (v : Int) (c : Cause) : Steers s (s.moveTrain i new v c) := by
  by_cases h : (s.train i).state = new
  · rw [State.moveTrain_same h]
    exact .refl s
  · exact ⟨_, ((State.moveTrain_agrees h v c) .disp (by decide)).trans (s.recorded_disp i new v)⟩

theorem State.placed_steers {s : State} (room : s.orderRoom = true) (n : Nat) (o : Order) (v : Int) : Steers s (s.place n o v) :=
  .own (State.place_own room n o v)

theorem State.takeConverter_steers (s : State) (i : Fin 8) : Steers s (s.takeConverter i) := .of_disp rfl

theorem State.serve_steers (s : State) : Steers s s.serve := by
  unfold State.serve
  split
  case h_1 =>
    split
    case isTrue room => exact ((State.placed_steers room _ _ _).trans (State.takeConverter_steers _ _)).trans (State.moveTrain_steers _ _ _ _ _)
    case isFalse => exact (Steers.own (s.trainQueueFull_own _ _)).trans (.of_disp rfl)
  case h_2 => exact .refl s

theorem State.changeTrain_steers (s : State) (i : Fin 8) (new : TrainState) (v : Int) (c : Cause) : Steers s (s.changeTrain i new v c) := by
  unfold State.changeTrain
  dsimp only
  split
  · exact (s.moveTrain_steers i new v c).trans (State.serve_steers _)
  · exact s.moveTrain_steers i new v c

theorem State.takeOrder_steers (s : State) (i : Fin 8) (o : Order) : Steers s (s.takeOrder i o) := by
  unfold State.takeOrder
  split
  · exact .refl s
  · split
    · exact .refl s
    · split
      · exact (Steers.of_disp (t := s.setTrain i { s.train i with tripClear := false }) rfl).trans (State.changeTrain_steers _ _ _ _ _)
      · exact s.changeTrain_steers _ _ _ _

theorem State.originate_steers (s : State) (i : Fin 8) (o : Order) : Steers s (s.originate i o) := by
  unfold State.originate
  split
  · exact .refl s
  · split
    · exact .refl s
    · split
      · exact .own (s.trainQueueFull_own i o)
      case isFalse room =>
        split
        · exact .refl s
        · exact (State.placed_steers (Bool.eq_true_of_not_eq_false room) _ _ _).trans (State.takeOrder_steers _ _ _)

theorem State.originateStart_steers (s : State) (i : Fin 8) : Steers s (s.originateStart i) := by
  unfold State.originateStart
  split
  · exact .refl s
  · split
    · exact .own (State.notify_own _ _ _ _)
    · split
      · split
        case isTrue room => exact ((State.placed_steers room _ _ _).trans (State.takeConverter_steers _ _)).trans (State.moveTrain_steers _ _ _ _ _)
        case isFalse => exact .own (s.trainQueueFull_own i .start)
      · exact ((Steers.of_disp (t := { s with conv := { s.conv with queue := s.conv.queue ++ [i] } }) rfl).trans
          (State.moveTrain_steers _ _ _ _ _)).trans (.own (State.notify_own _ _ _ _))

theorem State.reversalStep_steers (s : State) (f : Demand) : Steers s (s.reversalStep f) := by
  unfold State.reversalStep
  split
  · exact .refl s
  · split
    · exact .refl s
    · refine .foldl (fun u i => ?_) _ s
      unfold State.unloadLoaded
      split
      · exact u.originate_steers i .unload
      · exact .refl u

theorem State.startStep_steers (s : State) (f : Demand) : Steers s (s.startStep f) := by
  unfold State.startStep
  split
  · exact .refl s
  · split
    · split
      · exact .refl s
      · exact s.originateStart_steers _
    · exact .refl s

theorem State.loadStep_steers (s : State) (f : Demand) : Steers s (s.loadStep f).1 := by
  have all (demand : Int) (l : List (Fin 8)) (x : State × Int) : Steers x.1 (l.foldl (State.loadOne demand) x).1 := by
    induction l generalizing x with
    | nil => exact .refl _
    | cons i l ih =>
      refine Steers.trans ?_ (ih _)
      unfold State.loadOne
      split
      · exact x.1.originate_steers i .load
      · exact .refl _
  unfold State.loadStep
  split
  · exact .refl s
  · split
    · exact all _ _ (s, _)
    · exact .refl s

theorem State.stopStep_steers (s : State) (f : Demand) : Steers s (s.stopStep f) := by
  have unloaded (c : Commitment) (i : Fin 8) : Steers s (State.originate { s with commit := c } i .unload) :=
    (Steers.of_disp (t := { s with commit := c }) rfl).trans (State.originate_steers _ i .unload)
  unfold State.stopStep
  split
  · exact .of_disp rfl
  · split
    · exact .of_disp rfl
    · dsimp only
      split
      · split
        · exact unloaded _ _
        · exact (unloaded _ _).trans (.of_disp rfl)
      · exact .of_disp rfl

theorem State.idleStep_steers (s : State) (f : Demand) (c : Int) : Steers s (s.idleStep f c) := by
  unfold State.idleStep
  split
  · exact .refl s
  · refine .foldl (fun u i => ?_) _ s
    unfold State.idleOne
    split
    · exact u.originate_steers i .stop
    · exact .refl u

/-- A run of commitment moves the tracks of the dispatch record alone. -/
theorem State.commitmentRun_steers (s : State) (req : Int) : Steers s (s.commitmentRun req) := by
  unfold State.commitmentRun
  split
  · exact .of_disp rfl
  · exact (((((Steers.of_disp (t := { s with commit := { s.commit with figures := some (s.demandStep req) } }) rfl).trans
      (State.reversalStep_steers _ _)).trans (State.startStep_steers _ _)).trans (State.loadStep_steers _ _)).trans
      (State.stopStep_steers _ _)).trans (State.idleStep_steers _ _ _)

/-- What a computation leaves of the dispatch record: the count, the target and the mark of the parameter set. -/
theorem State.compute_counts (s : State) (k : TriggerKind) (fDev : Int) :
    (s.compute k fDev).disp.count = s.disp.count + 1 ∧ (s.compute k fDev).disp.target = (s.recordOf k fDev).target ∧
      (s.compute k fDev).disp.swap = false := by
  have kept {u : State} (r : CompRecord) (hu : Steers s.targeted u) :
      (u.keepRecord r).disp.count = s.disp.count + 1 ∧ (u.keepRecord r).disp.target = r.target ∧ (u.keepRecord r).disp.swap = false := by
    obtain ⟨n, record⟩ := u.keepRecord_disp r
    obtain ⟨v, steered⟩ := hu
    rw [record, steered, s.targeted_disp]
    exact ⟨rfl, rfl, rfl⟩
  rw [State.compute_eq, State.recordOf, State.targeted_mode]
  split
  · obtain ⟨os, sent⟩ := s.issued_stirs fDev
    exact kept _ (Steers.trans ⟨_, sent.disp⟩ (.own (State.setpointsUnplaced_own _ _ _)))
  · exact kept _ (.refl _)

end Sys2Proof.Machine
end
section
/-!
PROOFS. The fallback expiry (R16, R116, R143): what its computation records, and what it leaves of the trains.
-/

namespace Sys2Proof.Machine

/-! ## The trains of a computation -/

theorem State.marked'_state (s : State) (i : Fin 8) : (s.marked' i).state = (s.train i).state := rfl

theorem State.targeted_advances (s : State) : Advances s s.targeted := fun i => .inl (by rw [s.targeted_train]; rfl)

theorem State.issueOne_advances (s : State) (v : Fin 8 × Int) : Advances s (s.issueOne v) := fun j => by
  have slot := congrArg Prod.fst ((State.issueOne_step (s := s) ⟨[], .refl s⟩ (v := v) rfl).slots j)
  rw [show (s.issueOne v).train j = _ from slot]
  refine .inl ?_
  split
  case isTrue e => rw [e]; rfl
  case isFalse => rfl

theorem State.unloadStarved_advances (s : State) (i : Fin 8) : Advances s (s.unloadStarved i) := by
  unfold State.unloadStarved
  split
  · exact State.originate_advances (.inr (.inl rfl))
  · exact .refl s

theorem State.issued_advances (s : State) (fDev : Int) : Advances s (s.issued fDev).state.unloadAll := by
  have sent : Advances s.targeted (s.issued fDev).state := by
    rw [State.issued, State.issueAll, Issue.foldl_state]
    exact .foldl State.issueOne_advances _ _
  exact (s.targeted_advances.trans sent).trans (.foldl State.unloadStarved_advances _ _)

theorem State.keepRecord_trains (s : State) (r : CompRecord) : (s.keepRecord r).trains = s.trains :=
  (s.keepRecord_keeps r).agree .trains (by decide)

/-- A computation makes no move but that of a starved train. -/
theorem State.compute_advances (s : State) (k : TriggerKind) (fDev : Int) : Advances s (s.compute k fDev) := by
  rw [State.compute_eq]
  split
  · have unplaced (u : State) (x : Option (Fin 8)) (n : Nat) : (u.setpointsUnplaced x n).trains = u.trains :=
      (u.setpointsUnplaced_own x n).agree .trains (by decide)
    exact (s.issued_advances fDev).trans (.of_trains ((State.keepRecord_trains _ _).trans (unplaced _ _ _)))
  · exact s.targeted_advances.trans (.of_trains (State.keepRecord_trains _ _))

/-- No move of commitment starts in UNKNOWN. -/
theorem Advances.unknown {s t : State} (h : Advances s t) {i : Fin 8} (hi : (s.train i).state = .unknown) : (t.train i).state = .unknown := by
  rcases h i with e | move
  · rw [e, hi]
  · rw [hi] at move
    simp [commitmentPairs] at move

theorem State.compute_unknown {s : State} (h : ∃ i, (s.train i).isIn .unknown = true) (k : TriggerKind) (fDev : Int) :
    (s.compute k fDev).someUnknown = true := by
  obtain ⟨i, hi⟩ := h
  obtain ⟨present, state⟩ := (Train.isIn_iff _ _).mp hi
  refine List.any_eq_true.mpr ⟨i, mem_slotNumbers i, (Train.isIn_iff _ _).mpr ⟨?_, (s.compute_advances k fDev).unknown state⟩⟩
  rw [Train.present, (s.compute_keeps k fDev).agree.train_p (by decide)]
  exact present

/-- In MANUAL a computation moves the STARVED marks alone. -/
theorem State.compute_manual {s : State} (h : s.mode.mode = .manual) (k : TriggerKind) (fDev : Int) (i : Fin 8) :
    (s.compute k fDev).train i = s.marked' i := by
  rw [State.compute_eq, State.targeted_mode, h, ← s.targeted_train]
  exact congrArg (fun v : Vector Train 8 => v.get i) (State.keepRecord_trains _ _)

/-! ## What it records -/

theorem State.recordOf_plantMs (s : State) (k : TriggerKind) (fDev : Int) : (s.recordOf k fDev).plantMs = s.clock.plantMs := by
  obtain ⟨d, u, l, base⟩ := s.recordOf_base k fDev
  have clock : s.targeted.clock = s.clock := s.targeted_keeps.agree .clock (by decide)
  rw [base, ← clock, State.baseRecord]

/-- What a performed trigger leaves: the records of the computation, and all it cannot touch. -/
structure Computed (s : State) (k : TriggerKind) (fDev : Int) (t : State) : Prop where
  last : t.disp.last = some (s.recordOf k fDev)
  count : t.disp.count = s.disp.count + 1
  target : t.disp.target = (s.recordOf k fDev).target
  swap : t.disp.swap = false
  grid : t.grid = { s.grid with lastComp := some s.now }
  kept : Agree [.grid, .disp, .sets, .last, .mgr, .commit, .figures, .trains, .trainParams, .stacks, .conv, .manifold, .caverns] s t

theorem State.trigger_computed {s t : State} {k : TriggerKind} {fDev : Int}
    (ht : t = if s.mode.mode = .auto then (s.compute k fDev).commitmentRun (s.recordOf k fDev).req else s.compute k fDev) :
    Computed s k fDev t := by
  obtain ⟨last, grid⟩ := State.trigger_records ht
  obtain ⟨count, target, swap⟩ := s.compute_counts k fDev
  have agree := (s.compute_agree k fDev).mono
    (B := [.grid, .disp, .sets, .last, .mgr, .commit, .figures, .trains, .trainParams, .stacks, .conv, .manifold, .caverns]) (by decide)
  have steered : Steers (s.compute k fDev) t ∧
      Agree [.grid, .disp, .sets, .last, .mgr, .commit, .figures, .trains, .trainParams, .stacks, .conv, .manifold, .caverns]
        (s.compute k fDev) t := by
    rw [ht]
    split
    · exact ⟨State.commitmentRun_steers _ _, (State.commitmentRun_keeps _ _).agree.mono (by decide)⟩
    · exact ⟨.refl _, .refl _ _⟩
  obtain ⟨⟨v, disp⟩, moved⟩ := steered
  exact ⟨last, by rw [disp]; exact count, by rw [disp]; exact target, by rw [disp]; exact swap, grid, agree.trans moved⟩

/-- The figures of the request in the record. -/
theorem State.recordOf_request (s : State) (k : TriggerKind) (fDev : Int) :
    let r := s.recordOf k fDev
    r.req = sat32 (r.sched + r.fcr + r.trim) ∧ r.trim = s.sched.trim ∧ r.sched = s.schedAt s.clock.plantMs := by
  obtain ⟨-, sched, -, trim, fcr, req, -⟩ := s.recordOf_figures k fDev
  refine ⟨?_, trim, sched⟩
  rw [req, sched, fcr, trim, State.requestOf_eq]

/-- What a performed trigger leaves of commitment and, in MANUAL, of the trains. -/
theorem State.trigger_commits {s t : State} {k : TriggerKind} {fDev : Int}
    (ht : t = if s.mode.mode = .auto then (s.compute k fDev).commitmentRun (s.recordOf k fDev).req else s.compute k fDev) :
    (s.mode.mode ≠ .auto → t.commit = s.commit) ∧
    (s.mode.mode = .auto → (∃ j, (s.train j).isIn .unknown = true) →
      t = { s.compute k fDev with commit := { s.commit with stop := none } }) ∧
    (s.mode.mode = .manual → ∀ i, (t.train i).state = (s.train i).state ∧ (t.train i).setpoint = (s.train i).setpoint) := by
  have commit : (s.compute k fDev).commit = s.commit := (s.compute_keeps k fDev).agree .commit (by decide)
  refine ⟨fun other => ?_, fun auto unknown => ?_, fun manual i => ?_⟩
  · rw [ht, if_neg other]
    exact commit
  · rw [ht, if_pos auto, State.commitmentRun_unknown (State.compute_unknown unknown k fDev), State.clearStop, commit]
  · rw [ht, if_neg (by rw [manual]; decide), State.compute_manual manual]
    exact ⟨rfl, rfl⟩

end Sys2Proof.Machine
end
section
/-!
PROOFS. The sequence timers (R76, R77, R90, R93), and the expiries of the block timers together.
-/

namespace Sys2Proof.Machine

theorem State.setTrain_self {s : State} {i : Fin 8} {x : Train} (h : s.train i = x) : s.setTrain i x = s := by
  subst h
  have same : s.trains.set i.val (s.train i) i.isLt = s.trains := by simp [State.train, Vector.get_eq_getElem]
  rw [State.setTrain, same]

section
variable {s : State} {i : Fin 8} {o : Order} {new : TrainState} {name : NoticeName}

theorem State.sequenceExpired_room (h : (s.train i).state.fallback = some (o, new, name)) (room : s.orderRoom = true) : s.sequenceExpired i =
    ((s.place (s.train i).p.node o 0).changeTrain i new 0 .timeout).notify name (.train i) [.fig i.val, .code (s.train i).state.num] := by
  simp only [State.sequenceExpired, h, room, if_true]

theorem State.sequenceExpired_full (h : (s.train i).state.fallback = some (o, new, name)) (full : s.orderRoom = false) : s.sequenceExpired i =
    (s.setTrain i { s.train i with timer := some (s.now + 1000) }).notify .queueFull (.train i) [.fig i.val, .code o.num] := by
  simp only [State.sequenceExpired, h, full, Bool.false_eq_true, if_false]
  rfl

end

/-- An UNLOADING or STOPPING train that times out is TRIPPED. -/
def Train.timedOut (x : Train) (now : Nat) : Train := { x with
  state := .tripped, entry := now, timer := none, setpoint := 0, preState := some x.state, preSetpoint := x.setpoint, tripClear := false }

theorem Train.timedOut_eq {x : Train} {st : TrainState} (h : x.state = st) (now : Nat) : x.timedOut now = { x with
    state := .tripped, entry := now, timer := none, setpoint := 0, preState := some st, preSetpoint := x.setpoint, tripClear := false } := by
  rw [Train.timedOut, h]

/-- The record that is left, told by its state. -/
theorem State.became_from {x : Train} {st : TrainState} (h : x.state = st) (s : State) (i : Fin 8) (y : Train) (v : Converter) (cause : Cause) :
    s.became i x y v cause =
      State.trainNotice { (s.setTrain i y).setTrack i y.setpoint with conv := v } i (.code st.num) (.code y.state.num) cause := by
  rw [State.became, h]

/-- The converter's record apart, the record is replaced. -/
theorem State.became_same {x : Train} {st : TrainState} (h : x.state = st) {s : State} {v : Converter} (hv : s.conv = v) (i : Fin 8) (y : Train)
    (cause : Cause) :
    s.became i x y v cause = ((s.setTrain i y).setTrack i y.setpoint).trainNotice i (.code st.num) (.code y.state.num) cause := by
  rw [State.became_from h, ← hv]
  rfl

section
variable {s : State} {i : Fin 8} {x : Train} (hx : s.train i = x)
include hx

theorem State.timeout_stopping (h : x.state = .stopping) :
    s.changeTrain i .tripped 0 .timeout = s.became i x (x.timedOut s.now) s.conv .timeout := by
  have became := State.changeTrain_became (s := s) (i := i) (x := x) (new := .tripped) (by rw [h]; decide) (by rw [h]; rfl)
    (by rw [h]; decide) 0 .timeout
  rwa [State.setTrain_self hx, Train.changed_tripped_unloaded (by rw [h]; decide)] at became

theorem State.timeout_loading (h : x.state = .loading) :
    s.changeTrain i .unloading 0 .timeout = s.became i x { x with
      state := .unloading, entry := s.now, timer := some (s.now + x.p.tUnload * 1000), setpoint := 0 } s.conv .timeout := by
  have became := State.changeTrain_became (s := s) (i := i) (x := x) (new := .unloading) (by rw [h]; decide) (by rw [h]; rfl)
    (by rw [h]; decide) 0 .timeout
  rwa [State.setTrain_self hx, Train.changed_unloaded (by rw [h]; decide) (by decide)] at became

theorem State.timeout_unloading (h : x.state = .unloading) :
    s.changeTrain i .tripped 0 .timeout = (s.became i x (x.timedOut s.now) s.conv .timeout).flowEnded := by
  have leaves := State.changeTrain_leaves (s := s) (i := i) (x := x) (new := .tripped) (by rw [h]; rfl) rfl 0 .timeout
  rwa [State.setTrain_self hx, Train.changed_tripped_unloaded (by rw [h]; decide)] at leaves

theorem State.timeout_starting_cooling (h : x.state = .starting) (busy : s.conv.state = .busy i) (cooldown : s.plant.cooldown ≠ 0) :
    s.changeTrain i .standby 0 .timeout = s.became i x { x with state := .standby, entry := s.now, timer := none, setpoint := 0 }
      { s.conv with state := .cooldown, cooldown := some (s.now + s.plant.cooldown * 1000) } .timeout := by
  have started := State.changeTrain_started_cooling (s := s) (i := i) (x := x) (new := .standby) h busy nofun rfl cooldown 0 .timeout
  rwa [State.setTrain_self hx, Train.changed_unloaded (by rw [h]; decide) (by decide)] at started

theorem State.timeout_starting_free (h : x.state = .starting) (busy : s.conv.state = .busy i) (cooldown : s.plant.cooldown = 0) :
    s.changeTrain i .standby 0 .timeout = State.serve (s.became i x { x with state := .standby, entry := s.now, timer := none, setpoint := 0 }
      { s.conv with state := .free } .timeout) := by
  have started := State.changeTrain_started_free (s := s) (i := i) (x := x) (new := .standby) h busy nofun rfl cooldown 0 .timeout
  rwa [State.setTrain_self hx, Train.changed_unloaded (by rw [h]; decide) (by decide)] at started

end

theorem State.departed_congr {s t : State} (hm : t.manifold = s.manifold) (ht : t.trains = s.trains) (hp : t.plant = s.plant) (hn : t.now = s.now)
    (i : Fin 8) (u : State) : t.departed i u = s.departed i u := by
  unfold State.departed State.train
  rw [hm, ht, hp, hn]

theorem State.deadbandExpired_changing {s : State} (h : s.manifold.state = .changeover) :
    s.deadbandExpired = s.manifoldTo ⟨.idle, none, none⟩ := if_pos h

theorem State.travelExpired_moving {s : State} {c : Fin 4} (h : (s.cavern c).valve = .opening ∨ (s.cavern c).valve = .closing) :
    s.travelExpired c = (s.setCavern c { s.cavern c with valve := .fault, timer := none }).notify .valveTimeout (.cavern c)
      [.fig c.val, .code (s.cavern c).valve.num] := by
  rw [State.travelExpired, if_pos h]
  rfl

end Sys2Proof.Machine

open Sys2Proof Sys2Proof.Machine

/-- Settles O59: each timer's expiry, where it can be next, by what its block does. -/
theorem blockTimersExpire : Obligations.BlockTimersExpire := by
  intro s d hh hn u
  refine ⟨fun c hc => ⟨fun none => ?_, fun quality => ?fresh⟩, fun hg => ⟨fun off => ?_, fun on runs => ?fallback⟩, fun c hc moving => ?_,
    fun hm changing => ?_, fun i hi => ?sequence⟩
  · refine (exec_freshness hh hn hc).trans (congrArg Host.Outcome.next ?_)
    refine State.freshnessExpired_quiet (s := u) (c := c) ?_
    rw [show (u.chan c).quality = Quality.none from none]
    rfl
  case fresh =>
    have quiet : (s.chan c).quality.triggers = true := by rcases quality with q | q | q <;> rw [q] <;> rfl
    have run := exec_freshness hh hn hc
    by_cases shown : (s.chan c).p.substFlag = true ∨ (s.chan c).present = false
    · have same : u.freshnessExpired c = u.setChan c (s.chan c).expired := State.freshnessExpired_shown (s := u) quiet shown
      rw [same] at run
      have hidden : ¬ ((s.chan c).present = true ∧ (s.chan c).p.substFlag = false) := fun ⟨p, r⟩ =>
        shown.elim (fun e => Bool.false_ne_true (r.symm.trans e)) fun e => Bool.false_ne_true (e.symm.trans p)
      refine ⟨_, run, State.chan_setChan_same _ _ _, fun e he => ?_, rfl, rfl, rfl, rfl, rfl, rfl, rfl, rfl, rfl, ⟨rfl, rfl, rfl, rfl, rfl⟩,
        fun _ => rfl, fun n => ⟨fun _ => rfl, fun _ _ p r _ => absurd ⟨p, r⟩ hidden⟩, fun m => ⟨fun _ => rfl, fun named => absurd ⟨named.1, named.2.1⟩ hidden⟩⟩
      exact (State.chan_setChan u c e _).trans (if_neg he)
    · obtain ⟨raw, present⟩ := not_or.mp shown
      rw [Bool.not_eq_true] at raw
      rw [Bool.not_eq_false] at present
      have stale : u.freshnessExpired c = ((u.setChan c (s.chan c).expired).deliverQuality c.val).gridStale c.val (s.chan c).last :=
        State.freshnessExpired_stale (s := u) quiet raw present
      rw [stale] at run
      have delivered := ((u.setChan c (s.chan c).expired).deliverQuality_keeps c.val).agree
      have supervised := (State.gridStale_keeps ((u.setChan c (s.chan c).expired).deliverQuality c.val) c.val (s.chan c).last).agree
      have kept := (delivered.mono (B := [.caverns, .stores, .grid]) (by decide)).trans (supervised.mono (by decide))
      have chans := kept .chans (by decide)
      have chan (e : Fin 96) : State.chan _ e = _ := congrArg (fun v : Vector Channel 96 => v.get e) chans
      refine ⟨_, run, (chan c).trans (State.chan_setChan_same _ _ _), fun e he => (chan e).trans ((State.chan_setChan u c e _).trans (if_neg he)),
        kept .plant (by decide), kept .trains (by decide), kept .clock (by decide), kept .sched (by decide), kept .mode (by decide),
        kept .disp (by decide), kept .conv (by decide), kept .manifold (by decide), kept .mgr (by decide),
        ⟨kept .pending (by decide), kept .held (by decide), kept .node (by decide), kept .now (by decide), kept .commit (by decide)⟩,
        fun hidden => ?_, fun n => ?_, fun m => ?_⟩
      · exact absurd (hidden.symm : _ ∨ _) shown
      · have cavern := supervised.cavern (by decide) n
        obtain ⟨others, named⟩ := State.deliverExpired_cavern (s := u) (c := c) present raw n
        refine ⟨fun un => cavern.trans (others un), fun p e _ _ kind => ?_⟩
        obtain ⟨free, room⟩ := named p e kind
        exact ⟨by rw [cavern]; exact free, fun few => cavern.trans (room few)⟩
      · have store := supervised.store (by decide) m
        obtain ⟨others, named⟩ := State.deliverExpired_store (s := u) (c := c) present raw m
        exact ⟨fun un => store.trans (others fun h => un ⟨present, raw, h.1, h.2⟩), fun h => store.trans (named ⟨h.2.2.1, h.2.2.2⟩)⟩
  · refine (exec_expiry (t := .fallback) hh hn hg).trans (congrArg Host.Outcome.next (State.trigger_ignored ?_ _ _))
    rw [← Bool.not_eq_true, State.performs_iff]
    exact fun ⟨on, runs⟩ => off.elim on fun e => runs ((s.passTo_state d).trans e)
  case fallback =>
    have performs : State.performs { u with grid := { s.grid with timer := some (u.now + s.plant.fallbackPeriod) } } = true :=
      (State.performs_iff _).mpr ⟨on, fun e => runs ((s.passTo_state d).symm.trans e)⟩
    have run : exec .fallbackExpiry s = .next (State.trigger { u with grid := { s.grid with timer := some (u.now + s.plant.fallbackPeriod) } }
      .fallback u.fallbackDeviation) := exec_expiry (t := .fallback) hh hn hg
    have triggered := State.trigger_performed performs .fallback u.fallbackDeviation
    generalize hv : ({ u with grid := { s.grid with timer := some (u.now + s.plant.fallbackPeriod) } } : State) = v at run triggered
    obtain ⟨last, counted, target, swap, grid, kept⟩ := State.trigger_computed triggered
    obtain ⟨other, unknown, manual⟩ := State.trigger_commits triggered
    obtain ⟨trigger, fDev, count⟩ := v.recordOf_trigger .fallback u.fallbackDeviation
    obtain ⟨req, trim, sched⟩ := v.recordOf_request .fallback u.fallbackDeviation
    have plantMs := v.recordOf_plantMs .fallback u.fallbackDeviation
    generalize v.trigger .fallback u.fallbackDeviation = t at run triggered last counted target swap grid kept other unknown manual
    generalize v.compute .fallback u.fallbackDeviation = w at triggered unknown
    generalize v.recordOf .fallback u.fallbackDeviation = r at triggered last target trigger fDev count req trim sched plantMs
    subst hv
    refine ⟨t, r, run, last, trigger, count, counted, ?_, ?_, target, swap, req, trim, sched, plantMs,
      kept .sched (by decide), kept .chans (by decide), kept .plant (by decide), kept .mode (by decide),
      kept .clock (by decide), triggered, fDev, other, unknown, manual⟩
    · rw [grid]
    · rw [grid]
  · exact (exec_expiry (t := .travel c) hh hn hc).trans (congrArg Host.Outcome.next (State.travelExpired_moving (s := u) moving))
  · exact (exec_expiry (t := .deadband) hh hn hm).trans (congrArg Host.Outcome.next (State.deadbandExpired_changing (s := u) changing))
  case sequence =>
    intro x
    have run : exec (.sequenceTimerExpiry i) s = .next (u.sequenceExpired i) := exec_expiry (t := .sequence i) hh hn hi
    refine ⟨fun full o pair => ?_, fun few => ?_⟩
    · have queue : u.orderRoom = false := u.orderRoom_eq_false_iff.mpr full
      refine run.trans (congrArg Host.Outcome.next ?_)
      rcases pair with ⟨st, rfl⟩ | ⟨st, rfl⟩ | ⟨st, rfl⟩ | ⟨st, rfl⟩ <;>
        exact State.sequenceExpired_full (s := u) (show x.state.fallback = _ by rw [st]; rfl) queue
    · have room : u.orderRoom = true := u.orderRoom_iff.mpr few
      have expired {o : Order} {new : TrainState} {name : NoticeName} (h : x.state.fallback = some (o, new, name)) :
          exec (.sequenceTimerExpiry i) s = .next (((u.place x.p.node o 0).changeTrain i new 0 .timeout).notify name (.train i)
            [.fig i.val, .code x.state.num]) := run.trans (congrArg Host.Outcome.next (State.sequenceExpired_room (s := u) h room))
      have placed (o : Order) := (u.place_own room x.p.node o 0).agree
      have train (o : Order) : (u.place x.p.node o 0).train i = x := (placed o).train (by decide) i
      have trains (o : Order) : (u.place x.p.node o 0).trains = s.trains := placed o .trains (by decide)
      have conv (o : Order) : (u.place x.p.node o 0).conv = s.conv := placed o .conv (by decide)
      have plant (o : Order) : (u.place x.p.node o 0).plant = s.plant := placed o .plant (by decide)
      have now (o : Order) : (u.place x.p.node o 0).now = u.now := placed o .now (by decide)
      have manifold (o : Order) : (u.place x.p.node o 0).manifold = s.manifold := placed o .manifold (by decide)
      refine ⟨fun st busy cooldown => ?_, fun st busy cooldown _ => ?_, fun st e kind flow => ?_, fun st => ?_, fun st => ?_, fun st => ?_⟩
      · rw [expired (show x.state.fallback = _ by rw [st]; rfl),
          State.timeout_starting_cooling (train _) st (by rw [conv]; exact busy) (by rw [plant]; exact cooldown), conv, plant, now,
          State.became_from st, st]
        rfl
      · have free := expired (show x.state.fallback = _ by rw [st]; rfl)
        rw [State.timeout_starting_free (train _) st (by rw [conv]; exact busy) (by rw [plant]; exact cooldown), conv, now,
          State.became_from st, st] at free
        refine ⟨free, fun queue => free.trans ?_⟩
        rw [State.serve_idle (.inr ?_)]
        · rfl
        · exact (congrArg Converter.queue ((State.notify_own _ _ _ _).agree .conv (by decide))).trans queue
      · have same := State.became_same st (conv .trip) i (x.timedOut u.now) .timeout
        rw [Train.timedOut_eq st] at same
        have left := expired (show x.state.fallback = _ by rw [st]; rfl)
        rw [State.timeout_unloading (train _) st, conv, now, State.flowEnded_flowing rfl ((congrArg Manifold.state (manifold _)).trans flow),
          Train.timedOut_eq st, same, st] at left
        have others : (∃ j, j ≠ i ∧ ((u.place x.p.node .trip 0).train j).flowing = true ∧ ((u.place x.p.node .trip 0).train j).p.kind = e.kind) ↔
            ¬ ∀ j, j ≠ i → (s.train j).flowing = true → (s.train j).p.kind ≠ x.p.kind := by
          simp only [State.train, trains, kind, not_forall, exists_prop, not_not]
        refine ⟨fun more => ?_, fun alone => ?_⟩
        · rwa [if_pos (others.mpr more)] at left
        · rwa [if_neg (mt others.mp (not_not.mpr alone))] at left
      · have same := State.became_same st (conv .trip) i (x.timedOut u.now) .timeout
        rw [Train.timedOut_eq st] at same
        rw [expired (show x.state.fallback = _ by rw [st]; rfl), State.timeout_unloading (train _) st, conv, now, State.flowEnded_departed rfl,
          State.departed_congr (s := u) (manifold _) (trains _) (plant _) (now _), Train.timedOut_eq st, same, st]
        rfl
      · rw [expired (show x.state.fallback = _ by rw [st]; rfl), State.timeout_stopping (train _) st, conv, now,
          State.became_same st (conv _), Train.timedOut_eq st, st]
        rfl
      · rw [expired (show x.state.fallback = _ by rw [st]; rfl), State.timeout_loading (train _) st, conv, now,
          State.became_same st (conv _), st]
        rfl

end
section
/-!
PROOFS. The events of the plant time (R98, R103, R109 to R111).
-/

namespace Sys2Proof.Machine

/-- The schedule is replaced beside the frames. -/
theorem Aside.withSched (x : Schedule) : Aside fun s => { s with sched := x } :=
  ⟨⟨fun _ _ _ => rfl, fun _ => rfl, fun _ => rfl⟩, fun _ => rfl, fun _ => rfl, fun _ => rfl, fun _ => rfl, fun _ x => by cases x <;> rfl⟩

/-! ## The checks at a boundary -/

/-- The checks of a boundary, in the order of log 41. -/
def State.foreseen (s : State) (k : Nat) (net : Int) : State := (s.airCheck k net).heatCheck k net

/-- A choice beside the schedule. -/
theorem ite_sched {P : Prop} [Decidable P] {x : Schedule} {a b a' b' : State} (ha : a = { a' with sched := x }) (hb : b = { b' with sched := x }) :
    (if P then a else b) = ({ (if P then a' else b') with sched := x } : State) := by
  rw [apply_ite (fun u : State => ({ u with sched := x } : State)), ha, hb]

theorem State.airCheckOne_sched (k : Nat) (net e : Int) (n : Nat) (s : State) (c : Fin 4) (x : Schedule) :
    State.airCheckOne k net e n { s with sched := x } c = { State.airCheckOne k net e n s c with sched := x } :=
  ite_sched rfl (ite_sched ((Aside.withSched x).notify s _ _ _) (ite_sched ((Aside.withSched x).notify s _ _ _) rfl))

theorem State.airCheck_sched (s : State) (k : Nat) (net : Int) (x : Schedule) :
    State.airCheck { s with sched := x } k net = { s.airCheck k net with sched := x } := by
  have all (e : Int) (n : Nat) (l : List (Fin 4)) (u : State) : l.foldl (State.airCheckOne k net e n) { u with sched := x } =
      { l.foldl (State.airCheckOne k net e n) u with sched := x } := by
    induction l generalizing u with
    | nil => rfl
    | cons c l ih => rw [List.foldl_cons, State.airCheckOne_sched, ih, List.foldl_cons]
  exact ite_sched rfl (ite_sched ((Aside.withSched x).notify s _ _ _) (all _ _ _ s))

theorem State.heatCheck_sched (s : State) (k : Nat) (net : Int) (x : Schedule) :
    State.heatCheck { s with sched := x } k net = { s.heatCheck k net with sched := x } :=
  ite_sched ((Aside.withSched x).notify s _ _ _) rfl

theorem State.foreseen_sched (s : State) (k : Nat) (net : Int) (x : Schedule) :
    State.foreseen { s with sched := x } k net = { s.foreseen k net with sched := x } := by
  rw [State.foreseen, State.airCheck_sched, State.heatCheck_sched, State.foreseen]

/-- The checks raise notices alone. -/
theorem State.foreseen_reportsOnly {s : State} (sound : s.portSound) (k : Nat) (net : Int) :
    ReportsOnly s (s.foreseen k net) ∧ (s.foreseen k net).portSound := by
  have one (e : Int) (n : Nat) {u : State} (h : ReportsOnly s u ∧ u.portSound) (c : Fin 4) :
      ReportsOnly s (State.airCheckOne k net e n u c) ∧ (State.airCheckOne k net e n u c).portSound := by
    have told (m : NoticeName) (x : SourceRecord) (l : List Item) : ReportsOnly s (u.notify m x l) ∧ (u.notify m x l).portSound :=
      ⟨h.1.trans (State.notify_reportsOnly h.2 m x l).1, (State.notify_reportsOnly h.2 m x l).2⟩
    unfold State.airCheckOne
    dsimp only
    split
    · exact h
    · split
      · exact told _ _ _
      · split
        · exact told _ _ _
        · exact h
  have start : ReportsOnly s s ∧ s.portSound := ⟨ReportsOnly.refl s, sound⟩
  have all (e : Int) (n : Nat) (l : List (Fin 4)) {u : State} (h : ReportsOnly s u ∧ u.portSound) :
      ReportsOnly s (l.foldl (State.airCheckOne k net e n) u) ∧ (l.foldl (State.airCheckOne k net e n) u).portSound := by
    induction l generalizing u with
    | nil => exact h
    | cons c l ih => exact ih (one e n h c)
  have air : ReportsOnly s (s.airCheck k net) ∧ (s.airCheck k net).portSound := by
    unfold State.airCheck
    dsimp only
    split
    · exact start
    · split
      · exact State.notify_reportsOnly sound _ _ _
      · exact all _ _ _ start
  rw [State.foreseen, State.heatCheck]
  split
  · exact ⟨air.1.trans (State.notify_reportsOnly air.2 _ _ _).1, (State.notify_reportsOnly air.2 _ _ _).2⟩
  · exact air

/-! ## The boundary -/

/-- The entry that becomes active for an interval: the stored one or the fallback (R103). -/
def State.entryFor (s : State) (k : Nat) : Entry := (s.sched.stored k).getD (s.fallbackEntry k)

/-- The notice of a fallback. -/
def State.gapTold (s : State) (k : Nat) : State :=
  if s.sched.stored k = none then s.notify .scheduleGap .none [.fig k, .fig s.plant.fallbackNet, .fig s.plant.fallbackRes] else s

/-- The schedule once an interval's entry is active. -/
def State.activated (s : State) (k : Nat) (ending : Option (Entry × Nat)) : Schedule :=
  { table := s.sched.table.filter fun e => e.interval != k, active := s.entryFor k, ending := ending, trim := 0 }

theorem State.table_unstored {s : State} {k : Nat} (h : s.sched.stored k = none) : (s.sched.table.filter fun e => e.interval != k) = s.sched.table := by
  refine List.filter_eq_self.mpr fun e he => ?_
  have := List.find?_eq_none.mp h e he
  simpa using this

/-- The entry becomes active, the notice beside it. -/
theorem State.activate_eq (s : State) (k : Nat) : ∃ g, s.activate k = { s.gapTold k with sched := g } ∧
    { g with trim := 0 } = s.activated k s.sched.ending := by
  cases h : s.sched.stored k with
  | some e =>
    refine ⟨{ s.sched with active := e, table := s.sched.table.filter fun x => x.interval != k }, ?_, ?_⟩
    · rw [State.gapTold, h, if_neg nofun, State.activate, h]
    · rw [State.activated, State.entryFor, h]
      rfl
  | none =>
    refine ⟨{ s.sched with active := s.fallbackEntry k }, ?_, ?_⟩
    · rw [State.gapTold, if_pos h, State.activate, h]
      exact (Aside.withSched { s.sched with active := s.fallbackEntry k }).notify s _ _ _
    · rw [State.activated, State.entryFor, h, State.table_unstored h]
      rfl

/-- A boundary event (R109), its schedule beside its notices. -/
theorem State.takeBoundary_eq (s : State) (k : Nat) : s.takeBoundary k = { (s.gapTold k).foreseen k (s.entryFor k).net with
    sched := s.activated k (some (s.sched.active, (k * s.plant.interval + s.plant.rampHalf) * 1000)) } := by
  obtain ⟨g, active, reset⟩ := State.activate_eq
    { s with sched := { s.sched with ending := some (s.sched.active, (k * s.plant.interval + s.plant.rampHalf) * 1000) } } k
  have told : State.gapTold
      { s with sched := { s.sched with ending := some (s.sched.active, (k * s.plant.interval + s.plant.rampHalf) * 1000) } } k =
      { s.gapTold k with sched := { s.sched with ending := some (s.sched.active, (k * s.plant.interval + s.plant.rampHalf) * 1000) } } :=
    ite_sched ((Aside.withSched _).notify s _ _ _) rfl
  have entry : g.active = s.entryFor k := congrArg Schedule.active reset
  rw [State.takeBoundary]
  dsimp only
  rw [active]
  dsimp only
  rw [reset, told, entry]
  exact State.foreseen_sched (s.gapTold k) k (s.entryFor k).net _

/-- An ending entry whose end has been reached is discarded. -/
theorem State.judgeRamp_ended {s : State} {x : Entry × Nat} (h : s.sched.ending = some x) (runs : s.clock.state ≠ .invalid)
    (reached : x.2 ≤ s.clock.plantMs) : s.judgeRamp = { s with sched := { s.sched with ending := none } } := by
  simp only [State.judgeRamp, h]
  exact if_pos ⟨bne_iff_ne.mpr runs, reached⟩

theorem State.judgeRamp_ramping {s : State} {x : Entry × Nat} (h : s.sched.ending = some x) (ahead : s.clock.plantMs < x.2) : s.judgeRamp = s := by
  simp only [State.judgeRamp, h]
  exact if_neg fun e => Nat.not_le.mpr ahead e.2

/-- The end of ramp with H of 0 comes with the boundary. -/
theorem State.boundary_eq {s : State} (runs : s.clock.state ≠ .invalid) (h : s.clock.plantMs = s.interval * s.plant.interval * 1000) :
    s.boundary = { (s.gapTold s.interval).foreseen s.interval (s.entryFor s.interval).net with
      sched := s.activated s.interval (if s.plant.rampHalf = 0 then none
        else some (s.sched.active, (s.interval * s.plant.interval + s.plant.rampHalf) * 1000)) } := by
  have clock : (s.takeBoundary s.interval).clock = s.clock := (s.takeBoundary_keeps s.interval).agree .clock (by decide)
  have ending : (s.takeBoundary s.interval).sched.ending =
      some (s.sched.active, (s.interval * s.plant.interval + s.plant.rampHalf) * 1000) := by
    rw [State.takeBoundary_eq]
    rfl
  rw [State.boundary]
  by_cases zero : s.plant.rampHalf = 0
  · rw [State.judgeRamp_ended ending (by rw [clock]; exact runs) (by rw [clock, h, zero]; exact le_refl _), State.takeBoundary_eq, if_pos zero]
    rfl
  · have ahead : s.interval * s.plant.interval * 1000 < (s.interval * s.plant.interval + s.plant.rampHalf) * 1000 := by omega
    rw [State.judgeRamp_ramping ending (by rw [clock, h]; exact ahead), State.takeBoundary_eq, if_neg zero]

/-- Time passes to an instant of the plant time. -/
theorem State.passTo_instant {s : State} {ms d : Nat} (h : s.instantOf ms = some d) :
    s.clock.state ≠ .invalid ∧ (s.passTo d).clock.plantMs = ms := by
  obtain ⟨runs, lo, hi, rfl⟩ := State.instantOf_eq_some.mp h
  refine ⟨runs, ?_⟩
  rw [State.passTo_plantMs runs (by omega)]
  omega

end Sys2Proof.Machine

open Sys2Proof Sys2Proof.Machine

/-- Settles O55: the boundary by its schedule beside its notices, the end of ramp and the limit by the instant reached. -/
theorem plantTimeEvents : Obligations.PlantTimeEvents := by
  intro s d hh u k stored active v w
  refine ⟨fun hb hn => ?_, fun hr hn => ?_, fun hl hn => ?_, fun none => ?_, fun none => ?_, fun none => ?_⟩
  · obtain ⟨runs, ms⟩ := State.passTo_instant (show s.instantOf _ = some d from hb)
    have next : k = s.interval + 1 := (State.passTo_boundary hb).2
    have at' : u.clock.plantMs = k * s.plant.interval * 1000 := by rw [next]; exact ms
    have run : exec .boundaryEvent s = .next u.boundary :=
      congrArg Host.Outcome.next (show s.plantEvent s.boundaryAt [] [s.rampEndAt] State.boundary = _ by rw [hb, State.plantEvent_next hh hn])
    have told : w = { u.gapTold k with sched := v.sched } := by
      unfold State.gapTold
      exact ite_sched ((Aside.withSched v.sched).notify u _ _ _) rfl
    have bound : u.boundary = w.foreseen k active.net := by
      rw [State.boundary_eq (by rw [State.passTo_state]; exact runs) at', told]
      exact (State.foreseen_sched (u.gapTold k) k active.net v.sched).symm
    refine ⟨run.trans (congrArg Host.Outcome.next bound), fun sound => ?_, next, at'⟩
    have alone : ReportsOnly v w ∧ w.portSound := by
      by_cases gap : stored = none
      · rw [show w = v.notify _ _ _ from if_pos gap]
        exact State.notify_reportsOnly (s := v) sound _ _ _
      · rw [show w = v from if_neg gap]
        exact ⟨ReportsOnly.refl v, sound⟩
    exact alone.1.trans (State.foreseen_reportsOnly alone.2 k active.net).1
  · obtain ⟨x, ending, at'⟩ := Option.bind_eq_some_iff.mp hr
    obtain ⟨runs, ms⟩ := State.passTo_instant at'
    have ended := State.judgeRamp_ended (s := u) (x := x) ending (by rw [State.passTo_state]; exact runs) ms.ge
    exact congrArg Host.Outcome.next
      (show s.plantEvent s.rampEndAt [s.boundaryAt] [] State.judgeRamp = _ by rw [hr, State.plantEvent_next hh hn]; exact ended)
  · exact ⟨congrArg Host.Outcome.next (show s.plantEvent s.limitAt [s.boundaryAt, s.rampEndAt] [] id = _ by rw [hl, State.plantEvent_next hh hn]; rfl),
      (State.passTo_instant (show s.instantOf _ = some d from hl)).2⟩
  · exact congrArg Host.Outcome.next (show s.plantEvent s.boundaryAt [] [s.rampEndAt] State.boundary = _ by rw [none]; rfl)
  · exact congrArg Host.Outcome.next (show s.plantEvent s.rampEndAt [s.boundaryAt] [] State.judgeRamp = _ by rw [none]; rfl)
  · exact congrArg Host.Outcome.next (show s.plantEvent s.limitAt [s.boundaryAt, s.rampEndAt] [] id = _ by rw [none]; rfl)

end
section
/-!
PROOFS. The time marks (R98 to R101).
-/

namespace Sys2Proof.Machine

/-! ## The steps of a mark -/

/-- A TIME mark the part accepts, its own or broadcast. -/
theorem exec_time {s : State} {snd : Sender} (h : s.mayCommand snd.src) (all : Bool) (a b c d m1 m0 : Byte) {rest : List Byte}
    (hl : rest.length ≤ 238) :
    let f := sentTo (if all then 255 else s.node) snd kTime (a :: b :: c :: d :: m1 :: m0 :: rest)
    let r := s.heard.timeTaken (word32 a b c d).toNat (word16 m1 m0).toNat
    exec (.time all snd (a :: b :: c :: d :: m1 :: m0 :: rest)) s = .next (r.2.answer f [r.1] []) := by
  intro f r
  have fits : (a :: b :: c :: d :: m1 :: m0 :: rest).length ≤ 244 := by simp only [List.length_cons]; omega
  have dest : f.dest = s.node ∨ (f.dest = 255 ∧ f.kind = kTime) := by
    cases all
    · exact .inl rfl
    · exact .inr ⟨rfl, rfl⟩
  exact congrArg Host.Outcome.next (s.receiveSome_management 256 (f := f) h fits dest rfl)

theorem State.timeTaken_first {s : State} {sec milli : Nat} (hm : milli ≤ 999) (h : s.clock.state = .invalid) :
    s.timeTaken sec milli = (.done, s.firstMark (sec * 1000 + milli)) := by
  rw [State.timeTaken, if_neg (Nat.not_lt.mpr hm), if_pos h]

theorem State.timeTaken_back {s : State} {sec milli : Nat} (hm : milli ≤ 999) (h : s.clock.state ≠ .invalid)
    (back : sec * 1000 + milli < s.interval * s.plant.interval * 1000) : s.timeTaken sec milli = (.timeBack, s.marked) := by
  rw [State.timeTaken, if_neg (Nat.not_lt.mpr hm), if_neg h, if_pos back]

theorem State.timeTaken_step {s : State} {sec milli : Nat} (hm : milli ≤ 999) (h : s.clock.state ≠ .invalid)
    (on : s.interval * s.plant.interval * 1000 ≤ sec * 1000 + milli) :
    s.timeTaken sec milli = (.done, (s.stepClock (sec * 1000 + milli)).marked) := by
  rw [State.timeTaken, if_neg (Nat.not_lt.mpr hm), if_neg h, if_neg (Nat.not_lt.mpr on)]

theorem State.marked_valid {s : State} (h : s.clock.state = .valid) :
    s.marked = { s with clock := { s.clock with mark := some (s.now + s.plant.markTimeout * 1000) } } := by
  rw [State.marked, if_neg (by rw [h]; nofun)]
  rfl

/-- The end of a hold cause leaves the other flags of the record. -/
theorem State.causeClock_ended (s : State) : (s.causeClock false).mode.unsynced = false := by
  unfold State.causeClock
  split
  case isTrue h => exact h
  case isFalse =>
    unfold State.answerCauses
    split
    · rw [State.setMode_mode]
    · split
      · rw [State.setMode_mode]
      · rfl

/-- A mark makes an UNSYNCED clock VALID and restarts its timer. -/
theorem State.marked_unsynced {s : State} (h : s.clock.state = .unsynced) :
    s.marked.clock = { s.clock with state := .valid, mark := some (s.now + s.plant.markTimeout * 1000) } ∧ s.marked.sched = s.sched ∧
      s.marked.mode.unsynced = false := by
  have told := State.clockTold_agree s { s.clock with state := .valid, mark := some (s.now + s.plant.markTimeout * 1000) } false .clockSynced []
  have marked : s.marked = (State.notify { s with clock := { s.clock with state := .valid, mark := some (s.now + s.plant.markTimeout * 1000) } }
      .clockSynced .none []).causeClock false := by
    rw [State.marked, if_pos h]
    rfl
  rw [marked]
  exact ⟨told.1, told.2.1, State.causeClock_ended _⟩

/-- The ending entry is judged against the plant time. -/
theorem State.judgeRamp_eq {s : State} (runs : s.clock.state ≠ .invalid) : s.judgeRamp = { s with sched := { s.sched with
    ending := s.sched.ending.filter fun x => decide (s.clock.plantMs < x.2) } } := by
  have same {g : Option (Entry × Nat)} (h : s.sched.ending = g) : s = { s with sched := { s.sched with ending := g } } := by rw [← h]
  cases h : s.sched.ending with
  | none =>
    rw [Option.filter_none, ← same h]
    simp only [State.judgeRamp, h]
  | some x =>
    by_cases ahead : s.clock.plantMs < x.2
    · rw [State.judgeRamp_ramping h ahead, Option.filter_some_pos (p := fun x : Entry × Nat => decide (s.clock.plantMs < x.2)) (decide_eq_true ahead), ← same h]
    · rw [State.judgeRamp_ended h runs (Nat.not_lt.mp ahead), Option.filter_some_neg (p := fun x : Entry × Nat => decide (s.clock.plantMs < x.2)) (decide_eq_false ahead)]

/-! ## The first mark -/

theorem Schedule.stored_filter {x : Schedule} {k : Nat} {p : Entry → Bool} (h : ∀ e : Entry, e.interval = k → p e = true) :
    Schedule.stored { x with table := x.table.filter p } k = x.stored k := by
  unfold Schedule.stored
  rw [List.find?_filter]
  congr 1
  funext e
  by_cases he : e.interval = k
  · simp [he, h e he]
  · simp [he]

/-- The notice of a fallback is all that comes beside it. -/
theorem State.gapTold_reportsOnly {s : State} (sound : s.portSound) (k : Nat) : ReportsOnly s (s.gapTold k) ∧ (s.gapTold k).portSound := by
  unfold State.gapTold
  split
  · exact State.notify_reportsOnly sound _ _ _
  · exact ⟨ReportsOnly.refl s, sound⟩

/-- The first mark sets the clock and the schedule, with its notices beside them. -/
theorem State.firstMark_sets {s : State} (sound : s.portSound) (ms : Nat) :
    let k := ms / 1000 / s.plant.interval
    ReportsOnly { s with clock := ⟨.valid, ms, some (s.now + s.plant.markTimeout * 1000)⟩, sched :=
      { table := (s.sched.table.filter fun e => decide (k ≤ e.interval)).filter fun e => e.interval != k
        active := s.entryFor k, ending := none, trim := 0 } } (s.firstMark ms) := by
  intro k
  let v : State := { s with clock := ⟨.valid, ms, some (s.now + s.plant.markTimeout * 1000)⟩, sched :=
    { s.sched with table := s.sched.table.filter fun e => decide (k ≤ e.interval) } }
  obtain ⟨g, active, reset⟩ := v.activate_eq k
  have told := State.gapTold_reportsOnly (s := v) sound k
  have shape : s.firstMark ms = State.notify { v.gapTold k with sched := { g with ending := none, trim := 0 } } .clockSet .none
      [.fig (ms / 1000 : Nat), .fig (ms % 1000 : Nat), .fig k] := by
    change State.notify { v.activate k with sched := { (v.activate k).sched with ending := none, trim := 0 } } _ _ _ = _
    rw [active]
    rfl
  have entry : v.entryFor k = s.entryFor k := by
    rw [State.entryFor, State.entryFor, show v.sched.stored k = s.sched.stored k from Schedule.stored_filter fun e he => decide_eq_true he.ge]
    rfl
  have set : ({ g with ending := none, trim := 0 } : Schedule) = 
      { table := (s.sched.table.filter fun e => decide (k ≤ e.interval)).filter fun e => e.interval != k
        active := s.entryFor k, ending := none, trim := 0 } := by
    rw [← entry]
    exact congrArg (fun x : Schedule => { x with ending := none }) reset
  rw [shape, set]
  generalize ({ table := _, active := s.entryFor k, ending := none, trim := 0 } : Schedule) = x
  exact (told.1.map (Aside.withSched _).toSilent).trans (State.notify_reportsOnly (s := { v.gapTold k with sched := x }) told.2 _ _ _).1

/-! ## The boundaries of a mark -/

/-- A boundary sets the schedule, with its notices beside it. -/
theorem State.takeBoundary_sets {s : State} (sound : s.portSound) (k : Nat) : 
    ReportsOnly { s with sched := s.activated k (some (s.sched.active, (k * s.plant.interval + s.plant.rampHalf) * 1000)) }
      (s.takeBoundary k) ∧ (s.takeBoundary k).portSound := by
  have gap := State.gapTold_reportsOnly sound k
  have told := State.foreseen_reportsOnly gap.2 k (s.entryFor k).net
  rw [State.takeBoundary_eq]
  exact ⟨(gap.1.trans told.1).map (Aside.withSched _).toSilent, told.2⟩

/-- The schedule after the boundaries of several intervals. -/
theorem State.takeBoundaries_sets {s : State} (sound : s.portSound) (n j : Nat) : ∃ e, ReportsOnly { s with sched :=
    { table := s.sched.table.filter fun e => decide (e.interval < j ∨ j + n < e.interval), active := s.entryFor (j + n)
      ending := some (e, ((j + n) * s.plant.interval + s.plant.rampHalf) * 1000), trim := 0 } } (State.takeBoundaries (n + 1) j s) := by
  induction n generalizing j s with
  | zero =>
    have table : (s.sched.table.filter fun e => decide (e.interval < j ∨ j + 0 < e.interval)) = s.sched.table.filter fun e => e.interval != j := by
      refine List.filter_congr fun e _ => ?_
      rw [Bool.eq_iff_iff, decide_eq_true_iff, bne_iff_ne]
      omega
    rw [table]
    exact ⟨s.sched.active, (State.takeBoundary_sets sound j).1⟩
  | succ n ih =>
    obtain ⟨told, sound'⟩ := State.takeBoundary_sets sound j
    obtain ⟨e, rest⟩ := ih sound' (j + 1)
    have sched : (s.takeBoundary j).sched = s.activated j (some (s.sched.active, (j * s.plant.interval + s.plant.rampHalf) * 1000)) := by
      rw [State.takeBoundary_eq]
    have plant : (s.takeBoundary j).plant = s.plant := (s.takeBoundary_keeps j).agree .plant (by decide)
    have table : ((s.takeBoundary j).sched.table.filter fun e => decide (e.interval < j + 1 ∨ j + 1 + n < e.interval)) =
        s.sched.table.filter fun e => decide (e.interval < j ∨ j + (n + 1) < e.interval) := by
      rw [sched, State.activated, List.filter_filter]
      refine List.filter_congr fun e _ => ?_
      rw [Bool.eq_iff_iff, Bool.and_eq_true, decide_eq_true_iff, decide_eq_true_iff, bne_iff_ne]
      omega
    have entry : (s.takeBoundary j).entryFor (j + 1 + n) = s.entryFor (j + (n + 1)) := by
      have stored : (s.takeBoundary j).sched.stored (j + 1 + n) = s.sched.stored (j + 1 + n) := by
        rw [sched]
        exact Schedule.stored_filter (x := s.sched) fun e he => by rw [bne_iff_ne]; omega
      rw [State.entryFor, State.entryFor, stored, State.fallbackEntry, plant, Nat.add_right_comm j 1 n]
      rfl
    have ends : ((j + 1 + n) * (s.takeBoundary j).plant.interval + (s.takeBoundary j).plant.rampHalf) * 1000 =
        ((j + (n + 1)) * s.plant.interval + s.plant.rampHalf) * 1000 := by rw [plant, Nat.add_right_comm j 1 n]; rfl
    rw [table, entry, ends] at rest
    exact ⟨e, (told.map (Aside.withSched _).toSilent).trans rest⟩

/-! ## A step of the clock -/

theorem State.stepClock_clock (s : State) (ms : Nat) : (s.stepClock ms).clock = { s.clock with plantMs := ms } := by
  rw [State.stepClock]
  exact ((State.judgeRamp_keeps _).agree .clock (by decide)).trans ((State.takeBoundaries_keeps _ _ _).agree .clock (by decide))

/-- A step within the interval judges the end of ramp alone. -/
theorem State.stepClock_within {s : State} {ms : Nat} (runs : s.clock.state ≠ .invalid) (h : ms / 1000 / s.plant.interval = s.interval) :
    s.stepClock ms = { s with clock := { s.clock with plantMs := ms }, sched := { s.sched with
      ending := s.sched.ending.filter fun x => decide (ms < x.2) } } := by
  have none : State.interval { s with clock := { s.clock with plantMs := ms } } - s.interval = 0 :=
    (congrArg (· - s.interval) h).trans (Nat.sub_self _)
  rw [State.stepClock]
  dsimp only
  rw [none]
  exact State.judgeRamp_eq (s := { s with clock := { s.clock with plantMs := ms } }) runs

/-- A step beyond the interval takes every boundary up to it. -/
theorem State.stepClock_beyond {s : State} {ms : Nat} (sound : s.portSound) (runs : s.clock.state ≠ .invalid)
    (h : s.interval < ms / 1000 / s.plant.interval) :
    let k := ms / 1000 / s.plant.interval
    ∃ e, ReportsOnly { s with clock := { s.clock with plantMs := ms }, sched :=
      { table := s.sched.table.filter fun e => decide (e.interval < s.interval + 1 ∨ k < e.interval), active := s.entryFor k
        ending := (some (e, (k * s.plant.interval + s.plant.rampHalf) * 1000)).filter fun x => decide (ms < x.2), trim := 0 } }
      (s.stepClock ms) := by
  intro k
  obtain ⟨n, hn⟩ : ∃ n, k = s.interval + 1 + n := ⟨k - (s.interval + 1), by omega⟩
  obtain ⟨e, told⟩ := State.takeBoundaries_sets (s := { s with clock := { s.clock with plantMs := ms } }) sound n (s.interval + 1)
  have count : State.interval { s with clock := { s.clock with plantMs := ms } } - s.interval = n + 1 := by
    change k - s.interval = n + 1
    omega
  have step : s.stepClock ms =
      State.judgeRamp (State.takeBoundaries (n + 1) (s.interval + 1) { s with clock := { s.clock with plantMs := ms } }) := by
    rw [State.stepClock]
    dsimp only
    rw [count]
  rw [← hn] at told
  generalize State.takeBoundaries (n + 1) (s.interval + 1) { s with clock := { s.clock with plantMs := ms } } = t at told step
  refine ⟨e, ?_⟩
  rw [step]
  obtain ⟨g, run, q, l, w, p, rfl⟩ := told
  rw [State.judgeRamp_eq (by exact runs)]
  exact ⟨g, run, q, l, w, p, rfl⟩

end Sys2Proof.Machine

open Sys2Proof Sys2Proof.Machine

/-- Settles O54: each mark is refused, the first, or a step of the clock followed by the restart of the mark timer. -/
theorem timeMarks : Obligations.TimeMarks := by
  intro s all snd a b c d m1 m0 rest h hl sound positive body f milli t mark k active
  have run := exec_time h all a b c d m1 m0 hl
  have taken {code : Code} {u : State} (hr : s.heard.timeTaken (word32 a b c d).toNat (word16 m1 m0).toNat = (code, u)) :
      exec (.time all snd body) s = .next (u.answer f [code] []) := by
    rw [hr] at run
    exact run
  have hears : s.heard.portSound := sound
  -- a mark before the interval the clock is in, within it, and beyond it
  have back : t < s.interval * s.plant.interval * 1000 ↔ k < s.interval := by
    rw [← Nat.div_lt_iff_lt_mul (by norm_num), ← Nat.div_lt_iff_lt_mul positive]
  have reached (e : s.interval ≤ k) : s.interval * s.plant.interval * 1000 ≤ t := Nat.not_lt.mp (mt back.mp (Nat.not_lt.mpr e))
  refine ⟨fun hm => taken (if_pos hm), fun hm hc => ?_, fun hm hc early => ?_, fun hm hc inside => ?_, fun hm hc late ordered => ?_, fun hm hc => ?_⟩
  · refine ⟨_, _, taken (State.timeTaken_first hm hc), State.firstMark_sets hears t, fun e => ?_⟩
    rw [List.mem_filter, List.mem_filter, decide_eq_true_iff, bne_iff_ne, and_assoc]
    exact and_congr_right fun _ => (Nat.lt_iff_le_and_ne.trans (and_congr_right fun _ => ne_comm)).symm
  · rw [taken (State.timeTaken_back (s := s.heard) hm (by rw [show s.heard.clock.state = _ from hc]; nofun) early), State.marked_valid (s := s.heard) hc]
    rfl
  · have valid : s.heard.clock.state = .valid := hc
    have runs : s.heard.clock.state ≠ .invalid := by rw [valid]; nofun
    rw [taken (State.timeTaken_step (s := s.heard) hm runs (reached inside.ge)), State.stepClock_within (s := s.heard) runs inside,
      State.marked_valid (s := { s.heard with clock := { s.heard.clock with plantMs := t }, sched := _ }) valid, ← hc]
    rfl
  · have valid : s.heard.clock.state = .valid := hc
    have runs : s.heard.clock.state ≠ .invalid := by rw [valid]; nofun
    obtain ⟨e, told⟩ := State.stepClock_beyond (s := s.heard) hears runs late
    have clock := s.heard.stepClock_clock t
    have plant : (s.heard.stepClock t).plant = s.plant := (s.heard.stepClock_keeps t).agree .plant (by decide)
    have now : (s.heard.stepClock t).now = s.now := (s.heard.stepClock_keeps t).agree .now (by decide)
    have marks : ({ (s.heard.stepClock t).clock with mark := some ((s.heard.stepClock t).now + (s.heard.stepClock t).plant.markTimeout * 1000) } : Clock) =
        ⟨.valid, t, mark⟩ := by
      rw [clock, now, plant, ← hc]
      rfl
    have marked := State.marked_valid (s := s.heard.stepClock t) (by rw [clock]; exact hc)
    rw [marks] at marked
    have left := told.map (g := fun u => { u with clock := ⟨.valid, t, mark⟩ }) ⟨fun _ _ _ => rfl, fun _ => rfl, fun _ => rfl⟩
    rw [← marked] at left
    refine ⟨_, _, _, taken (State.timeTaken_step (s := s.heard) hm runs (reached late.le)), left, fun x => ?_, fun x hx => ?_⟩
    · rw [List.mem_filter, decide_eq_true_iff]
      refine and_congr_right fun hx => ⟨fun h => h.resolve_left ?_, .inr⟩
      exact Nat.not_lt.mpr (ordered.ahead (by rw [hc]; nofun) x hx)
    · obtain ⟨e, ahead⟩ := Option.filter_eq_some_iff.mp hx
      cases e
      exact ⟨rfl, of_decide_eq_true ahead⟩
  · have unsynced : s.heard.clock.state = .unsynced := hc
    have runs : s.heard.clock.state ≠ .invalid := by rw [unsynced]; nofun
    by_cases early : t < s.interval * s.plant.interval * 1000
    · obtain ⟨clock, sched, cause⟩ := State.marked_unsynced unsynced
      exact ⟨_, _, taken (State.timeTaken_back (s := s.heard) hm runs early), by rw [clock], by rw [clock]; rfl, cause,
        fun _ => ⟨rfl, by rw [clock]; rfl, sched⟩, fun on => absurd early (Nat.not_lt.mpr on)⟩
    · have stepped := s.heard.stepClock_clock t
      have plant : (s.heard.stepClock t).plant = s.plant := (s.heard.stepClock_keeps t).agree .plant (by decide)
      have now : (s.heard.stepClock t).now = s.now := (s.heard.stepClock_keeps t).agree .now (by decide)
      obtain ⟨clock, sched, cause⟩ := State.marked_unsynced (s := s.heard.stepClock t) (by rw [stepped]; exact unsynced)
      rw [stepped, now, plant] at clock
      exact ⟨_, _, taken (State.timeTaken_step (s := s.heard) hm runs (Nat.not_lt.mp early)), by rw [clock], by rw [clock], cause,
        fun e => absurd e early, fun _ => ⟨rfl, by rw [clock]⟩⟩

end
section
/-!
PROOFS. Table entries taken one by one, and the writes of the plant table, the pending set and the check word (R102, R167 to R169).
-/

namespace Sys2Proof.Machine

/-! ## A frame of one entry -/

theorem pieces_one {size : Nat} {bs : List Byte} (h : bs.length = size) : pieces size 1 bs = [bs] := by
  rw [pieces, pieces, ← h, List.take_length]

theorem State.withoutWork {s : State} (h : s.mgr.work = none) : { s with mgr := { s.mgr with work := none } } = s := by rw [← h]

section
variable {s : State} {snd : Sender} {t : TableId} {first : Byte} {bytes : List Byte} {n : Nat}

/-- A frame of one entry, answered with its code. -/
theorem exec_entry (h : s.mayCommand snd.src) (hw : s.mgr.work = none) (hn : 1 ≤ n) (hb : bytes.length = 4 * t.words) :
    let r := s.heard.takeTableEntry t first.toNat (wordsOf bytes)
    exec (t.command (.frame snd first 1 bytes n)) s = .next (State.answer { r.2 with mgr := { r.2.mgr with work := none } }
      (sentTo s.node snd kTable (tableFrameBody t first 1 bytes)) [r.1] []) := by
  intro r
  have fits : (tableFrameBody t first 1 bytes).length ≤ 244 := by
    simp only [tableFrameBody, List.length_cons, hb]
    cases t <;> simp [TableId.words]
  obtain ⟨received, finished⟩ := State.receive_table h hw fits n
  have body : tableBody (tableFrameBody t first 1 bytes) = some (t, first.toNat, [wordsOf bytes]) := by
    rw [tableBody_some (by decide) (by decide) (by rw [hb]; exact (Nat.mul_one (4 * t.words)).le) first, show (1 : Byte).toNat = 1 from rfl, pieces_one hb]
    rfl
  obtain ⟨m, rfl⟩ : ∃ m, n = m + 1 := ⟨n - 1, by omega⟩
  have one : State.takeTable t (m + 1) first.toNat [wordsOf bytes] s.heard = ([r.1], [], r.2) := by
    rw [State.takeTable]
    cases m <;> rfl
  rw [exec_table_frame, received, State.takeTableFrame, finished]
  simp only [sentTo, body, State.goOn, one, List.isEmpty_nil, if_true]
  rfl

/-- A taken entry. -/
theorem exec_entry_taken {u : State} (h : s.mayCommand snd.src) (hw : s.mgr.work = none) (hn : 1 ≤ n) (hb : bytes.length = 4 * t.words)
    (hr : s.heard.entryAt t first.toNat (wordsOf bytes) = (.done, u)) (hu : u.mgr.work = none) :
    exec (t.command (.frame snd first 1 bytes n)) s =
      .next (u.editQuiet.answer (sentTo s.node snd kTable (tableFrameBody t first 1 bytes)) [.done] []) := by
  have taken : s.heard.takeTableEntry t first.toNat (wordsOf bytes) = (.done, u.editQuiet) := by
    rw [State.takeTableEntry, hr]
    rfl
  rw [exec_entry h hw hn hb, taken, State.withoutWork (s := u.editQuiet) hu]

/-- A refused entry. -/
theorem exec_entry_refused {c : Code} (h : s.mayCommand snd.src) (hw : s.mgr.work = none) (hn : 1 ≤ n) (hb : bytes.length = 4 * t.words)
    (hc : c ≠ .done) (hr : s.heard.entryAt t first.toNat (wordsOf bytes) = (c, s.heard)) :
    exec (t.command (.frame snd first 1 bytes n)) s =
      .next (s.heard.answer (sentTo s.node snd kTable (tableFrameBody t first 1 bytes)) [c] []) := by
  have refused : s.heard.takeTableEntry t first.toNat (wordsOf bytes) = (c, s.heard) := by
    rw [State.takeTableEntry, hr, if_neg hc]
  rw [exec_entry h hw hn hb, refused, State.withoutWork (s := s.heard) hw]

end

/-! ## The converter in OFF -/

theorem State.flowEnded_idle {s : State} (h : s.manifold.state = .idle) : s.flowEnded = s := by simp only [State.flowEnded, h]

/-- With the manifold IDLE no train that stops to flow moves it. -/
theorem State.moveTrain_idle {s : State} (h : s.manifold.state = .idle) (i : Fin 8) {new : TrainState} (hn : new.flows = false) (v : Int) (c : Cause) :
    Agree [.trains, .disp, .conv] s (s.moveTrain i new v c) := by
  by_cases same : (s.train i).state = new
  · rw [State.moveTrain_same same]
    exact .refl _ s
  · have told : Agree [.trains, .disp, .conv] s ((s.recorded i new v).trainNotice i (.code (s.train i).state.num) (.code new.num) c) :=
      ((s.recorded_leaves i new v).own (State.notify_own _ _ _ _)).agree
    have manifold : State.manifold _ = s.manifold := told .manifold (by decide)
    rw [State.moveTrain_eq same]
    have still : State.manifoldAnswer ((s.recorded i new v).trainNotice i (.code (s.train i).state.num) (.code new.num) c) (s.train i).p.kind
        (s.train i).state new = (s.recorded i new v).trainNotice i (.code (s.train i).state.num) (.code new.num) c := by
      unfold State.manifoldAnswer
      rw [hn, State.flowEnded_idle (by rw [manifold]; exact h)]
      simp only [Bool.false_eq_true, and_false, if_false, ite_self]
    rw [still]
    exact told

/-- With the manifold IDLE the service of the start queue leaves it and the caverns. -/
theorem State.serve_idleManifold {s : State} (h : s.manifold.state = .idle) : Agree [.trains, .disp, .conv] s s.serve := by
  unfold State.serve
  split
  case h_1 i _ _ _ =>
    split
    case isTrue room =>
      have placed := (s.place_own room (s.train i).p.node .start 0).agree.mono (B := [.trains, .disp, .conv]) (by decide)
      have manifold : State.manifold _ = s.manifold := placed .manifold (by decide)
      have taken := (State.withConv_leaves (s.place (s.train i).p.node .start 0) { (s.place (s.train i).p.node .start 0).conv with
        state := .busy i, starts := (s.place (s.train i).p.node .start 0).conv.starts + 1, retry := none }).agree.mono
        (B := [.trains, .disp, .conv]) (by decide)
      exact (placed.trans taken).trans (State.moveTrain_idle (s := State.takeConverter _ i) ((congrArg Manifold.state manifold).trans h) i rfl _ _)
    case isFalse =>
      exact ((s.trainQueueFull_own i .start).agree.mono (by decide)).trans ((State.withConv_leaves _ _).agree.mono (by decide))
  case h_2 => exact .refl _ s

theorem State.converterAvailable_idle {s : State} (h : s.manifold.state = .idle) : Agree [.trains, .disp, .conv] s s.converterAvailable := by
  by_cases fault : s.conv.state = .fault
  · have told : Agree [.trains, .disp, .conv] s
        (State.notify { s with conv := { s.conv with state := .free } } .converterAvailable .none []) :=
      ((s.withConv_leaves _).agree.mono (by decide)).trans ((State.notify_own _ _ _ _).agree.mono (by decide))
    rw [State.converterAvailable_fault fault]
    exact told.trans (State.serve_idleManifold ((congrArg Manifold.state (told .manifold (by decide))).trans h))
  · rw [State.converterAvailable_still fault]
    exact .refl _ s

/-! ## The grid meter after a plant table write -/

theorem State.evalDeviation_congr {s t : State} (h : t.chans = s.chans) (hp : t.plant = s.plant) : t.evalDeviation = s.evalDeviation := by
  have view : t.gridView = s.gridView := by
    unfold State.gridView
    rw [State.gridBound_congr h hp]
    simp only [State.viewOf_congr h]
  rw [State.evalDeviation, State.evalDeviation, view, State.deviation, State.deviation, hp]

theorem State.evalDev_grid (s : State) :
    let dev := decide (s.plant.alarm < magnitude s.evalDeviation)
    s.evalDev.grid = { s.grid with dev := dev, seen := s.grid.seen || (dev && !s.grid.dev) } := by
  intro dev
  rw [State.evalDev_eq]
  split
  · rfl
  · exact (State.notify_own _ _ _ _).agree .grid (by decide)

/-- The grid record after a write of the plant table (R16, R18). -/
theorem State.gridAfterPlant_grid (s : State) (bound : Option Nat) (old : PlantTable) :
    let w := s.gridAfterPlant bound old
    let lost := bound ≠ none ∧ s.gridBound = none ∧ s.grid.tracking = true
    let judged := bound ≠ s.gridBound ∨ s.plant.fNom ≠ old.fNom ∨ s.plant.alarm ≠ old.alarm
    w.grid.lastComp = s.grid.lastComp ∧ w.grid.tracking = (s.grid.tracking && !decide lost) ∧
    w.grid.timer = (if lost then some (s.now + s.plant.fallbackPeriod) else s.grid.timer) ∧
    w.grid.dev = (if judged then decide (s.plant.alarm < magnitude s.evalDeviation) else s.grid.dev) ∧
    w.grid.seen = (s.grid.seen || (w.grid.dev && !s.grid.dev)) := by
  intro w lost judged
  -- the supervision first
  have supervised : ∃ u : State, u.chans = s.chans ∧ u.plant = s.plant ∧ u.grid = { s.grid with
      tracking := s.grid.tracking && !decide lost, timer := if lost then some (s.now + s.plant.fallbackPeriod) else s.grid.timer } ∧
      w = if judged then u.evalDev else u := by
    have changed : (bound ≠ s.gridBound ∨ old.fNom ≠ s.plant.fNom ∨ old.alarm ≠ s.plant.alarm) ↔ judged := by
      simp only [judged, ne_comm]
    by_cases ended : bound.isSome = true ∧ s.gridBound.isNone = true
    · have shape : w = if judged then s.enterFallback.evalDev else s.enterFallback := by
        change (if _ then State.evalDev (if _ then _ else _) else (if _ then _ else _)) = _
        rw [if_pos ended]
        exact if_congr changed rfl rfl
      refine ⟨s.enterFallback, s.enterFallback_keeps.agree .chans (by decide), s.enterFallback_keeps.agree .plant (by decide), ?_, shape⟩
      have lost_iff : lost ↔ s.grid.tracking = true :=
        ⟨fun h => h.2.2, fun h => ⟨Option.isSome_iff_ne_none.mp ended.1, Option.isNone_iff_eq_none.mp ended.2, h⟩⟩
      rw [State.enterFallback_eq]
      simp only [lost_iff]
      cases s.grid.tracking <;> rfl
    · have shape : w = if judged then s.evalDev else s := by
        change (if _ then State.evalDev (if _ then _ else _) else (if _ then _ else _)) = _
        rw [if_neg ended]
        exact if_congr changed rfl rfl
      have kept : ¬ lost := fun h => ended ⟨Option.isSome_iff_ne_none.mpr h.1, Option.isNone_iff_eq_none.mpr h.2.1⟩
      refine ⟨s, rfl, rfl, ?_, shape⟩
      simp only [kept, decide_false, Bool.not_false, Bool.and_true, if_false]
  obtain ⟨u, chans, plant, grid, answer⟩ := supervised
  have deviation := State.evalDeviation_congr chans plant
  rw [answer]
  split
  case isTrue yes =>
    rw [State.evalDev_grid, grid, plant, deviation]
    exact ⟨rfl, rfl, rfl, rfl, rfl⟩
  case isFalse no =>
    rw [grid]
    refine ⟨rfl, rfl, rfl, rfl, ?_⟩
    rw [Bool.and_not_self, Bool.or_false]

end Sys2Proof.Machine
end
section
/-!
PROOFS. The writes of the plant table, the pending set and the check word, assembled.
-/

namespace Sys2Proof.Machine

/-- What a write of the plant table leaves but the grid record: the schedule, the converter, and all it cannot touch. -/
structure Replanted (s t : State) (p : PlantTable) : Prop where
  plant : t.plant = p
  kept : Agree [.plant, .grid, .sched, .table, .trains, .disp, .conv] s t
  grid : t.grid = (s.planted p).grid
  steady : p.convNode ≠ 0 ∨ s.conv.state ≠ .fault → t.conv = s.conv ∧ t.trains = s.trains ∧ t.disp = s.disp
  unclocked : s.clock.state = .invalid → t.sched = s.sched
  cleared : s.clock.state ≠ .invalid → p.interval ≠ s.plant.interval →
    t.sched = ⟨[], ⟨s.clock.plantMs / 1000 / p.interval, p.fallbackNet, p.fallbackRes, 0, false, .fallback⟩, none, 0⟩
  ramped : s.clock.state ≠ .invalid → p.interval = s.plant.interval →
    t.sched.table = s.sched.table ∧ t.sched.active = s.sched.active ∧ t.sched.trim = s.sched.trim

theorem State.judgeRamp_sched (s : State) : ∃ g, s.judgeRamp.sched = { s.sched with ending := g } := by
  unfold State.judgeRamp
  split
  · exact ⟨s.sched.ending, rfl⟩
  · split
    · exact ⟨none, rfl⟩
    · exact ⟨s.sched.ending, rfl⟩

/-- A write of the plant table with the manifold IDLE (R168). -/
theorem State.writePlant_replanted {s : State} {p : PlantTable} {ws : List Word} (hp : plantParams ws = some p) (h : s.manifold.state = .idle) :
    Replanted s (s.writePlant p) p := by
  have reads : plantParams p.toWords = some p := by rw [(plantParams_sound hp).1]; exact hp
  have planted := (State.planted_keeps (s := s) reads).agree
  have plant := s.planted_plant p
  have scheduled := ((s.planted p).scheduleAfterPlant_keeps s.plant).agree
  have before := (planted.mono (B := [.plant, .grid, .sched, .table]) (by decide)).trans (scheduled.mono (by decide))
  have answered : Agree [.trains, .disp, .conv] ((s.planted p).scheduleAfterPlant s.plant) (s.writePlant p) := by
    rw [State.writePlant_eq, State.converterAfterPlant]
    split
    · exact State.converterAvailable_idle ((congrArg Manifold.state (before .manifold (by decide))).trans h)
    · exact .refl _ _
  have sched : (s.writePlant p).sched = ((s.planted p).scheduleAfterPlant s.plant).sched := answered .sched (by decide)
  have clock : (s.planted p).clock = s.clock := planted .clock (by decide)
  refine ⟨?_, (before.mono (by decide)).trans (answered.mono (by decide)), ?_, fun steady => ?_, fun no => ?_, fun runs other => ?_, fun runs same => ?_⟩
  · exact (answered .plant (by decide)).trans ((scheduled .plant (by decide)).trans plant)
  · exact (answered .grid (by decide)).trans (scheduled .grid (by decide))
  · have still : s.writePlant p = (s.planted p).scheduleAfterPlant s.plant := by
      rw [State.writePlant_eq, State.converterAfterPlant]
      split
      case isTrue zero =>
        have conv : ((s.planted p).scheduleAfterPlant s.plant).conv = s.conv := before .conv (by decide)
        have plants : ((s.planted p).scheduleAfterPlant s.plant).plant = p := (scheduled .plant (by decide)).trans plant
        rw [plants] at zero
        exact State.converterAvailable_still (by rw [conv]; exact steady.resolve_left (not_not.mpr zero))
      case isFalse => rfl
    rw [still]
    exact ⟨before .conv (by decide), before .trains (by decide), before .disp (by decide)⟩
  · rw [sched, State.scheduleAfterPlant, if_pos (by rw [clock]; exact no)]
    exact planted .sched (by decide)
  · rw [sched, State.scheduleAfterPlant, if_neg (by rw [clock]; exact runs), if_pos (by rw [plant]; exact other.symm), State.clearSchedule]
    refine ((State.notify_own _ _ _ _).agree .sched (by decide)).trans ?_
    change Schedule.mk _ ((s.planted p).fallbackEntry (s.planted p).interval) _ _ = _
    rw [State.fallbackEntry, State.interval, plant, clock]
  · rw [sched, State.scheduleAfterPlant, if_neg (by rw [clock]; exact runs), if_neg (by rw [plant]; exact not_not.mpr same.symm), State.rampAfresh]
    obtain ⟨g, ramp⟩ := State.judgeRamp_sched { s.planted p with sched := { (s.planted p).sched with
      ending := (s.planted p).sched.ending.map fun x => (x.1, ((s.planted p).interval * (s.planted p).plant.interval + (s.planted p).plant.rampHalf) * 1000) } }
    rw [ramp, show (s.planted p).sched = s.sched from planted .sched (by decide)]
    exact ⟨rfl, rfl, rfl⟩

/-- The grid record of a plant table write (R16, R18, log 24). -/
theorem State.planted_grid (s : State) (p : PlantTable) :
    let g := (s.planted p).grid
    let v : State := { s with plant := p }
    let lost := s.gridBound ≠ none ∧ v.gridBound = none ∧ s.grid.tracking = true
    let judged := s.gridBound ≠ v.gridBound ∨ p.fNom ≠ s.plant.fNom ∨ p.alarm ≠ s.plant.alarm
    g.lastComp = s.grid.lastComp ∧ g.tracking = (s.grid.tracking && !decide lost) ∧
    g.timer = (if lost then some (s.now + p.fallbackPeriod) else s.grid.timer) ∧
    g.dev = (if judged then decide (p.alarm < magnitude v.evalDeviation) else s.grid.dev) ∧
    g.seen = (s.grid.seen || (g.dev && !s.grid.dev)) :=
  State.gridAfterPlant_grid (State.suppressionAfresh { s with plant := p }) s.gridBound s.plant

theorem State.plantEntry_open {s : State} (off : s.mode.mode = .off) (idle : s.manifold.state = .idle) (ws : List Word) : s.plantEntry ws =
    match plantParams ws with
    | none => (.range, s)
    | some p => if s.ownNode p.master || s.ownNode p.gridNode || s.ownNode p.convNode then (.range, s) else (.done, s.writePlant p) := by
  have opened : ¬ s.plantOpen = false := by rw [State.plantOpen, off, idle]; decide
  exact if_neg opened

end Sys2Proof.Machine

open Sys2Proof Sys2Proof.Machine

/-- Settles O50: one entry of each table, the plant table through what its write leaves. -/
theorem plantSetAndCheckWrites : Obligations.PlantSetAndCheckWrites := by
  intro s snd bytes n h hw hn f ws quiet
  refine ⟨fun w hb word => ?_, fun hb => ⟨fun none => ?_, fun p some => ?_⟩, fun hb => ⟨fun closed => ?_, fun off idle => ⟨fun none => ?_, fun p some => ⟨fun own => ?_,
    fun m g c => ?_⟩⟩⟩⟩
  · have entry : s.heard.entryAt .check 0 (wordsOf bytes) = (.done, { s.heard with mgr := { s.mgr with checkWord := w } }) := by
      change State.checkEntry s.heard ws = _
      rw [word]
      rfl
    exact exec_entry_taken (t := .check) (first := 0) h hw hn hb entry hw
  · have entry : s.heard.entryAt .dispatch 0 (wordsOf bytes) = (.range, s.heard) := by
      change State.dispatchEntry s.heard ws = _
      simp only [State.dispatchEntry, none]
    exact exec_entry_refused (t := .dispatch) (first := 0) h hw hn hb (by decide) entry
  · have entry : s.heard.entryAt .dispatch 0 (wordsOf bytes) = (.done, { s.heard with disp := { s.disp with next := p } }) := by
      change State.dispatchEntry s.heard ws = _
      simp only [State.dispatchEntry, some]
      rfl
    exact exec_entry_taken (t := .dispatch) (first := 0) h hw hn hb entry hw
  · have shut : s.plantOpen = false := by
      rw [State.plantOpen, Bool.and_eq_false_iff, beq_eq_false_iff_ne, beq_eq_false_iff_ne]
      exact closed
    exact exec_entry_refused (t := .plant) (first := 0) h hw hn hb (by decide) (show State.plantEntry s.heard ws = _ from if_pos shut)
  · have entry : s.heard.plantEntry ws = (.range, s.heard) := by
      rw [State.plantEntry_open (s := s.heard) off idle, none]
    exact exec_entry_refused (t := .plant) (first := 0) h hw hn hb (by decide) entry
  · have entry : s.heard.plantEntry ws = (.range, s.heard) := by
      rw [State.plantEntry_open (s := s.heard) off idle, some]
      refine if_pos ?_
      simp only [State.ownNode, Bool.or_eq_true, beq_iff_eq, or_assoc]
      exact own
    exact exec_entry_refused (t := .plant) (first := 0) h hw hn hb (by decide) entry
  · have entry : s.heard.plantEntry ws = (.done, s.heard.writePlant p) := by
      rw [State.plantEntry_open (s := s.heard) off idle, some]
      refine if_neg ?_
      simp only [State.ownNode, Bool.or_eq_true, beq_iff_eq, or_assoc]
      exact fun own => own.elim m fun own => own.elim g c
    have left := State.writePlant_replanted (s := s.heard) some idle
    obtain ⟨lastComp, tracking, timer, dev, seen⟩ := s.heard.planted_grid p
    obtain ⟨plant, kept, grid, steady, unclocked, cleared, ramped⟩ := left
    have bound : (s.heard.writePlant p).gridBound = State.gridBound { s.heard with plant := p } :=
      State.gridBound_congr (kept .chans (by decide)) plant
    have deviation : (s.heard.writePlant p).evalDeviation = State.evalDeviation { s.heard with plant := p } :=
      State.evalDeviation_congr (kept .chans (by decide)) plant
    rw [← grid, ← bound] at tracking timer
    rw [← grid, ← bound, ← deviation] at dev
    rw [← grid] at seen lastComp
    generalize s.heard.writePlant p = u at plant kept grid steady unclocked cleared ramped entry lastComp tracking timer dev seen
    have mgr : u.mgr = s.mgr := kept .mgr (by decide)
    have now : u.now = s.now := kept .now (by decide)
    have chans : u.chans = s.chans := kept .chans (by decide)
    have abides : s.abides u := ⟨kept .pending (by decide), kept .held (by decide), kept .node (by decide), now, kept .commit (by decide)⟩
    refine ⟨u.editQuiet, exec_entry_taken (t := .plant) (first := 0) h hw hn hb entry (by rw [mgr]; exact hw), plant, ?_,
      chans, kept .caverns (by decide), kept .stores (by decide), kept .manifold (by decide), kept .clock (by decide),
      congrArg Prod.fst (kept .sets (by decide)), kept .mode (by decide), abides, lastComp, ⟨tracking, timer, dev, seen⟩, steady, unclocked, cleared,
      ramped⟩
    rw [State.editQuiet, State.after, mgr, now]

end
section
/-!
PROOFS. The writes of the record tables (R2, R3, R14, R16, R18, R23, R24, R47, R48, R59, R60).
-/

namespace Sys2Proof.Machine

/-! ## Channels -/

theorem State.channelEntry_duplicate {s : State} {c : Fin 96} {ws : List Word} {p : ChanParams} (hp : chanParams ws = some p)
    (own : p.source ≠ s.node.toNat) (present : p.source ≠ 0)
    (key : ∃ d, d ≠ c ∧ (s.chan d).present = true ∧ (s.chan d).p.source = p.source ∧ (s.chan d).p.slot = p.slot) :
    s.channelEntry c ws = (.duplicate, s) := by
  obtain ⟨d, other, there, source, slot⟩ := key
  have taken : s.keyTaken c p = true :=
    List.any_eq_true.mpr ⟨d, List.mem_finRange d, by simp only [other, there, source, slot, bne_iff_ne, Bool.and_eq_true, beq_iff_eq, and_self, ne_eq, not_false_eq_true]⟩
  simp [State.channelEntry, hp, State.ownNode, own, present, taken]

theorem State.channelEntry_taken {s : State} {c : Fin 96} {ws : List Word} {p : ChanParams} (hp : chanParams ws = some p)
    (own : p.source ≠ s.node.toNat)
    (key : p.source = 0 ∨ ∀ d, d ≠ c → (s.chan d).present = true → (s.chan d).p.source = p.source → (s.chan d).p.slot ≠ p.slot) :
    s.channelEntry c ws = (.done, s.writeChannel c p) := by
  have free : (p.source != 0 && s.keyTaken c p) = false := by
    rcases key with zero | key
    · simp [zero]
    · have untaken : s.keyTaken c p = false := List.any_eq_false.mpr fun d _ h => by
        simp only [Bool.and_eq_true, bne_iff_ne, beq_iff_eq] at h
        obtain ⟨⟨⟨other, there⟩, source⟩, slot⟩ := h
        exact key d other there source slot
      rw [untaken, Bool.and_false]
  simp [State.channelEntry, hp, State.ownNode, own, free]

/-- The deviation of the grid channel just written: only a substitute counts. -/
theorem State.evalDeviation_cleared {s : State} {c : Fin 96} {p : ChanParams} (now : Nat) (hg : s.plant.gridChannel = some c.val) :
    (s.setChan c (clearedChannel p now)).evalDeviation = if p.kind = .frequency ∧ p.substFlag = true ∧ p.source = s.plant.gridNode ∧
      s.plant.gridNode ≠ 0 then sat32 (p.substitute - s.plant.fNom) else 0 := by
  have here : (s.setChan c (clearedChannel p now)).chan c = clearedChannel p now := State.chan_setChan_same _ _ _
  have bound : (s.setChan c (clearedChannel p now)).gridBound =
      if p.source ≠ 0 ∧ p.kind = .frequency ∧ p.source = s.plant.gridNode ∧ s.plant.gridNode ≠ 0 then some c.val else none := by
    have channel : (s.setChan c (clearedChannel p now)).plant.gridChannel = some c.val := hg
    simp only [State.gridBound, channel, State.chanAt_val, here]
    refine if_congr ?_ rfl rfl
    simp only [Channel.present, clearedChannel, Bool.and_eq_true, bne_iff_ne, beq_iff_eq, and_assoc]
    exact Iff.rfl
  by_cases bind : p.source ≠ 0 ∧ p.kind = .frequency ∧ p.source = s.plant.gridNode ∧ s.plant.gridNode ≠ 0
  · rw [if_pos bind] at bound
    obtain ⟨present, kind, node, fed⟩ := bind
    have there : (clearedChannel p now).present = true := bne_iff_ne.mpr present
    have presented : (clearedChannel p now).presented =
        if p.substFlag then { quality := .substituted, inst := p.substitute, avg := p.substitute }
        else { quality := .none, inst := p.clearedValue, avg := p.clearedValue } := Channel.presented_present there
    by_cases subst : p.substFlag = true
    · rw [if_pos subst] at presented
      rw [State.evalDeviation_bound bound (by rw [here, presented]; rfl), here, presented, if_pos ⟨kind, subst, node, fed⟩]
      rfl
    · rw [if_neg subst] at presented
      rw [State.evalDeviation_unusable bound (by rw [here, presented]; rfl), if_neg fun h => subst h.2.1]
  · rw [if_neg bind] at bound
    have unbound : ¬ (p.kind = .frequency ∧ p.substFlag = true ∧ p.source = s.plant.gridNode ∧ s.plant.gridNode ≠ 0) :=
      fun ⟨kind, _, node, fed⟩ => bind ⟨by rw [node]; exact fed, kind, node, fed⟩
    have view : (s.setChan c (clearedChannel p now)).gridView = Machine.unbound := by simp only [State.gridView, bound]
    rw [State.evalDeviation, view, if_neg unbound]
    rfl

/-- What a channel write leaves (R3). -/
theorem State.writeChannel_left (s : State) (c : Fin 96) (p : ChanParams) :
    Agree [.chans, .caverns, .stores, .grid] s (s.writeChannel c p) ∧ (s.writeChannel c p).chans = (s.setChan c (clearedChannel p s.now)).chans := by
  have set : Agree [.chans, .caverns, .stores, .grid] s (s.setChan c (clearedChannel p s.now)) := by
    intro a ha
    cases a <;> first | rfl | exact absurd (by decide) ha
  have told := ((State.deliverQuality_keeps (s.setChan c (clearedChannel p s.now)) c.val).agree.mono (B := [.caverns, .stores, .grid]) (by decide)).trans
    ((State.gridRewritten_keeps _ c.val).agree.mono (by decide))
  exact ⟨set.trans (told.mono (by decide)), told .chans (by decide)⟩

/-- The grid record after a channel write (R16, R18). -/
theorem State.writeChannel_grid (s : State) (c : Fin 96) (p : ChanParams) :
    let t := s.writeChannel c p
    (s.plant.gridChannel ≠ some c.val → t.grid = s.grid) ∧
    (s.plant.gridChannel = some c.val → t.grid.tracking = false ∧ t.grid.lastComp = s.grid.lastComp ∧
      t.grid.timer = (if s.grid.tracking then some (s.now + s.plant.fallbackPeriod) else s.grid.timer) ∧
      t.grid.dev = decide (s.plant.alarm < magnitude (if p.kind = .frequency ∧ p.substFlag = true ∧ p.source = s.plant.gridNode ∧
        s.plant.gridNode ≠ 0 then sat32 (p.substitute - s.plant.fNom) else 0)) ∧
      t.grid.seen = (s.grid.seen || (t.grid.dev && !s.grid.dev))) := by
  intro t
  have told := (State.deliverQuality_keeps (s.setChan c (clearedChannel p s.now)) c.val).agree
  have shape : t = State.gridRewritten ((s.setChan c (clearedChannel p s.now)).deliverQuality c.val) c.val := rfl
  generalize (s.setChan c (clearedChannel p s.now)).deliverQuality c.val = u at told shape
  have plant : u.plant = s.plant := told .plant (by decide)
  have grid : u.grid = s.grid := told .grid (by decide)
  have now : u.now = s.now := told .now (by decide)
  rw [shape, State.gridRewritten, plant]
  refine ⟨fun other => by rw [if_neg other, grid], fun named => ?_⟩
  have deviation : u.enterFallback.evalDeviation = (s.setChan c (clearedChannel p s.now)).evalDeviation :=
    State.evalDeviation_congr ((u.enterFallback_keeps.agree .chans (by decide)).trans (told .chans (by decide)))
      ((u.enterFallback_keeps.agree .plant (by decide)).trans plant)
  have plants : u.enterFallback.plant = s.plant := (u.enterFallback_keeps.agree .plant (by decide)).trans plant
  have supervised : u.enterFallback.grid = { s.grid with
      tracking := false, timer := if s.grid.tracking then some (s.now + s.plant.fallbackPeriod) else s.grid.timer } := by
    rw [State.enterFallback_eq, grid, now, plant]
  rw [if_pos named, State.evalDev_grid, plants, deviation, State.evalDeviation_cleared s.now named, supervised]
  exact ⟨rfl, rfl, rfl, rfl, rfl⟩

end Sys2Proof.Machine
end
section
/-!
PROOFS. The writes of the cavern, store and train tables, and of all record tables together.
-/

namespace Sys2Proof.Machine

/-! ## Caverns -/

theorem State.cavernEntry_taken {s : State} {c : Fin 4} {ws : List Word} {p : CavernParams} (hp : cavernParams ws = some p)
    (own : p.node ≠ s.node.toNat) (shut : (s.cavern c).p.present = false ∨ (s.cavern c).valve = .closed)
    (node : p.present = true → ∀ d, d ≠ c → (s.cavern d).p.present = true → (s.cavern d).p.node ≠ p.node) :
    s.cavernEntry c ws = (.done, s.writeCavern c p) := by
  have closed : ((s.cavern c).p.present && (s.cavern c).valve != .closed) = false := by
    rcases shut with h | h <;> rw [h]
    · rfl
    · exact Bool.and_false _
  have free : (p.present && s.valveNodeTaken c p.node) = false := by
    cases present : p.present with
    | false => rfl
    | true =>
      refine List.any_eq_false.mpr fun d _ h => ?_
      simp only [Bool.and_eq_true, bne_iff_ne, beq_iff_eq] at h
      obtain ⟨⟨other, there⟩, same⟩ := h
      exact node present d other there same
  simp [State.cavernEntry, closed, hp, State.ownNode, own, free]

/-- The bound view of a cavern just written sets its factors alone. -/
theorem Cavern.withView_written (x : Cavern) (p : CavernParams) (v : View) :
    ∃ g a, (x.written p).withView v = { x.written p with gen := g, absorb := a } := by
  unfold Cavern.withView
  split
  · exact ⟨0, 0, rfl⟩
  · split
    · exact ⟨(x.written p).gen, (x.written p).absorb, rfl⟩
    · exact ⟨_, _, rfl⟩

/-- What a cavern write leaves of the caverns (R24), the mode not AUTO. -/
theorem State.writeCavern_left {s : State} {p : CavernParams} (h : s.mode.mode ≠ .auto) (c : Fin 4) :
    (∀ d, d ≠ c → (s.writeCavern c p).cavern d = s.cavern d) ∧
    (∃ g a b, (s.writeCavern c p).cavern c = { (s.cavern c).written p with gen := g, absorb := a, hold := b }) ∧
    (p.present = false → (s.writeCavern c p).cavern c = (s.cavern c).written p) := by
  cases hp : p.present with
  | false =>
    have left : s.writeCavern c p = s.setCavern c ((s.cavern c).written p) := by
      rw [State.writeCavern, hp]
      rfl
    rw [left, State.cavern_setCavern_same]
    exact ⟨fun d hd => by rw [State.cavern_setCavern, if_neg hd], ⟨_, _, _, rfl⟩, fun _ => rfl⟩
  | true =>
    let u := s.setCavern c ((s.cavern c).written p)
    let v := u.setCavern c ((u.cavern c).withView (u.pressure c))
    have mode : (v.evalHold c).mode = s.mode := (v.evalHold_keeps c).agree .mode (by decide)
    have left : s.writeCavern c p = v.evalHold c := by
      have closed : (v.evalHold c).reopen c = v.evalHold c := State.reopen_unmet fun e => h ((congrArg ModeRecord.mode mode).symm.trans e.1)
      rw [State.writeCavern, hp, if_pos rfl]
      refine (if_congr Iff.rfl rfl ?_).trans (ite_self _)
      rw [closed]
      exact ite_self _
    have here : u.cavern c = (s.cavern c).written p := State.cavern_setCavern_same _ _ _
    obtain ⟨g, a, seen⟩ := Cavern.withView_written (s.cavern c) p (u.pressure c)
    have value : v.cavern c = { (s.cavern c).written p with gen := g, absorb := a } := by
      rw [State.cavern_setCavern_same, here, seen]
    have held := State.evalHold_one.value v c nofun
    rw [value] at held
    rw [left]
    refine ⟨fun d hd => ?_, ⟨g, a, _, held⟩, nofun⟩
    rw [State.evalHold_one.other _ _ _ hd, State.cavern_setCavern, if_neg hd, State.cavern_setCavern, if_neg hd]

/-! ## Stores -/

theorem State.storeEntry_taken {s : State} {m : Fin 3} {ws : List Word} {p : StoreParams} (hp : storeParams ws = some p)
    (once : channelTwice p.layers = false) (still : ∀ i, (s.train i).assignedTo m = true → (s.train i).flowing = false) :
    s.storeEntry m ws = (.done, s.writeStore m p) := by
  have idle : s.assignedFlowing m = [] := by
    refine List.filter_eq_nil_iff.mpr fun i hi => ?_
    rw [still i (List.mem_filter.mp hi).2]
    exact Bool.false_ne_true
  simp [State.storeEntry, idle, hp, once]

/-- What a store write leaves (R48). -/
theorem State.writeStore_left (s : State) (m : Fin 3) (p : StoreParams) :
    (∀ d, d ≠ m → (s.writeStore m p).store d = s.store d) ∧
    (s.writeStore m p).store m = if p.present then Store.recomputed { s.store m with p := p, views := p.layers.map s.layerView }
      else Store.emptied { s.store m with p := p } := by
  have told (x : Store) : Own (s.setStore m x) ((s.setStore m x).storeNotice m (s.store m).quality) := State.storeNotice_own _ _ _
  refine ⟨fun d hd => ?_, ?_⟩
  · exact ((told _).agree.store (by decide) d).trans (by rw [State.store_setStore, if_neg hd])
  · exact ((told _).agree.store (by decide) m).trans (State.store_setStore_same _ _ _)

/-! ## Trains -/

theorem State.trainEntry_taken {s : State} {i : Fin 8} {ws : List Word} {p : TrainParams} (hp : trainParams ws = some p)
    (own : p.node ≠ s.node.toNat) (off : (s.train i).present = false ∨ (s.train i).state = .offline)
    (slot : p.kind ≠ .absent → ∀ j, j ≠ i → (s.train j).present = true →
      (s.train j).p.node ≠ p.node ∧ ((s.train j).p.kind = p.kind → (s.train j).p.position ≠ p.position)) :
    s.trainEntry i ws = (.done, s.writeTrain i p) := by
  have offline : ((s.train i).present && (s.train i).state != .offline) = false := by
    rcases off with h | h <;> rw [h]
    · rfl
    · exact Bool.and_false _
  have free : (p.kind != .absent && s.slotTaken i p) = false := by
    by_cases absent : p.kind = .absent
    · rw [absent]
      rfl
    · have untaken : s.slotTaken i p = false := List.any_eq_false.mpr fun j _ h => by
        simp only [Bool.and_eq_true, Bool.or_eq_true, bne_iff_ne, beq_iff_eq] at h
        obtain ⟨⟨other, there⟩, same⟩ := h
        obtain ⟨node, position⟩ := slot absent j other there
        exact same.elim (fun e => position e.1 e.2) node
      rw [untaken, Bool.and_false]
  simp [State.trainEntry, offline, hp, State.ownNode, own, free]

/-- What a train write leaves of the slots (R60). -/
theorem State.writeTrain_left (s : State) (i : Fin 8) (p : TrainParams) :
    (∀ j, j ≠ i → (s.writeTrain i p).train j = s.train j) ∧
    (p.kind = .absent → (s.writeTrain i p).train i = (s.train i).dropped p) ∧
    (p.kind ≠ .absent → (s.train i).present = true → (s.writeTrain i p).train i = { s.train i with p := p }) ∧
    (p.kind ≠ .absent → (s.train i).present = false → (s.writeTrain i p).train i = (s.train i).entered p s.now) := by
  have set {t : State} {x : Train} (h : Own (s.setTrain i x) t) : (∀ j, j ≠ i → t.train j = s.train j) ∧ t.train i = x :=
    ⟨fun j hj => (h.agree.train (by decide) j).trans (by rw [State.train_setTrain, if_neg hj]),
      (h.agree.train (by decide) i).trans (State.train_setTrain_same _ _ _)⟩
  by_cases absent : p.kind = .absent
  · have left : Own (s.setTrain i ((s.train i).dropped p)) (s.writeTrain i p) := by
      rw [State.writeTrain, if_pos absent]
      exact .ite (fun _ => State.notify_own _ _ _ _) fun _ => .refl _
    exact ⟨(set left).1, fun _ => (set left).2, fun h => absurd absent h, fun h => absurd absent h⟩
  · cases present : (s.train i).present with
    | true =>
      have left : Own (s.setTrain i { s.train i with p := p }) (s.writeTrain i p) := by
        rw [State.writeTrain, if_neg absent, present, if_pos rfl]
        exact .refl _
      exact ⟨(set left).1, fun h => absurd h absent, fun _ _ => (set left).2, fun _ h => Bool.noConfusion h⟩
    | false =>
      have left : Own (s.setTrain i ((s.train i).entered p s.now)) (s.writeTrain i p) := by
        rw [State.writeTrain, if_neg absent, present, if_neg Bool.false_ne_true]
        exact State.notify_own _ _ _ _
      exact ⟨(set left).1, fun h => absurd h absent, fun _ h => Bool.noConfusion h, fun _ _ => (set left).2⟩

end Sys2Proof.Machine
end
section
/-!
PROOFS. The writes of the record tables, assembled.
-/

namespace Sys2Proof.Machine

/-- An aspect list a record write leaves: all but the records themselves, the edit-quiet timer aside. -/
theorem Agree.abides {A : List Aspect} {s t : State} (h : Agree A s t)
    (hA : Aspect.pending ∉ A ∧ Aspect.held ∉ A ∧ Aspect.node ∉ A ∧ Aspect.now ∉ A ∧ Aspect.commit ∉ A := by decide) : s.abides t := by
  obtain ⟨pending, held, node, now, commit⟩ := hA
  exact ⟨h .pending pending, h .held held, h .node node, h .now now, h .commit commit⟩

theorem State.entryAt_channel {n : Nat} {c : Fin 96} (h : n = c.val) (s : State) (ws : List Word) : s.entryAt .channel n ws = s.channelEntry c ws := by
  subst h
  exact dif_pos c.isLt

theorem State.entryAt_cavern {n : Nat} {c : Fin 4} (h : n = c.val) (s : State) (ws : List Word) : s.entryAt .cavern n ws = s.cavernEntry c ws := by
  subst h
  exact dif_pos c.isLt

theorem State.entryAt_store {n : Nat} {m : Fin 3} (h : n = m.val) (s : State) (ws : List Word) : s.entryAt .store n ws = s.storeEntry m ws := by
  subst h
  exact dif_pos m.isLt

theorem State.entryAt_train {n : Nat} {i : Fin 8} (h : n = i.val) (s : State) (ws : List Word) : s.entryAt .train n ws = s.trainEntry i ws := by
  subst h
  exact dif_pos i.isLt

end Sys2Proof.Machine

open Sys2Proof Sys2Proof.Machine

/-- Settles O51: one taken entry of each record table, by what its write leaves. -/
theorem recordWrites : Obligations.RecordWrites := by
  intro s snd first bytes n h hw hn f ws own
  refine ⟨fun c p hf hb hp source present key => ?_, fun c p hf hb hp source key => ?channel, fun c p hf hb hp node shut mode twice => ?cavern,
    fun m p hf hb hp once still => ?store, fun i p hf hb hp node off slot => ?train⟩
  · exact exec_entry_refused (t := .channel) h hw hn hb (by decide)
      ((State.entryAt_channel hf s.heard ws).trans (State.channelEntry_duplicate (s := s.heard) hp source present key))
  case channel =>
    have entry := (State.entryAt_channel hf s.heard ws).trans (State.channelEntry_taken (s := s.heard) hp source key)
    obtain ⟨kept, chans⟩ := s.heard.writeChannel_left c p
    obtain ⟨other, named⟩ := s.heard.writeChannel_grid c p
    generalize s.heard.writeChannel c p = u at entry kept chans other named
    have mgr : u.mgr = s.mgr := kept .mgr (by decide)
    have now : u.now = s.now := kept .now (by decide)
    have chan (d : Fin 96) : u.chan d = if d = c then clearedChannel p s.now else s.chan d :=
      (congrArg (fun v : Vector Channel 96 => v.get d) chans).trans (State.chan_setChan _ _ _ _)
    have quiet : u.editQuiet.mgr = { s.mgr with quiet := some (s.now + 10000) } := by rw [State.editQuiet, State.after, mgr, now]
    have abides : s.abides u := kept.abides
    exact ⟨u.editQuiet, exec_entry_taken (t := .channel) h hw hn hb entry (by rw [mgr]; exact hw),
      fun d hd => (chan d).trans (if_neg hd), (chan c).trans (if_pos rfl), other, named, kept .plant (by decide), kept .trains (by decide),
      kept .conv (by decide), kept .manifold (by decide), kept .clock (by decide), kept .sched (by decide), kept .disp (by decide),
      kept .mode (by decide), quiet, abides⟩
  case cavern =>
    intro x
    have entry := (State.entryAt_cavern hf s.heard ws).trans (State.cavernEntry_taken (s := s.heard) hp node shut twice)
    have kept := (State.writeCavern_keeps (s := s.heard) (c := c) (p := p) (by rw [cavernParams_words hp]; exact hp)).agree
    obtain ⟨others, ⟨g, a, b, left⟩, absent⟩ := State.writeCavern_left (s := s.heard) (p := p) mode c
    generalize s.heard.writeCavern c p = u at entry kept others left absent
    have mgr : u.mgr = s.mgr := kept .mgr (by decide)
    have abides : s.abides u := kept.abides
    refine ⟨u.editQuiet, exec_entry_taken (t := .cavern) h hw hn hb entry (by rw [mgr]; exact hw), others, congrArg Cavern.p left,
      congrArg Cavern.timer left, congrArg Cavern.rates left, congrArg Cavern.rateValid left, ?_, ?_, fun none => ?_,
      kept .plant (by decide), kept .chans (by decide), kept .trains (by decide), kept .stores (by decide), kept .conv (by decide),
      kept .manifold (by decide), kept .clock (by decide), kept .sched (by decide), kept .disp (by decide), kept .mode (by decide),
      kept .grid (by decide), abides⟩
    · refine (congrArg Cavern.valve left).trans (if_congr ?_ rfl rfl)
      rw [Bool.and_eq_true, Bool.and_eq_true, beq_iff_eq, and_assoc]
      exact Iff.rfl
    · refine (congrArg Cavern.mark left).trans (if_congr ?_ rfl rfl)
      rw [Bool.and_eq_true]
      exact Iff.rfl
    · have written := absent none
      refine ⟨(congrArg Cavern.gen written).trans ?_, (congrArg Cavern.absorb written).trans ?_, (congrArg Cavern.hold written).trans ?_⟩ <;>
        exact if_neg (by rw [none]; exact Bool.false_ne_true)
  case store =>
    have entry := (State.entryAt_store hf s.heard ws).trans (State.storeEntry_taken (s := s.heard) hp once still)
    have kept := (State.writeStore_keeps (s := s.heard) (m := m) (p := p) (by rw [storeParams_words hp]; exact hp)).agree
    obtain ⟨others, left⟩ := s.heard.writeStore_left m p
    generalize s.heard.writeStore m p = u at entry kept others left
    have mgr : u.mgr = s.mgr := kept .mgr (by decide)
    have abides : s.abides u := kept.abides
    refine ⟨u.editQuiet, exec_entry_taken (t := .store) h hw hn hb entry (by rw [mgr]; exact hw), others, ?_, fun present => ?_, fun none => ?_,
      kept .plant (by decide), kept .chans (by decide), kept .trains (by decide), kept .caverns (by decide), kept .conv (by decide),
      kept .manifold (by decide), kept .clock (by decide), kept .sched (by decide), kept .disp (by decide), kept .mode (by decide),
      kept .grid (by decide), abides⟩
    · refine (congrArg Store.p left).trans ?_
      split <;> rfl
    · rw [if_pos present] at left
      change (u.store m).views = _ ∧ (u.store m).energy = (u.store m).energyOf ∧ (u.store m).quality = (u.store m).qualityOf
      rw [left]
      exact ⟨rfl, rfl, rfl⟩
    · rw [if_neg (by rw [none]; exact Bool.false_ne_true)] at left
      change (u.store m).energy = _ ∧ (u.store m).quality = _ ∧ (u.store m).gen = _ ∧ (u.store m).absorb = _
      rw [left]
      exact ⟨rfl, rfl, rfl, rfl⟩
  case train =>
    intro x
    have entry := (State.entryAt_train hf s.heard ws).trans (State.trainEntry_taken (s := s.heard) hp node off slot)
    have kept := (State.writeTrain_keeps (s := s.heard) (i := i) (p := p) (by rw [(trainParams_sound hp).1]; exact hp)
      fun there => off.resolve_left fun e => Bool.false_ne_true (e.symm.trans there)).agree
    obtain ⟨others, absent, stays, enters⟩ := s.heard.writeTrain_left i p
    generalize s.heard.writeTrain i p = u at entry kept others absent stays enters
    have mgr : u.mgr = s.mgr := kept .mgr (by decide)
    have abides : s.abides u := kept.abides
    exact ⟨u.editQuiet, exec_entry_taken (t := .train) h hw hn hb entry (by rw [mgr]; exact hw), others, absent, stays, enters,
      kept .plant (by decide), kept .chans (by decide), kept .stores (by decide), kept .caverns (by decide), kept .conv (by decide),
      kept .manifold (by decide), kept .clock (by decide), kept .sched (by decide), kept .disp (by decide), kept .mode (by decide),
      kept .grid (by decide), abides⟩

end

end
